-- ==== Sys2Proof/Word.lean ====
section
/-! DEFINITION. The plain data words of the station: bytes, samples, superframe numbers, line windows. -/

namespace Sys2Proof

/-- A byte of the boot memory or of an LMP frame (R188). -/
abbrev Byte := BitVec 8

/-- A 24-bit two's complement sample (R8). -/
abbrev Sample := BitVec 24

/-- A superframe number; its arithmetic is modulo 65536 (spec/00_scope.md, section 8). -/
abbrev Superframe := BitVec 16

/-- What the receive window of one data slot held, first tick in the top bit, 1 = dominant (R188, R189). -/
abbrev SlotWindow := BitVec 32

/-- What the receive window of slots 1 to 7 held, first tick in the top bit, 1 = dominant (R188, R190). -/
abbrev CellWindow := BitVec 224

/-- Ticks of the line in the order they came, 1 = dominant, and by how many ticks the first of them came before the local
start of the current frame (R5, R188). -/
structure LineTicks where
  lead : Int
  ticks : List Bool
  deriving DecidableEq, Repr

/-- What stands on the line in a window. `sound`: the line is whole and carries the dominant combination of what this
station drives with `others`, the ticks that the rest of the trunk drives (R3). `failed`: the line fails and the receiver
hears `heard`, whatever this station drives (R11, R30). -/
inductive OnLine (α : Type) where
  | sound (others : α)
  | failed (heard : α)
  deriving DecidableEq, Repr

/-- What a line operand holds, sound or failed. -/
def OnLine.value {α : Type} : OnLine α → α
  | .sound x => x
  | .failed x => x

/-- What comes at the start of a data slot: its number, and the action code and index of an LMP ACT that is taken at the
same instant, after the takes and before the line interface decides whether to drive (R8, R132). -/
structure SlotStart where
  slot : Nat
  act : Option (Byte × Byte)
  deriving DecidableEq, Repr

/-- The 32-bit payload of an ANSWER (R7, R190). -/
abbrev Payload := BitVec 32

end Sys2Proof
end

