-- ==== Sys2Proof/Syntax.lean ====
section
/-! DEFINITION. The commands of the station: one constructor per row of spec/opcode_table.json. -/

namespace Sys2Proof

/-- A command: an operation of the local controller or an event at the station's pins or frame timer.
The table gives no operands; each constructor carries what its rule needs. The rows named for something that
comes about INSIDE a frame start, a marker report, a received slot or a received cell carry that event's operands
(log entry 1). `shifted` is, for each port, the bits shifted in during the port frame that ends, in order (R155). `line`
is what stood on the line (R3). -/
inductive Instr where
  /-- COLD_RESET (R178). -/
  | coldReset
  /-- RESET_RELEASE (R178). -/
  | resetRelease
  /-- BOOT_START_BYTE (R179): the first byte read. -/
  | bootStartByte (b : Byte)
  /-- BOOT_LENGTH_BYTE (R179): the second byte read. -/
  | bootLengthByte (b : Byte)
  /-- BOOT_READ_COMPLETE (R179): the bytes after the length byte, up to the last one. -/
  | bootReadComplete (rest : List Byte)
  /-- LMP_IDENT (R182). -/
  | lmpIdent
  /-- READ_STATION (R183). -/
  | readStation (index : Byte)
  /-- READ_SUMMARY (R183). -/
  | readSummary (index : Byte)
  /-- READ_SYNC (R183). -/
  | readSync (index : Byte)
  /-- READ_CONTROL (R183). -/
  | readControl (index : Byte)
  /-- READ_PEER (R183). -/
  | readPeer (index : Byte)
  /-- READ_ALLOCATOR (R183). -/
  | readAllocator (index : Byte)
  /-- READ_SLOT (R183). -/
  | readSlot (index : Byte)
  /-- READ_SOURCE (R183). -/
  | readSource (index : Byte)
  /-- READ_SINK (R183). -/
  | readSink (index : Byte)
  /-- READ_PORT (R183). -/
  | readPort (index : Byte)
  /-- READ_REQUEST (R183). -/
  | readRequest (index : Byte)
  /-- ACT_MUTE_SOURCE (R132, R184). -/
  | actMuteSource (index : Byte)
  /-- ACT_UNMUTE_SOURCE (R132, R184). -/
  | actUnmuteSource (index : Byte)
  /-- ACT_RESEEK_SOURCE (R132, R184). -/
  | actReseekSource (index : Byte)
  /-- ACT_MUTE_SINK (R150, R184). -/
  | actMuteSink (index : Byte)
  /-- ACT_UNMUTE_SINK (R150, R184). -/
  | actUnmuteSink (index : Byte)
  /-- ACT_CLEAR_COUNTERS (R184). -/
  | actClearCounters (index : Byte)
  /-- ACT_RESTART (R36, R184). -/
  | actRestart (index : Byte)
  /-- RELAY_PROBE (R171). -/
  | relayProbe (target code index : Byte)
  /-- RELAY_COMMAND (R171). -/
  | relayCommand (target code index : Byte)
  /-- RELAY_RESULT (R175). -/
  | relayResult (handle : Byte)
  /-- TAKE_NOTICE (R185). -/
  | takeNotice
  /-- LOAD_IMAGE (R181): the bytes after the kind byte. -/
  | loadImage (image : List Byte)
  /-- LMP_BAD_REQUEST (R182): the request frame, kind byte first. -/
  | lmpBadRequest (frame : List Byte)
  /-- LMP_TRANSACTION_END (R182): how many response bytes had been shifted out whole. -/
  | lmpTransactionEnd (shifted : Nat)
  /-- FRAME_START (R1). -/
  | frameStart (shifted : List (List Bool))
  /-- LISTEN_LIMIT_EXPIRY (R21): the frame start at which the listen limit expires. -/
  | listenLimitExpiry (shifted : List (List Bool))
  /-- ACQUIRE_TIMEOUT (R23): the frame start at which the acquire count reaches 64. -/
  | acquireTimeout (shifted : List (List Bool))
  /-- LEARN_PERIOD_COMPLETE (R24): the frame start that carries the 8th boundary of LEARN. -/
  | learnPeriodComplete (shifted : List (List Bool))
  /-- ENTER_LOCKED (R24): the frame start after the 8th boundary of LEARN. -/
  | enterLocked (shifted : List (List Bool))
  /-- FOUNDING_TRIAL_END (R27): the frame start that carries the first boundary in FOUNDING. -/
  | foundingTrialEnd (shifted : List (List Bool))
  /-- MARKER_REPORT (R5): the ticks of the line about the frame start, as far as it takes to recognise every marker that
  begins by local tick 1023. -/
  | markerReport (line : OnLine LineTicks)
  /-- EDGE_MISS_LIMIT (R22): the report that brings the edge-miss count to 3. -/
  | edgeMissLimit (line : OnLine LineTicks)
  /-- YIELD (R28): the report that brings the foreign-earlier count to 2. -/
  | yieldTrunk (line : OnLine LineTicks)
  /-- LINE_FAULT (R30): the report that brings the edge-miss count to 4 while driving. -/
  | lineFault (line : OnLine LineTicks)
  /-- DATA_SLOT_START (R8): with an LMP ACT that meets it (R132). -/
  | dataSlotStart (start : SlotStart)
  /-- DATA_SLOT_RECEIVED (R9). -/
  | dataSlotReceived (slot : Nat) (line : OnLine SlotWindow)
  /-- FORCED_RELEASE (R121): the received slot whose readback brings a collision tally to 16. -/
  | forcedRelease (slot : Nat) (line : OnLine SlotWindow)
  /-- SINK_STARVED (R143): the received slot that completes a 64th all-silent capture. -/
  | sinkStarved (slot : Nat) (line : OnLine SlotWindow)
  /-- BUILD_OWN_CELL (R53). -/
  | buildOwnCell
  /-- OWN_CELL_SENT (R58). -/
  | ownCellSent
  /-- OWN_CELL_READBACK (R11): what slots 1 to 7 of the own frame held. -/
  | ownCellReadback (line : OnLine CellWindow)
  /-- DUPLICATE_ID_MISMATCH (R31): the readback that brings the mismatch count to 2. -/
  | duplicateIdMismatch (line : OnLine CellWindow)
  /-- CELL_RECEIVED (R41): what slots 1 to 7 held. -/
  | cellReceived (line : OnLine CellWindow)
  /-- PEER_DEPARTURE (R67): the received cell that is a peer's fourth missed turn. -/
  | peerDeparture (line : OnLine CellWindow)
  /-- PEER_CLAIM_MATURITY (R93): the frame start at whose boundary a peer's run for `tag` matures. -/
  | peerClaimMaturity (tag : Nat) (shifted : List (List Bool))
  /-- OWN_CLAIM_MATURITY (R94): the frame start at whose boundary the run of local source `source` matures. -/
  | ownClaimMaturity (source : Nat) (shifted : List (List Bool))
  /-- LEASE_LAPSE (R95): the frame start at whose boundary the lease of the run for `tag` reaches 0. -/
  | leaseLapse (tag : Nat) (shifted : List (List Bool))
  /-- REFRESH_DUE (R97): the frame start at whose boundary the refresh count of `source` reaches 8. -/
  | refreshDue (source : Nat) (shifted : List (List Bool))
  /-- BACKOFF_EXPIRY (R124): the frame start at whose boundary the backoff count of `source` reaches 0. -/
  | backoffExpiry (source : Nat) (shifted : List (List Bool))
  /-- RELAY_TIMEOUT (R173): the frame start at whose boundary the entry at `handle` meets its deadline. -/
  | relayTimeout (handle : Nat) (shifted : List (List Bool))
  /-- BRIDGE_STROBE (R158): the number of bit periods since the previous strobe, and the bits clocked in the first 192 of
  them (R155). -/
  | bridgeStrobe (port periods : Nat) (bits : List Bool)
  /-- CLOCK_WATCH_EXPIRY (R161): the frame start that brings the watch count of `port` to 64. -/
  | clockWatchExpiry (port : Nat) (shifted : List (List Bool))
  deriving DecidableEq, Repr

end Sys2Proof
end

