-- ==== Sys2Proof/Decode.lean ====
section
/-! DEFINITION. The decoder the host asks for. spec/opcode_table.json gives no row any bits, so no word spells a
command (log entry 4). The codings the spec does give (cells, images, LMP frames) stand in Machine/Formats.lean and
Machine/Image.lean. -/

namespace Sys2Proof

/-- The command a word of the table's bits spells: no row of the table has bits. -/
def decodeTableWord (nbits w : Nat) : Option Instr :=
  match nbits, w with
  | _, _ => none

end Sys2Proof
end

