-- ==== Sys2Proof/Config.lean ====
section
/-! DEFINITION. What an implementation fixes, and the one value the spec leaves free. -/

namespace Sys2Proof

/-- The part code IDENT returns (R192). -/
def Config.partCode : Nat := 0x4816

/-- The revision byte IDENT returns (R192). -/
def Config.revision : Nat := 0x01

/-- How many ticks after a FOLLOW strobe the 192 bit periods of its port frame end. R157 says only that they end
within every frame of 2046 to 2050 ticks; the value decides whether a shorter alignment-jump frame is cut short.
FREE VALUE (log entry 8): nothing is known of it. -/
opaque Config.followBitTicks : Nat

end Sys2Proof
end

