-- ==== Sys2Proof/Machine/State.lean ====
section
/-! DEFINITION. Everything the spec gives the station to hold, as plain data, and its value after cold reset. -/

namespace Sys2Proof.Machine

/-- Why a step could stop with a fault. No rule of the spec stops the station: every error is a notice, a counter, a
status or a line (log entry 27), so there is no such reason. -/
inductive Fault where
  deriving DecidableEq, Repr

/-- Why a command has no meaning. -/
inductive Refusal where
  /-- Raised by a refused arm of `exec` alone, for a row whose meaning is not written. Safe: the model stops where the
  station goes on. No arm raises it now. -/
  | notModelled (mnemonic : String)
  deriving DecidableEq, Repr

/-! ### Sync controller -/

/-- The sync states (R15). -/
inductive SyncState where
  | configLoad | configWait | configFault | listen | acquire | learn | founding | locked | leaving | mute
  deriving DecidableEq, Repr

/-- The counters of R18. -/
structure SyncCounters where
  disagreeing : Nat
  resyncs : Nat
  yields : Nat
  lineFaults : Nat
  foreignLater : Nat
  deriving DecidableEq, Repr

/-- The state of the frame timer and sync controller (R15). -/
structure Sync where
  state : SyncState
  /-- Local tick of the last timed event of the frame (log entry 2). -/
  tick : Nat
  frameIndex : Nat
  superframe : Superframe
  /-- Scheduled advance in ticks (R16). -/
  advance : Int
  /-- Number of qualifying edges of the qualification record (R20). -/
  qualEdges : Nat
  /-- Lead of the last qualifying edge; absent when there is none (R20). -/
  qualLead : Option Int
  listenCount : Nat
  acquireCount : Nat
  edgeMiss : Nat
  learnCount : Nat
  foreignEarlier : Nat
  mismatch : Nat
  freshPending : Bool
  leading : Bool
  /-- While the frame of the alignment jump runs, that frame's length in ticks (R20, R157). -/
  jump : Option Nat
  counters : SyncCounters
  deriving DecidableEq, Repr

/-! ### Cells and the outgoing queue -/

/-- The subjects of a PROBE (R7). -/
inductive Subject where
  | summary | peer | slot | source | sink
  deriving DecidableEq, Repr

/-- The actions of a COMMAND or an LMP ACT (R7). -/
inductive Action where
  | muteSource | unmuteSource | reseekSource | muteSink | unmuteSink | clearCounters | restart
  deriving DecidableEq, Repr

/-- Subjects and actions share one code space (R190). -/
inductive Code where
  | subject (s : Subject)
  | action (a : Action)
  deriving DecidableEq, Repr

/-- The statuses of an ANSWER (R7). -/
inductive AnswerStatus where
  | done | refused | notNow | noSuch
  deriving DecidableEq, Repr

/-- The bits of one item position (R190). -/
abbrev ItemBits := BitVec 56

/-- A control cell's header and item positions (R6). -/
structure Cell where
  sender : Nat
  superframe : Superframe
  count : Nat
  fresh : Bool
  /-- The three item positions, in order. -/
  items : List ItemBits
  deriving DecidableEq, Repr

/-- An item read from an item position; codes are kept as numbers, to be checked by R46. -/
inductive Item where
  | claim (tag first count priority : Nat)
  | offer (tag first count priority : Nat) (objection : Bool)
  | release (tag first count : Nat)
  | leave
  | probe (target reqNo subject index : Nat)
  | command (target reqNo action index : Nat)
  | answer (addressee reqNo status code : Nat) (payload : Payload)
  | unknown (kind : Nat)
  deriving DecidableEq, Repr

/-- A run of slots: first slot and count (R73). -/
structure Run where
  first : Nat
  count : Nat
  deriving DecidableEq, Repr

/-- A queued item (R48). A RELEASE is marked `stale` once its source has left the RELEASING that posted it (R114,
log entry 12). -/
inductive QItem where
  | claim (source : Nat)
  | offer (source : Nat) (objection : Bool)
  | release (source tag : Nat) (run : Run) (stale : Bool)
  | probe (handle reqNo target : Nat) (subject : Subject) (index : Nat)
  | command (handle reqNo target : Nat) (action : Action) (index : Nat)
  | answer (addressee reqNo : Nat) (status : AnswerStatus) (code : Code) (payload : Payload)
  | leave
  deriving DecidableEq, Repr

/-- An item placed in the built cell, with the run a CLAIM was assigned (R55). -/
structure Placed where
  item : QItem
  run : Option Run
  bits : ItemBits
  deriving DecidableEq, Repr

/-- The own cell between its build and its sent event (R53, R58). -/
structure Built where
  superframe : Superframe
  fresh : Bool
  placed : List Placed
  deriving DecidableEq, Repr

/-- A disagreement: sender id and correction (R32). -/
structure Disagreement where
  sender : Nat
  correction : Nat
  deriving DecidableEq, Repr

/-- The cell receiver (R32, R47). -/
structure CellRx where
  disagreement : Option Disagreement
  damagedCells : Nat
  malformedItems : Nat
  ownIdCells : Nat
  deriving DecidableEq, Repr

/-- The cell transmitter (R48, R59). -/
structure CellTx where
  /-- The outgoing control queue, oldest first. -/
  queue : List QItem
  built : Option Built
  fullQueueLosses : Nat
  lostAnswers : Nat
  cellsSent : Nat
  deriving DecidableEq, Repr

/-! ### Line interface -/

/-- What the line interface drives in the slot last begun (R4, log entry 32). -/
inductive Drive where
  | nothing
  | marker
  | cell (window : CellWindow)
  | data (slot source : Nat) (sample : Sample) (valid : Bool)
  deriving DecidableEq, Repr

/-- A data word handed over by the source engine for a slot of this frame (R8). -/
structure HandedWord where
  slot : Nat
  source : Nat
  sample : Sample
  valid : Bool
  deriving DecidableEq, Repr

/-- Ticks that this station drove one after another, 1 = dominant, and the local tick of the first of them, counted from
the start of the frame in progress (R3, R4). -/
structure Driven where
  start : Int
  ticks : List Bool
  deriving DecidableEq, Repr

/-- The line interface. -/
structure Line where
  drive : Drive
  handed : List HandedWord
  /-- The own cell as driven, kept for its readback (R11). -/
  ownCell : Option Cell
  /-- Length in ticks of the frame last ended (R16). -/
  frameTicks : Nat
  /-- What this station drove in the frame before and in this one, as far as a marker report can look back (R3, R5). -/
  driven : List Driven
  /-- The greatest lead of an edge that belongs to this frame's report: the report before ended at that frame's tick 1023
  (R5, log entry 29). -/
  reportFrom : Int
  deriving DecidableEq, Repr

/-! ### Peer table -/

/-- Presence of an id (R61). -/
inductive Presence where
  | absent | present | departed | self
  deriving DecidableEq, Repr

/-- A peer entry (R61). -/
structure Peer where
  presence : Presence
  missed : Nat
  lastHeard : Option Superframe
  damagedCells : Nat
  deriving DecidableEq, Repr

/-! ### Slot allocator -/

/-- The state of a slot map entry with the fields present in it (R73). -/
inductive SlotUse where
  | free
  | stray
  | pending (holder tag priority : Nat) (maturity : Superframe)
  | held (holder tag priority lease : Nat)
  | owned (holder tag priority : Nat)
  deriving DecidableEq, Repr

/-- A slot map entry (R73, R13). -/
structure Slot where
  use : SlotUse
  carrier : Nat
  deriving DecidableEq, Repr

/-- A stream directory entry (R101). `active` is clear while PENDING. -/
structure DirEntry where
  tag : Nat
  station : Nat
  first : Nat
  count : Nat
  priority : Nat
  active : Bool
  isLocal : Bool
  deriving DecidableEq, Repr

/-- The counters of R99 and R112. -/
structure AllocCounters where
  claimsIgnored : Nat
  claimsOverridden : Nat
  overlapsResolved : Nat
  objectionsPosted : Nat
  lapses : Nat
  strayEntries : Nat
  tagItemsIgnored : Nat
  tagEntriesRemoved : Nat
  localClashes : Nat
  deriving DecidableEq, Repr

/-- The slot allocator: slot map (entry 0 is data slot 8), directory, counters. -/
structure Alloc where
  slots : List Slot
  dir : List DirEntry
  counters : AllocCounters
  deriving DecidableEq, Repr

/-! ### Sources -/

/-- Source states (R114). -/
inductive SourceState where
  | idle | seeking | claiming | owned | backoff | blocked | releasing | clashed | halted
  deriving DecidableEq, Repr

/-- The queued item field of a source (R114). -/
inductive QueuedItem where
  | nothing | claim | release
  deriving DecidableEq, Repr

/-- A source record of the image (R191). -/
structure SourceConfig where
  tag : Nat
  channels : Nat
  priority : Nat
  port : Nat
  firstLane : Nat
  deriving DecidableEq, Repr

/-- The counters of R133. -/
structure SourceCounters where
  underruns : Nat
  slips : Nat
  overflows : Nat
  collisions : Nat
  defeats : Nat
  deriving DecidableEq, Repr

/-- A configured source's context (R114). -/
structure Source where
  cfg : SourceConfig
  state : SourceState
  run : Option Run
  queuedItem : QueuedItem
  backoff : Nat
  refresh : Nat
  tally : Nat
  slipGuard : Nat
  lastSent : Option (List Sample)
  muted : Bool
  queue : List (List Sample)
  counters : SourceCounters
  /-- Set once a DAMAGED readback has been counted in the current frame (R121). -/
  collidedNow : Bool
  deriving DecidableEq, Repr

/-! ### Sinks -/

/-- The mark of one captured channel (R136, R140). -/
inductive Mark where
  | good (sample : Sample)
  | invalid | silent | damaged
  deriving DecidableEq, Repr

/-- Gap policies (R136). -/
inductive GapPolicy where
  | hold | zero
  deriving DecidableEq, Repr

/-- Sink states (R136). -/
inductive SinkState where
  | unbound | mismatch | filling | running | starved
  deriving DecidableEq, Repr

/-- A sink record of the image (R191). -/
structure SinkConfig where
  tag : Nat
  channels : Nat
  port : Nat
  firstLane : Nat
  target : Nat
  gap : GapPolicy
  deriving DecidableEq, Repr

/-- The counters of R151. -/
structure SinkCounters where
  gaps : Nat
  slips : Nat
  overflows : Nat
  underflows : Nat
  deriving DecidableEq, Repr

/-- A configured sink's context (R136). -/
structure Sink where
  cfg : SinkConfig
  state : SinkState
  run : Option Run
  capture : Option (List Mark)
  muted : Bool
  queue : List (List Mark)
  lastGood : List Sample
  lastOutput : Option (List Sample)
  silentRun : Nat
  slipGuard : Nat
  counters : SinkCounters
  deriving DecidableEq, Repr

/-! ### Ports -/

/-- Port directions (R155). -/
inductive Direction where
  | input | output
  deriving DecidableEq, Repr

/-- Port clockings (R155). -/
inductive Clocking where
  | follow | bridge
  deriving DecidableEq, Repr

/-- Clock statuses (R161). -/
inductive ClockStatus where
  | active | lost
  deriving DecidableEq, Repr

/-- A port record of the image (R191). -/
structure PortConfig where
  direction : Direction
  clocking : Clocking
  deriving DecidableEq, Repr

/-- A port (R155, R163). -/
structure Port where
  cfg : Option PortConfig
  primed : Bool
  clock : Option ClockStatus
  watch : Nat
  shortFrames : Nat
  clockLosses : Nat
  /-- The lanes an OUT port shifts out in the current port frame; empty while the pins are undriven (R156, R160). -/
  lanesOut : List Sample
  deriving DecidableEq, Repr

/-! ### Request unit -/

/-- A relay result (R164). -/
inductive RelayOutcome where
  | answered (status : AnswerStatus) (code : Code) (payload : Payload)
  | timeout | noPeer | aborted | dropped
  deriving DecidableEq, Repr

/-- The state of a relay entry with its sent superframe and result (R164). -/
inductive RelayPhase where
  | queued
  | awaiting (sent : Superframe)
  | done (sent : Option Superframe) (result : RelayOutcome)
  deriving DecidableEq, Repr

/-- A relay entry; its handle is its position and its kind is that of `code` (R164). -/
structure Relay where
  reqNo : Nat
  target : Nat
  code : Code
  index : Nat
  phase : RelayPhase
  deriving DecidableEq, Repr

/-- The counters of R177. -/
structure ReqCounters where
  probesAnswered : Nat
  commandsExecuted : Nat
  commandsRefused : Nat
  unanswered : Nat
  lateAnswers : Nat
  relayTimeouts : Nat
  deriving DecidableEq, Repr

/-- The request unit (R164). -/
structure ReqUnit where
  table : List (Option Relay)
  nextNo : Nat
  counters : ReqCounters
  deriving DecidableEq, Repr

/-! ### Configuration loader -/

/-- Configuration statuses (R178, R193). -/
inductive ConfigStatus where
  | loading | waiting | faulted | accepted
  deriving DecidableEq, Repr

/-- Fault reasons (R180). -/
inductive FaultReason where
  | badCheck | badLength | badId | dupTag | countRange | portConflict | laneOverlap | laneOverflow
  deriving DecidableEq, Repr

/-- Image origins (R181). -/
inductive Origin where
  | boot | lmp
  deriving DecidableEq, Repr

/-- A configuration image's values (R191). -/
structure Image where
  stationId : Nat
  founding : Bool
  managers : List Nat
  ports : List PortConfig
  sources : List SourceConfig
  sinks : List SinkConfig
  deriving DecidableEq, Repr

/-- How far the boot read has come; BOOT_CS_N is released in `released` alone (R179). -/
inductive BootPhase where
  | startByte
  | lengthByte
  | remaining (length : Nat)
  | released
  deriving DecidableEq, Repr

/-- The configuration loader (R178). -/
structure Loader where
  status : ConfigStatus
  reason : Option FaultReason
  origin : Option Origin
  image : Option Image
  boot : BootPhase
  deriving DecidableEq, Repr

/-! ### Management port -/

/-- Causes of a SYNC notice (R40). -/
inductive SyncCause where
  | founded | locked | yielded | resynced | left | restarted | markersLost
  deriving DecidableEq, Repr

/-- Causes of a PEER notice (R63, R65, R67, R69). -/
inductive PeerCause where
  | joined | rejoined | departed | left
  deriving DecidableEq, Repr

/-- Causes of a SOURCE notice with their further fields (R134). -/
inductive SourceEvent where
  | owned (run : Run)
  | defeated (run : Run) (station : Nat)
  | blocked
  | collided (run : Run)
  | clashed (run : Option Run) (station : Nat)
  deriving DecidableEq, Repr

/-- Causes of a SINK notice with their further fields (R153). -/
inductive SinkEvent where
  | bound (station : Nat) (run : Run)
  | mismatch (station count : Nat)
  | unbound
  | running (run : Run) (target : Nat)
  | starved (run : Run)
  | resumed (run : Run)
  deriving DecidableEq, Repr

/-- Causes of a FAULT notice with their fields (R30, R34, R161, R181). -/
inductive FaultEvent where
  | lineFault
  | duplicateId
  | configFault (reason : FaultReason) (origin : Origin)
  | clockLost (port : Nat) (superframe : Superframe)
  | clockRestored (port : Nat) (superframe : Superframe)
  deriving DecidableEq, Repr

/-- A notice (R185, R192). -/
inductive Notice where
  | sync (cause : SyncCause) (state : SyncState) (frameIndex : Nat) (superframe : Superframe)
  | peer (cause : PeerCause) (id : Nat) (superframe : Superframe) (runs : Nat)
  | source (number tag : Nat) (event : SourceEvent)
  | sink (number tag : Nat) (event : SinkEvent)
  | relay (handle reqNo target : Nat) (result : RelayOutcome)
  | fault (event : FaultEvent)
  | lost (count : Nat)
  deriving DecidableEq, Repr

/-- What the completion of an LMP transaction does (R182). -/
inductive OnComplete where
  | nothing
  | removeNotice
  | freeRelay (handle : Nat)
  deriving DecidableEq, Repr

/-- An LMP transaction whose request has been taken: its response frame and what its completion does (R182). -/
structure LmpTransaction where
  response : List Byte
  onComplete : OnComplete
  deriving DecidableEq, Repr

/-- The management port (R178, R185). -/
structure Mgmt where
  notices : List Notice
  lost : Nat
  lmp : Option LmpTransaction
  deriving DecidableEq, Repr

/-! ### The station -/

/-- Everything the station holds, and the commands waiting for it, first in, first out. -/
structure State where
  pending : List Instr
  /-- Set while RESET_N is low (R178). -/
  resetLow : Bool
  loader : Loader
  sync : Sync
  line : Line
  rx : CellRx
  tx : CellTx
  peers : List Peer
  alloc : Alloc
  /-- The configured sources, by number. -/
  sources : List Source
  /-- The configured sinks, by number. -/
  sinks : List Sink
  ports : List Port
  req : ReqUnit
  mgmt : Mgmt
  deriving DecidableEq, Repr

/-- The sync controller after cold reset (R15, R18). -/
def Sync.cold : Sync where
  state := .configLoad
  tick := 0
  frameIndex := 0
  superframe := 0
  advance := 0
  qualEdges := 0
  qualLead := none
  listenCount := 0
  acquireCount := 0
  edgeMiss := 0
  learnCount := 0
  foreignEarlier := 0
  mismatch := 0
  freshPending := false
  leading := false
  jump := none
  counters := ⟨0, 0, 0, 0, 0⟩

/-- A peer entry after cold reset (R61). -/
def Peer.cold : Peer := ⟨.absent, 0, none, 0⟩

/-- A slot map entry after cold reset (R75). -/
def Slot.cold : Slot := ⟨.free, 0⟩

/-- A port after cold reset (R163). -/
def Port.cold : Port := ⟨none, false, none, 0, 0, 0, []⟩

/-- The station right after cold reset: RESET_N has risen, CONFIG_LOAD, the boot read is about to take its start byte
(R178, log entry 3), no command waiting. -/
def State.reset : State where
  pending := []
  resetLow := false
  loader := ⟨.loading, none, none, none, .startByte⟩
  sync := .cold
  line := ⟨.nothing, [], none, 0, [], 0⟩
  rx := ⟨none, 0, 0, 0⟩
  tx := ⟨[], none, 0, 0, 0⟩
  peers := List.replicate 32 .cold
  alloc := ⟨List.replicate 56 .cold, [], ⟨0, 0, 0, 0, 0, 0, 0, 0, 0⟩⟩
  sources := []
  sinks := []
  ports := List.replicate 4 .cold
  req := ⟨List.replicate 4 none, 0, ⟨0, 0, 0, 0, 0, 0⟩⟩
  mgmt := ⟨[], 0, none⟩

end Sys2Proof.Machine
end

