-- ==== Sys2Proof/Machine/Formats.lean ====
section
/-! DEFINITION. Chapter 12: the trunk coding, the item layouts, the LMP encodings and every enumerated code. -/

namespace Sys2Proof.Machine

/-! ### Bits and bytes (R188) -/

/-- The low `w` bits of `v`, most significant first. -/
def bitsOf : Nat → Nat → List Bool
  | 0, _ => []
  | w + 1, v => v.testBit w :: bitsOf w v

/-- The number a list of bits spells, most significant first. -/
def natOf (bits : List Bool) : Nat := bits.foldl (fun acc b => 2 * acc + cond b 1 0) 0

/-- The value of the `w` bits after the first `off`. -/
def field (off w : Nat) (bits : List Bool) : Nat := natOf ((bits.drop off).take w)

/-- Fields (width, value) sent one after another without a gap. -/
def fieldBits : List (Nat × Nat) → List Bool
  | [] => []
  | (w, v) :: rest => bitsOf w v ++ fieldBits rest

/-- A bit list cut or filled with 0 to `n` bits. -/
def padTo (n : Nat) (bits : List Bool) : List Bool := (bits ++ List.replicate n false).take n

/-- A flag as a one-bit value. -/
def flagVal (b : Bool) : Nat := if b then 1 else 0

/-- A one-byte field. -/
def byte1 (n : Nat) : List Byte := [BitVec.ofNat 8 n]

/-- A two-byte field, high byte first. -/
def byte2 (n : Nat) : List Byte := [BitVec.ofNat 8 (n / 256), BitVec.ofNat 8 n]

/-- A one-byte field, FFh when absent (R192). -/
def byte1? : Option Nat → List Byte
  | some n => byte1 n
  | none => [0xFF#8]

/-- A two-byte field, FFFFh when absent (R192). -/
def byte2? : Option Nat → List Byte
  | some n => byte2 n
  | none => [0xFF#8, 0xFF#8]

/-- A superframe number that can be absent: presence byte, then the number or 0000h (R192). -/
def byteSf? : Option Superframe → List Byte
  | some s => 0x01#8 :: byte2 s.toNat
  | none => [0x00#8, 0x00#8, 0x00#8]

/-- A set of flags, first-listed flag in bit 0 (R192). -/
def flagsByte (flags : List Bool) : List Byte := byte1 (natOf flags.reverse)

/-! ### Enumerations (R190, R192, R193) -/

/-- Sync state codes (R193). -/
def SyncState.code : SyncState → Nat
  | .configLoad => 0 | .configWait => 1 | .configFault => 2 | .listen => 3 | .acquire => 4
  | .learn => 5 | .founding => 6 | .locked => 7 | .leaving => 8 | .mute => 9

/-- Presence codes (R193). -/
def Presence.code : Presence → Nat
  | .absent => 0 | .present => 1 | .departed => 2 | .self => 3

/-- Slot state codes (R193). -/
def SlotUse.code : SlotUse → Nat
  | .free => 0 | .pending .. => 1 | .held .. => 2 | .owned .. => 3 | .stray => 4

/-- Source state codes (R193). -/
def SourceState.code : SourceState → Nat
  | .idle => 0 | .seeking => 1 | .claiming => 2 | .owned => 3 | .backoff => 4
  | .blocked => 5 | .releasing => 6 | .clashed => 7 | .halted => 8

/-- Sink state codes (R193). -/
def SinkState.code : SinkState → Nat
  | .unbound => 0 | .mismatch => 1 | .filling => 2 | .running => 3 | .starved => 4

/-- Relay entry state codes (R193). -/
def RelayPhase.stateCode : RelayPhase → Nat
  | .queued => 0 | .awaiting _ => 1 | .done _ _ => 2

/-- Relay result codes (R193). -/
def RelayOutcome.code : RelayOutcome → Nat
  | .answered .. => 1 | .timeout => 2 | .noPeer => 3 | .aborted => 4 | .dropped => 5

/-- Direction codes (R193). -/
def Direction.code : Direction → Nat
  | .input => 0 | .output => 1

/-- Clocking codes (R193). -/
def Clocking.code : Clocking → Nat
  | .follow => 0 | .bridge => 1

/-- Clock status codes (R193). -/
def ClockStatus.code : ClockStatus → Nat
  | .active => 0 | .lost => 1

/-- Gap policy codes (R193). -/
def GapPolicy.code : GapPolicy → Nat
  | .hold => 0 | .zero => 1

/-- Configuration status codes (R193). -/
def ConfigStatus.code : ConfigStatus → Nat
  | .loading => 0 | .waiting => 1 | .faulted => 2 | .accepted => 3

/-- Fault reason codes (R193). -/
def FaultReason.code : FaultReason → Nat
  | .badCheck => 1 | .badLength => 2 | .badId => 3 | .dupTag => 4
  | .countRange => 5 | .portConflict => 6 | .laneOverlap => 7 | .laneOverflow => 8

/-- Image origin codes (R193). -/
def Origin.code : Origin → Nat
  | .boot => 0 | .lmp => 1

/-- Subject codes (R190). -/
def Subject.code : Subject → Nat
  | .summary => 1 | .peer => 2 | .slot => 3 | .source => 4 | .sink => 5

/-- Action codes (R190). -/
def Action.code : Action → Nat
  | .muteSource => 8 | .unmuteSource => 9 | .reseekSource => 10 | .muteSink => 11
  | .unmuteSink => 12 | .clearCounters => 13 | .restart => 14

/-- The shared code space of subjects and actions (R190). -/
def Code.code : Code → Nat
  | .subject s => s.code
  | .action a => a.code

/-- The subject a code names (R190). -/
def subjectOf : Nat → Option Subject
  | 1 => some .summary | 2 => some .peer | 3 => some .slot | 4 => some .source | 5 => some .sink
  | _ => none

/-- The action a code names (R190). -/
def actionOf : Nat → Option Action
  | 8 => some .muteSource | 9 => some .unmuteSource | 10 => some .reseekSource | 11 => some .muteSink
  | 12 => some .unmuteSink | 13 => some .clearCounters | 14 => some .restart
  | _ => none

/-- The subject or action a code names (R190). -/
def codeOf (n : Nat) : Option Code :=
  match subjectOf n with
  | some s => some (.subject s)
  | none => (actionOf n).map .action

/-- ANSWER status codes (R190). -/
def AnswerStatus.code : AnswerStatus → Nat
  | .done => 0 | .refused => 1 | .notNow => 2 | .noSuch => 3

/-- The status an ANSWER's status code names (R190). -/
def answerStatusOf : Nat → Option AnswerStatus
  | 0 => some .done | 1 => some .refused | 2 => some .notNow | 3 => some .noSuch
  | _ => none

/-! ### Trunk coding -/

/-- The marker: 32 dominant ticks (R189). -/
def markerPattern : SlotWindow := 0xFFFFFFFF#32

/-- The slot check of a sample and valid flag in a data slot: 2 (1 + (S mod 63)) (R189). -/
def slotCheck (slot : Nat) (sample : Sample) (valid : Bool) : Nat :=
  2 * (1 + (sample.toNat / 65536 + sample.toNat / 256 % 256 + sample.toNat % 256 + flagVal valid + slot) % 63)

/-- A data word as driven in a slot: sample, valid flag, slot check (R189). -/
def dataWord (slot : Nat) (sample : Sample) (valid : Bool) : SlotWindow :=
  BitVec.ofNat 32 (sample.toNat * 256 + flagVal valid * 128 + slotCheck slot sample valid)

/-- The sample bits of a slot window (R189). -/
def windowSample (w : SlotWindow) : Sample := BitVec.ofNat 24 (w.toNat / 256)

/-- The valid flag of a slot window (R189). -/
def windowValid (w : SlotWindow) : Bool := w.toNat / 128 % 2 == 1

/-- The check bits of a slot window (R189). -/
def windowCheck (w : SlotWindow) : Nat := w.toNat % 128

/-- One step of the CRC-16: polynomial x^16 + x^12 + x^5 + 1, most significant bit first (R190). -/
def crcStep (c : BitVec 16) (b : Bool) : BitVec 16 :=
  if c.msb != b then (c <<< 1) ^^^ 0x1021#16 else c <<< 1

/-- The CRC-16 of a bit string: initial value FFFFh, no final inversion (R190). -/
def crc16 (bits : List Bool) : BitVec 16 := bits.foldl crcStep 0xFFFF#16

/-- The header bits of a cell (R190). -/
def Cell.headerBits (c : Cell) : List Bool :=
  fieldBits [(5, c.sender), (16, c.superframe.toNat), (3, c.count), (1, flagVal c.fresh)]

/-- Item position `n` of a cell; a position not filled holds the empty item (R190). -/
def Cell.item (c : Cell) (n : Nat) : ItemBits := c.items.getD n 0

/-- The 193 bits the CRC covers: header and the three item positions (R190). -/
def Cell.checkedBits (c : Cell) : List Bool :=
  c.headerBits ++ (bitsOf 56 (c.item 0).toNat ++ (bitsOf 56 (c.item 1).toNat ++ bitsOf 56 (c.item 2).toNat))

/-- The 210-bit string of a cell: the checked bits, the CRC, one fill bit of 0 (R190). -/
def Cell.string (c : Cell) : List Bool :=
  c.checkedBits ++ (bitsOf 16 (crc16 c.checkedBits).toNat ++ [false])

/-- `n` blocks of a recessive tick, a dominant tick and 30 bits (R190). -/
def blocksOf : Nat → List Bool → List Bool
  | 0, _ => []
  | n + 1, bits => false :: true :: (bits.take 30 ++ blocksOf n (bits.drop 30))

/-- The bits of `n` blocks, if each begins with a recessive and then a dominant tick (R190). -/
def unblock : Nat → List Bool → Option (List Bool)
  | 0, _ => some []
  | n + 1, false :: true :: rest => (unblock n (rest.drop 30)).map (rest.take 30 ++ ·)
  | _ + 1, _ => none

/-- The 224 ticks of slots 1 to 7 that carry a cell (R190). -/
def encodeCell (c : Cell) : CellWindow := BitVec.ofNat 224 (natOf (blocksOf 7 c.string))

/-- The cell a 210-bit string holds, if its CRC and fill bit are right (R190). -/
def readCell (bits : List Bool) : Option Cell :=
  if field 193 16 bits == (crc16 (bits.take 193)).toNat && field 209 1 bits == 0 then
    some { sender := field 0 5 bits, superframe := BitVec.ofNat 16 (field 5 16 bits), count := field 21 3 bits,
           fresh := field 24 1 bits == 1,
           items := [BitVec.ofNat 56 (field 25 56 bits), BitVec.ofNat 56 (field 81 56 bits),
                     BitVec.ofNat 56 (field 137 56 bits)] }
  else none

/-- The cell the 224 ticks of slots 1 to 7 hold, if the blocks and the check are right (R190). -/
def decodeCell (w : CellWindow) : Option Cell := (unblock 7 (bitsOf 224 w.toNat)).bind readCell

/-! ### Items (R190) -/

/-- The bits of an item: its kind, its fields, and 0 up to 56 bits. -/
def Item.bits : Item → ItemBits
  | .claim tag first count priority => pack [(4, 1), (12, tag), (6, first), (4, count), (2, priority)]
  | .offer tag first count priority objection =>
    pack [(4, 2), (12, tag), (6, first), (4, count), (2, priority), (1, flagVal objection)]
  | .release tag first count => pack [(4, 3), (12, tag), (6, first), (4, count)]
  | .leave => pack [(4, 4)]
  | .probe target reqNo subject index => pack [(4, 5), (5, target), (8, reqNo), (4, subject), (6, index)]
  | .command target reqNo action index => pack [(4, 6), (5, target), (8, reqNo), (4, action), (6, index)]
  | .answer addressee reqNo status code payload =>
    pack [(4, 7), (5, addressee), (8, reqNo), (3, status), (4, code), (32, payload.toNat)]
  | .unknown kind => pack [(4, kind)]
where
  /-- Fields sent from the most significant bit, filled with 0. -/
  pack (fields : List (Nat × Nat)) : ItemBits := BitVec.ofNat 56 (natOf (padTo 56 (fieldBits fields)))

/-- The item of an item position; bits after its last field are not looked at. -/
def decodeItem (bits : ItemBits) : Item :=
  let b := bitsOf 56 bits.toNat
  match field 0 4 b with
  | 1 => .claim (field 4 12 b) (field 16 6 b) (field 22 4 b) (field 26 2 b)
  | 2 => .offer (field 4 12 b) (field 16 6 b) (field 22 4 b) (field 26 2 b) (field 28 1 b == 1)
  | 3 => .release (field 4 12 b) (field 16 6 b) (field 22 4 b)
  | 4 => .leave
  | 5 => .probe (field 4 5 b) (field 9 8 b) (field 17 4 b) (field 21 6 b)
  | 6 => .command (field 4 5 b) (field 9 8 b) (field 17 4 b) (field 21 6 b)
  | 7 => .answer (field 4 5 b) (field 9 8 b) (field 17 3 b) (field 20 4 b) (BitVec.ofNat 32 (field 24 32 b))
  | k => .unknown k

/-- A 32-bit payload filled from its most significant bit, bits not used 0 (R190). -/
def payloadOf (fields : List (Nat × Nat)) : Payload := BitVec.ofNat 32 (natOf (padTo 32 (fieldBits fields)))

/-- The four bytes of a payload, high byte first (R188). -/
def payloadBytes (p : Payload) : List Byte := byte2 (p.toNat / 65536) ++ byte2 (p.toNat % 65536)

/-! ### LMP response frames (R192) -/

/-- The status codes of a response frame (R192). -/
inductive LmpStatus where
  | done | accepted | rejected | notNow | noSuch | badRequest | badTarget | noPeer | busy | pending | empty
  deriving DecidableEq, Repr

/-- Response status codes (R192). -/
def LmpStatus.code : LmpStatus → Nat
  | .done => 0x00 | .accepted => 0x01 | .rejected => 0x02 | .notNow => 0x03 | .noSuch => 0x04
  | .badRequest => 0x05 | .badTarget => 0x06 | .noPeer => 0x07 | .busy => 0x08 | .pending => 0x09 | .empty => 0x0A

/-- A response frame: status byte, body-length byte, body (R192). -/
def responseFrame (status : LmpStatus) (body : List Byte) : List Byte :=
  byte1 status.code ++ (byte1 body.length ++ body)

/-- Whether a request frame, kind byte first, is one the management port answers BAD_REQUEST: a kind, group,
subject or action code that names nothing, an ACT or RELAY_COMMAND whose code names a subject, a RELAY_PROBE whose
code names an action, an index above 63 where R182 bounds it, a RELAY_RESULT handle above 3 (R182, R192). -/
def frameIsBad : List Byte → Bool
  | [] => false
  | kind :: args =>
    match kind.toNat, args.map BitVec.toNat with
    | 0x01, _ => false
    | 0x02, group :: _ :: _ => decide (10 < group)
    | 0x03, action :: index :: _ => (actionOf action).isNone || decide (63 < index)
    | 0x04, _ :: subject :: index :: _ => (subjectOf subject).isNone || decide (63 < index)
    | 0x05, _ :: action :: index :: _ => (actionOf action).isNone || decide (63 < index)
    | 0x06, handle :: _ => decide (3 < handle)
    | 0x07, _ => false
    | 0x08, _ => false
    | k, _ => decide (8 < k) || decide (k = 0)

/-! ### Notice records (R192) -/

/-- SYNC cause codes (R192). -/
def SyncCause.code : SyncCause → Nat
  | .founded => 1 | .locked => 2 | .yielded => 3 | .resynced => 4 | .left => 5 | .restarted => 6 | .markersLost => 7

/-- PEER cause codes (R192). -/
def PeerCause.code : PeerCause → Nat
  | .joined => 1 | .rejoined => 2 | .departed => 3 | .left => 4

/-- The cause and field bytes of a SOURCE notice: source, tag, first slot, count, station id (R192). A field a cause
does not carry is unused (00h); the run of a CLASHED source that held none is absent (FFh, log entry 15). -/
def sourceEventBytes (number tag : Nat) : SourceEvent → List Byte
  | .owned r => byte1 1 ++ (byte1 number ++ (byte2 tag ++ (byte1 r.first ++ (byte1 r.count ++ byte1 0))))
  | .defeated r x => byte1 2 ++ (byte1 number ++ (byte2 tag ++ (byte1 r.first ++ (byte1 r.count ++ byte1 x))))
  | .blocked => byte1 3 ++ (byte1 number ++ (byte2 tag ++ [0, 0, 0]))
  | .collided r => byte1 4 ++ (byte1 number ++ (byte2 tag ++ (byte1 r.first ++ (byte1 r.count ++ byte1 0))))
  | .clashed r x =>
    byte1 5 ++ (byte1 number ++ (byte2 tag ++ (byte1? (r.map Run.first) ++ (byte1? (r.map Run.count) ++ byte1 x))))

/-- The cause and field bytes of a SINK notice: sink, tag, station id, first slot or entry count, count or target
depth; a RUNNING notice sends no station id byte (R192). -/
def sinkEventBytes (number tag : Nat) : SinkEvent → List Byte
  | .bound x r => byte1 1 ++ (byte1 number ++ (byte2 tag ++ (byte1 x ++ (byte1 r.first ++ byte1 r.count))))
  | .mismatch x c => byte1 2 ++ (byte1 number ++ (byte2 tag ++ (byte1 x ++ (byte1 c ++ byte1 0))))
  | .unbound => byte1 3 ++ (byte1 number ++ (byte2 tag ++ [0, 0, 0]))
  | .running r t => byte1 4 ++ (byte1 number ++ (byte2 tag ++ (byte1 r.first ++ (byte1 r.count ++ byte1 t))))
  | .starved r => byte1 5 ++ (byte1 number ++ (byte2 tag ++ (byte1 0 ++ (byte1 r.first ++ byte1 r.count))))
  | .resumed r => byte1 6 ++ (byte1 number ++ (byte2 tag ++ (byte1 0 ++ (byte1 r.first ++ byte1 r.count))))

/-- The remote status byte of a RELAY notice; unused (00h) unless ANSWERED (log entry 15). -/
def RelayOutcome.remoteStatus : RelayOutcome → Nat
  | .answered st _ _ => st.code
  | _ => 0

/-- The cause and field bytes of a FAULT notice (R192). -/
def faultEventBytes : FaultEvent → List Byte
  | .lineFault => byte1 1 ++ [0, 0, 0, 0, 0, 0]
  | .duplicateId => byte1 2 ++ [0, 0, 0, 0, 0, 0]
  | .configFault r o => byte1 3 ++ (byte1 r.code ++ (byte1 o.code ++ [0, 0, 0, 0]))
  | .clockLost p sf => byte1 4 ++ (byte1 p ++ (byte2 sf.toNat ++ [0, 0, 0]))
  | .clockRestored p sf => byte1 5 ++ (byte1 p ++ (byte2 sf.toNat ++ [0, 0, 0]))

/-- The 8-byte record of a notice (R192). -/
def Notice.bytes : Notice → List Byte
  | .sync c st i sf => byte1 1 ++ (byte1 c.code ++ (byte1 st.code ++ (byte1 i ++ (byte2 sf.toNat ++ [0, 0]))))
  | .peer c id sf runs => byte1 2 ++ (byte1 c.code ++ (byte1 id ++ (byte2 sf.toNat ++ (byte1 runs ++ [0, 0]))))
  | .source n t e => byte1 3 ++ sourceEventBytes n t e
  | .sink n t e => byte1 4 ++ sinkEventBytes n t e
  | .relay h q x r =>
    byte1 5 ++ (byte1 r.code ++ (byte1 h ++ (byte1 q ++ (byte1 x ++ (byte1 r.remoteStatus ++ [0, 0])))))
  | .fault e => byte1 6 ++ faultEventBytes e
  | .lost c => byte1 7 ++ (byte1 0 ++ (byte2 c ++ [0, 0, 0, 0]))

end Sys2Proof.Machine
end

