-- ==== Sys2Proof/Machine/Ops.lean ====
section
/-! DEFINITION. The named operations every meaning is built from: one update per block of the state, counters, the
notice queue, runs in the slot map and the directory. -/

namespace Sys2Proof.Machine

/-! ### One update per block -/

/-- Update the configuration loader. -/
def State.modLoader (f : Loader → Loader) (s : State) : State := { s with loader := f s.loader }
/-- Update the sync controller. -/
def State.modSync (f : Sync → Sync) (s : State) : State := { s with sync := f s.sync }
/-- Update the line interface. -/
def State.modLine (f : Line → Line) (s : State) : State := { s with line := f s.line }
/-- Update the cell receiver. -/
def State.modRx (f : CellRx → CellRx) (s : State) : State := { s with rx := f s.rx }
/-- Update the cell transmitter. -/
def State.modTx (f : CellTx → CellTx) (s : State) : State := { s with tx := f s.tx }
/-- Update the peer table. -/
def State.modPeers (f : List Peer → List Peer) (s : State) : State := { s with peers := f s.peers }
/-- Update the slot allocator. -/
def State.modAlloc (f : Alloc → Alloc) (s : State) : State := { s with alloc := f s.alloc }
/-- Update the source contexts. -/
def State.modSources (f : List Source → List Source) (s : State) : State := { s with sources := f s.sources }
/-- Update the sink contexts. -/
def State.modSinks (f : List Sink → List Sink) (s : State) : State := { s with sinks := f s.sinks }
/-- Update the ports. -/
def State.modPorts (f : List Port → List Port) (s : State) : State := { s with ports := f s.ports }
/-- Update the request unit. -/
def State.modReq (f : ReqUnit → ReqUnit) (s : State) : State := { s with req := f s.req }
/-- Update the management port. -/
def State.modMgmt (f : Mgmt → Mgmt) (s : State) : State := { s with mgmt := f s.mgmt }

/-- Update the context of source `n`, if it is configured. -/
def State.modSource (n : Nat) (f : Source → Source) (s : State) : State := s.modSources (fun l => l.modify n f)
/-- Update the context of sink `n`, if it is configured. -/
def State.modSink (n : Nat) (f : Sink → Sink) (s : State) : State := s.modSinks (fun l => l.modify n f)
/-- Update port `n`. -/
def State.modPort (n : Nat) (f : Port → Port) (s : State) : State := s.modPorts (fun l => l.modify n f)
/-- Update the peer entry of `id`. -/
def State.modPeer (id : Nat) (f : Peer → Peer) (s : State) : State := s.modPeers (fun l => l.modify id f)

/-! ### Counters -/

/-- A 16-bit counter saturates at 65535 (R18, R47, R59, R61, R99, R112, R133, R151, R163, R177, R185). -/
def bump (n : Nat) : Nat := min (n + 1) 65535

/-- A counter incremented `k` times. -/
def bumpBy (k n : Nat) : Nat := min (n + k) 65535

/-- Increment one of the sync controller's counters. -/
def countSync (f : SyncCounters → SyncCounters) (s : State) : State :=
  s.modSync (fun y => { y with counters := f y.counters })

/-- Increment one of the allocator's counters. -/
def countAlloc (f : AllocCounters → AllocCounters) (s : State) : State :=
  s.modAlloc (fun a => { a with counters := f a.counters })

/-- Increment one of the request unit's counters. -/
def countReq (f : ReqCounters → ReqCounters) (s : State) : State :=
  s.modReq (fun r => { r with counters := f r.counters })

/-- Increment one of the counters of source `n`. -/
def countSource (n : Nat) (f : SourceCounters → SourceCounters) (s : State) : State :=
  s.modSource n (fun c => { c with counters := f c.counters })

/-- Increment one of the counters of sink `n`. -/
def countSink (n : Nat) (f : SinkCounters → SinkCounters) (s : State) : State :=
  s.modSink n (fun c => { c with counters := f c.counters })

/-! ### Identity and sync state -/

/-- The station's own id, from the accepted image (R178, R181). -/
def State.id (s : State) : Nat :=
  match s.loader.image with
  | some im => im.stationId
  | none => 0

/-- The frame timer runs from the first entry to LISTEN onward (R1). -/
def SyncState.timerRuns : SyncState → Bool
  | .configLoad | .configWait | .configFault => false
  | _ => true

/-- The sync states in which the station drives the trunk (R4). -/
def SyncState.drives : SyncState → Bool
  | .founding | .locked | .leaving => true
  | _ => false

/-- The sync states in which whole cells are taken, items applied, carrier counted and upkeep made (R13, R41, R75). -/
def SyncState.takesCells : SyncState → Bool
  | .learn | .founding | .locked | .leaving | .mute => true
  | _ => false

/-- Note the local tick of a timed event (log entry 2). -/
def atTick (t : Nat) (s : State) : State := s.modSync (fun y => { y with tick := t })

/-! ### Notices -/

/-- Post a notice: it joins the tail, or is dropped and counted when the queue holds 16 (R185). -/
def notify (n : Notice) (s : State) : State :=
  s.modMgmt (fun m =>
    if m.notices.length < 16 then { m with notices := m.notices ++ [n] } else { m with lost := bump m.lost })

/-- Post a SYNC notice with the sync state, frame index and superframe number as they now stand (R40). -/
def notifySync (cause : SyncCause) (s : State) : State :=
  notify (.sync cause s.sync.state s.sync.frameIndex s.sync.superframe) s

/-- Complete a TAKE_NOTICE: the head is removed; a full queue with a lost count above 0 gains a LOST notice (R185). -/
def removeNotice (m : Mgmt) : Mgmt :=
  if 16 ≤ m.notices.length ∧ 0 < m.lost then { m with notices := m.notices.tail ++ [.lost m.lost], lost := 0 }
  else { m with notices := m.notices.tail }

/-! ### The slot map and the directory -/

/-- Apply `f` to each entry with its slot number, counting from `k`. -/
def mapSlots (f : Nat → Slot → Slot) : Nat → List Slot → List Slot
  | _, [] => []
  | k, x :: rest => f k x :: mapSlots f (k + 1) rest

/-- Entry of data slot `k` (R73). -/
def State.slot (s : State) (k : Nat) : Slot := s.alloc.slots.getD (k - 8) .cold

/-- Whether slot `k` lies in the run `first` to `first + count - 1`. -/
def inRun (first count k : Nat) : Bool := decide (first ≤ k) && decide (k < first + count)

/-- The slots of a run. -/
def runSlots (first count : Nat) : List Nat := (List.range count).map (first + ·)

/-- Whether two runs share a slot. -/
def runsOverlap (first1 count1 first2 count2 : Nat) : Bool :=
  decide (first1 < first2 + count2) && decide (first2 < first1 + count1)

/-- Whether a directory entry's run has a slot within the run given. -/
def DirEntry.meets (e : DirEntry) (first count : Nat) : Bool := runsOverlap e.first e.count first count

/-- A directory entry's run. -/
def DirEntry.run (e : DirEntry) : Run := ⟨e.first, e.count⟩

/-- The directory entry of a tag (R101). -/
def findTag (tag : Nat) (dir : List DirEntry) : Option DirEntry := dir.find? (fun e => e.tag == tag)

/-- The directory without the entry of a tag. -/
def withoutTag (tag : Nat) (dir : List DirEntry) : List DirEntry := dir.filter (fun e => e.tag != tag)

/-- The directory with `e` as the entry of its tag (R102). -/
def withEntry (e : DirEntry) (dir : List DirEntry) : List DirEntry := withoutTag e.tag dir ++ [e]

/-- The slots of a run changed to `use`, their carrier frames left (R74). -/
def setRun (first count : Nat) (use : SlotUse) (slots : List Slot) : List Slot :=
  mapSlots (fun k x => if inRun first count k then { x with use := use } else x) 8 slots

/-- Install a run with its directory entry in one action (R74). -/
def installRun (use : SlotUse) (e : DirEntry) (s : State) : State :=
  s.modAlloc (fun a => { a with slots := setRun e.first e.count use a.slots, dir := withEntry e a.dir })

/-- Remove a run with its directory entry in one action: its entries become `use`, FREE or STRAY (R74). -/
def removeRun (use : SlotUse) (e : DirEntry) (s : State) : State :=
  s.modAlloc (fun a => { a with slots := setRun e.first e.count use a.slots, dir := withoutTag e.tag a.dir })

/-- Whether every slot of a run is FREE (R55, R118). -/
def runFree (s : State) (first count : Nat) : Bool :=
  (runSlots first count).all (fun k => (s.slot k).use == .free)

/-- The lowest first slot from 8 to 64 - count whose run is FREE and meets none of `taken` (R55). -/
def lowestRun (s : State) (count : Nat) (taken : List Run) : Option Nat :=
  (runSlots 8 (57 - count)).find? (fun f =>
    runFree s f count && taken.all (fun r => !runsOverlap f count r.first r.count))

/-- The local source that carries a tag (R74). -/
def State.sourceOfTag (s : State) (tag : Nat) : Option Nat := s.sources.findIdx? (fun c => c.cfg.tag == tag)

/-- Whether source `n` is in state `st`. -/
def State.sourceIs (s : State) (n : Nat) (st : SourceState) : Bool :=
  match s.sources[n]? with
  | some c => c.state == st
  | none => false

/-- The configured clocking of port `p`, none before acceptance (R155). -/
def State.clocking (s : State) (p : Nat) : Option Clocking := s.ports[p]?.bind (fun x => x.cfg.map PortConfig.clocking)

/-- The configured direction of port `p`, none before acceptance (R155). -/
def State.direction (s : State) (p : Nat) : Option Direction := s.ports[p]?.bind (fun x => x.cfg.map PortConfig.direction)

/-- Apply `f` for every number below `n`, in ascending order. -/
def forEach (n : Nat) (f : Nat → State → State) (s : State) : State := (List.range n).foldl (fun t i => f i t) s

end Sys2Proof.Machine
end

