-- ==== Sys2Proof/Machine/Flags.lean ====
section
/-! DEFINITION. The status lines, the standing conditions, the fault flags and the counts the SUMMARY payload samples. -/

namespace Sys2Proof.Machine

/-- LOCK is high in LOCKED and LEAVING (R17). -/
def State.lockHigh (s : State) : Bool := s.sync.state == .locked || s.sync.state == .leaving

/-- Standing condition CONFIG_FAULT (R187). -/
def State.configFaultStands (s : State) : Bool := s.sync.state == .configFault

/-- Standing condition MUTE (R187). -/
def State.muteStands (s : State) : Bool := s.sync.state == .mute

/-- Standing condition: a local source is CLASHED (R187). -/
def State.clashStands (s : State) : Bool := s.sources.any (fun c => c.state == .clashed)

/-- Standing condition: a BRIDGE port is CLOCK_LOST (R187). -/
def State.clockLostStands (s : State) : Bool := s.ports.any (fun p => p.clock == some .lost)

/-- FAULT is high while any of the four standing conditions holds (R187). -/
def State.faultHigh (s : State) : Bool :=
  s.configFaultStands || s.muteStands || s.clashStands || s.clockLostStands

/-- ATTN_N is driven low while the notice queue is not empty (R186). -/
def State.attnHigh (s : State) : Bool := s.mgmt.notices.isEmpty

/-- The number of PRESENT entries (R70). -/
def State.presentPeers (s : State) : Nat := s.peers.countP (fun p => p.presence == .present)

/-- The number of OWNED sources (R133). -/
def State.ownedSources (s : State) : Nat := s.sources.countP (fun c => c.state == .owned)

/-- The number of RUNNING sinks (R152). -/
def State.runningSinks (s : State) : Nat := s.sinks.countP (fun c => c.state == .running)

/-- The number of relay entries (R177). -/
def State.relayLevel (s : State) : Nat := s.req.table.countP Option.isSome

end Sys2Proof.Machine
end

