-- ==== Sys2Proof/Machine/Operands.lean ====
section
/-! DEFINITION. What a command's operands say: the classification of received windows, the marks they give, what the
line carries of them and of what the station drives, the marker edges, the lanes. -/

namespace Sys2Proof.Machine

/-- A data slot as classified (R9). -/
inductive SlotClass where
  | silent
  | good (sample : Sample) (valid : Bool)
  | damaged
  deriving DecidableEq, Repr

/-- Classify a data slot by its check, with the number of the slot in which it was received (R9, R189). -/
def classifySlot (slot : Nat) (w : SlotWindow) : SlotClass :=
  if w = 0 then .silent
  else if windowCheck w = slotCheck slot (windowSample w) (windowValid w) then
    .good (windowSample w) (windowValid w)
  else .damaged

/-- A cell as classified (R9). -/
inductive CellClass where
  | silent
  | good (cell : Cell)
  | damaged
  deriving DecidableEq, Repr

/-- Classify the control cell, slots 1 to 7 as one unit (R9, R190). -/
def classifyCell (w : CellWindow) : CellClass :=
  if w = 0 then .silent
  else match decodeCell w with
    | some c => .good c
    | none => .damaged

/-- The mark a classified slot gives its channel (R140). -/
def markOf : SlotClass → Mark
  | .silent => .silent
  | .good x true => .good x
  | .good _ false => .invalid
  | .damaged => .damaged

/-! ### The dominant line (R3) -/

/-- The ticks of what the station drives, from the first tick of its slot on (R4, R5, R8, R189, R190). -/
def Drive.ticks : Drive → List Bool
  | .nothing => []
  | .marker => bitsOf 32 markerPattern.toNat
  | .cell window => bitsOf 224 window.toNat
  | .data slot _ sample valid => bitsOf 32 (dataWord slot sample valid).toNat

/-- The line interface begins to drive `d` at local tick `start`; what it drives goes on record for the marker report
(R3, R4). -/
def Line.begin (start : Nat) (d : Drive) (l : Line) : Line :=
  { l with drive := d, driven := if d = .nothing then l.driven else l.driven ++ [⟨start, d.ticks⟩] }

/-- What a window receives: on a sound line the dominant combination of what the others and this station drive, on a
failed one what is heard, whatever is driven (R3, R11). -/
def heardWindow {w : Nat} (own : BitVec w) : OnLine (BitVec w) → BitVec w
  | .sound others => others ||| own
  | .failed heard => heard

/-- What the station drives in the ticks of data slot `k` (R4, R8). -/
def Drive.inSlot (k : Nat) : Drive → SlotWindow
  | .data j _ sample valid => if j = k then dataWord k sample valid else 0
  | _ => 0

/-- What the station drives in slots 1 to 7 (R6). -/
def Drive.inCell : Drive → CellWindow
  | .cell window => window
  | _ => 0

/-- The receive window of data slot `k` (R3, R9). -/
def receivedSlot (k : Nat) (line : OnLine SlotWindow) (s : State) : SlotWindow := heardWindow (s.line.drive.inSlot k) line

/-- The receive window of slots 1 to 7 (R3, R9). -/
def receivedCell (line : OnLine CellWindow) (s : State) : CellWindow := heardWindow s.line.drive.inCell line

/-! ### Markers (R5, R189) -/

/-- The position of the first dominant tick of each marker in a stretch of ticks: a run of 32 or more dominant ticks
(R5, R189). `run` is the number of dominant ticks standing just before tick `t`. -/
def markerEdges (t run : Nat) : List Bool → List Nat
  | [] => []
  | b :: rest =>
    if b then (if run + 1 = 32 then [t - 31] else []) ++ markerEdges (t + 1) (run + 1) rest
    else markerEdges (t + 1) 0 rest

/-- Whether this station drove local tick `t` dominant (R3). -/
def droveAt (driven : List Driven) (t : Int) : Bool :=
  driven.any (fun d => decide (d.start ≤ t) && d.ticks.getD (t - d.start).toNat false)

/-- Ticks of the others from local tick `t` on, in dominant combination with what this station drove (R3). -/
def withOwn (driven : List Driven) (t : Int) : List Bool → List Bool
  | [] => []
  | b :: rest => (b || droveAt driven t) :: withOwn driven (t + 1) rest

/-- The positions of the marker edges in the ticks of a report: the first ticks of the runs of the dominant combination,
or on a failed line of what is heard (R3, R5, R30, R189). R189 says what a marker on the line is, a run of 32 or more
dominant ticks, so an earlier marker with which the own one merges by R5 is one whose run began earlier: DEDUCED, where a
few dominant ticks of others stand just ahead of the own marker they belong to its run, and the edge is the first of them
(log entry 41). -/
def heardEdges (driven : List Driven) : OnLine LineTicks → List Nat
  | .sound x => markerEdges 0 0 (withOwn driven (-x.lead) x.ticks)
  | .failed x => markerEdges 0 0 x.ticks

/-- The class of data slot `k` as received: its check alone decides (R3, R9, R189). R5 remarks that a slot holding any
part of a foreign marker does not pass its check; six marker tails do, each in one slot: DEDUCED, such a slot is GOOD by
the rule of the check (log entry 34). -/
def slotClass (k : Nat) (line : OnLine SlotWindow) (s : State) : SlotClass := classifySlot k (receivedSlot k line s)

/-! ### The serial form of a port frame (R155) -/

/-- The lanes of a port frame's bits: its first 192 bits, lane 0 to lane 7 in turn, each lane's 24 bits most significant
first; a bit that was not given reads 0 (R155, R158, log entry 39). -/
def lanesOf (bits : List Bool) : List Sample :=
  (List.range 8).map (fun i => BitVec.ofNat 24 (field (24 * i) 24 (padTo 192 bits)))

/-- The bits that lanes are shifted out as (R155). -/
def bitsOfLanes (lanes : List Sample) : List Bool := lanes.flatMap (fun x => bitsOf 24 x.toNat)

end Sys2Proof.Machine
end

