-- ==== Sys2Proof/Machine/Queue.lean ====
section
/-! DEFINITION. The relay table's completions and the outgoing control queue: posting, replacement, eviction, loss,
purge (R48 to R52, R60, R175). -/

namespace Sys2Proof.Machine

/-! ### The relay table -/

/-- The entry at a handle (R164). -/
def State.relay (s : State) (h : Nat) : Option Relay := (s.req.table[h]?).join

/-- Put an entry at a handle, or free it. -/
def setRelay (h : Nat) (r : Option Relay) (s : State) : State :=
  s.modReq (fun q => { q with table := q.table.set h r })

/-- Whether an entry is QUEUED or AWAITING (R164). -/
def Relay.isOpen (r : Relay) : Bool :=
  match r.phase with
  | .done _ _ => false
  | _ => true

/-- The sent superframe of an entry (R164). -/
def Relay.sent (r : Relay) : Option Superframe :=
  match r.phase with
  | .queued => none
  | .awaiting x => some x
  | .done x _ => x

/-- Complete the open entry at a handle: it enters DONE with its result and a RELAY notice is posted (R175). -/
def completeRelay (h : Nat) (result : RelayOutcome) (s : State) : State :=
  match s.relay h with
  | some r =>
    if r.isOpen then
      notify (.relay h r.reqNo r.target result) (setRelay h (some { r with phase := .done r.sent result }) s)
    else s
  | none => s

/-- Complete, in handle order, every open entry that satisfies `p` (R175). -/
def completeWhere (p : Relay → Bool) (result : RelayOutcome) (s : State) : State :=
  forEach 4 (fun h t => match t.relay h with
    | some r => if p r then completeRelay h result t else t
    | none => t) s

/-- Complete a relay whose item has been lost, if the QUEUED entry at the handle is the item's own (R52, R175,
log entry 13). -/
def dropRelay (h reqNo : Nat) (s : State) : State :=
  match s.relay h with
  | some r => if r.reqNo = reqNo ∧ r.phase = .queued then completeRelay h .dropped s else s
  | none => s

/-! ### The queue -/

/-- The class of a queued item (R48). -/
def itemClass : QItem → Nat
  | .answer .. => 0
  | .leave => 1
  | .offer _ true => 1
  | .release .. => 2
  | .probe .. => 3
  | .command .. => 3
  | .claim _ => 4
  | .offer _ false => 5

/-- Whether an item is an ANSWER. -/
def QItem.isAnswer : QItem → Bool
  | .answer .. => true
  | _ => false

/-- Update the queued items. -/
def modQueue (f : List QItem → List QItem) (s : State) : State := s.modTx (fun t => { t with queue := f t.queue })

/-- Set the queued item field of source `n` (R114). -/
def setQueued (n : Nat) (q : QueuedItem) (s : State) : State := s.modSource n (fun c => { c with queuedItem := q })

/-- Whether the queue takes an item in a sync state (R49). -/
def queueAccepts (st : SyncState) (it : QItem) : Bool :=
  match st with
  | .founding | .locked => true
  | .leaving => it.isAnswer
  | _ => false

/-- The consequence of an item evicted, dropped or purged, at its owner (R52). -/
def returnItem (it : QItem) (s : State) : State :=
  match it with
  | .claim n => setQueued n .nothing s
  | .release n _ _ stale => if stale then s else setQueued n .nothing s
  | .offer _ _ => s
  | .probe h q _ _ _ => dropRelay h q s
  | .command h q _ _ _ => dropRelay h q s
  | .answer .. => s.modTx (fun t => { t with lostAnswers := bump t.lostAnswers })
  | .leave => s

/-- The consequence of an item the queue refuses: that of R52, but a refused ANSWER counts as unanswered (R49, R165). -/
def refuseItem (it : QItem) (s : State) : State :=
  match it with
  | .answer .. => countReq (fun c => { c with unanswered := bump c.unanswered }) s
  | _ => returnItem it s

/-- The owner's note that its item stands in the queue (R114, R116, R123). -/
def noteQueued (it : QItem) (s : State) : State :=
  match it with
  | .claim n => setQueued n .claim s
  | .release n _ _ _ => setQueued n .release s
  | _ => s

/-- The worst class present: the largest class number (R51). -/
def worstClass (q : List QItem) : Nat := q.foldl (fun w it => max w (itemClass it)) 0

/-- Whether an item may be evicted as one of class `w`; the LEAVE never is (R51). -/
def evictable (w : Nat) (it : QItem) : Bool := itemClass it == w && it != .leave

/-- The newest item that satisfies `p`, and the queue without it. -/
def takeNewest (p : QItem → Bool) (q : List QItem) : Option (QItem × List QItem) :=
  (q.reverse.find? p).map (fun it => (it, (q.reverse.eraseP p).reverse))

/-- Count one full-queue loss (R59). -/
def countLoss (s : State) : State := s.modTx (fun t => { t with fullQueueLosses := bump t.fullQueueLosses })

/-- A new item that replaces nothing: it enters at the tail, evicts, or is dropped (R51). -/
def enqueue (it : QItem) (s : State) : State :=
  if s.tx.queue.length < 16 then noteQueued it (modQueue (· ++ [it]) s)
  else if itemClass it < worstClass s.tx.queue then
    match takeNewest (evictable (worstClass s.tx.queue)) s.tx.queue with
    | some (old, rest) => noteQueued it (modQueue (fun _ => rest ++ [it]) (returnItem old (countLoss s)))
    | none => returnItem it (countLoss s)
  else returnItem it (countLoss s)

/-- Whether an item is an OFFER of source `n`. -/
def isOfferOf (n : Nat) : QItem → Bool
  | .offer m _ => m == n
  | _ => false

/-- A queued OFFER of source `n` replaced in place: the objection flag is set if either sets it (R50). -/
def replaceOffer (n : Nat) (objection : Bool) (q : List QItem) : List QItem :=
  q.map (fun it => match it with
    | .offer m old => if m = n then .offer m (old || objection) else it
    | _ => it)

/-- Post an item (R49 to R52). -/
def post (it : QItem) (s : State) : State :=
  if queueAccepts s.sync.state it then
    match it with
    | .offer n objection =>
      if s.tx.queue.any (isOfferOf n) then modQueue (replaceOffer n objection) s else enqueue it s
    | _ => enqueue it s
  else refuseItem it s

/-- Mark the queued RELEASEs of source `n` as left over from an earlier RELEASING (R114, log entry 12). -/
def markStale (n : Nat) (s : State) : State :=
  modQueue (fun q => q.map (fun it => match it with
    | .release m tag run stale => if m = n then .release m tag run true else .release m tag run stale
    | other => other)) s

/-- The purge at entry to LEAVING: every item but the ANSWERs is removed and returned to its owner, relays in handle
order; no loss is counted (R37, R52, log entry 14). -/
def purgeQueue (s : State) : State :=
  let removed := s.tx.queue.filter (fun it => !it.isAnswer)
  let s1 := modQueue (fun q => q.filter QItem.isAnswer) s
  let s2 := (removed.filter (fun it => itemClass it != 3)).foldl (fun t it => returnItem it t) s1
  forEach 4 (fun h t => removed.foldl (fun u it => match it with
    | .probe h' q _ _ _ => if h' = h then dropRelay h q u else u
    | .command h' q _ _ _ => if h' = h then dropRelay h q u else u
    | _ => u) t) s2

/-- Queue the LEAVE at entry to LEAVING; the newest of 16 ANSWERs makes room and is counted as a lost answer (R37). -/
def queueLeave (s : State) : State :=
  if s.tx.queue.length < 16 then modQueue (· ++ [.leave]) s
  else match takeNewest QItem.isAnswer s.tx.queue with
    | some (_, rest) =>
      s.modTx (fun t => { t with queue := rest ++ [.leave], lostAnswers := bump t.lostAnswers })
    | none => modQueue (· ++ [.leave]) s

end Sys2Proof.Machine
end

