-- ==== Sys2Proof/Machine/Sinks.lean ====
section
/-! DEFINITION. The sink engine: binding by directory signals, capture, starvation, playing out (chapter 8), and the
change signals themselves (R103, R108, R109). -/

namespace Sys2Proof.Machine

/-! ### Change signals -/

/-- The net change of one tag's directory entry in an action (R108). -/
inductive Change where
  | created (e : DirEntry)
  | activated (e : DirEntry)
  | replaced (e : DirEntry)
  | removed
  deriving DecidableEq, Repr

/-- The signal a tag's entries before and after an action give (R108). -/
def changeOf (before after : Option DirEntry) : Option Change :=
  match before, after with
  | none, none => none
  | none, some e => some (.created e)
  | some _, none => some .removed
  | some b, some e =>
    if b.station ≠ e.station ∨ b.first ≠ e.first ∨ b.count ≠ e.count then some (.replaced e)
    else if b.active = e.active then none
    else if e.active then some (.activated e)
    else some (.replaced e)

/-! ### Binding -/

/-- A sink's silence: last good samples of 0 (R138). -/
def zeroFrame (n : Nat) : List Sample := List.replicate n 0

/-- A sink leaves its binding (R139). -/
def Sink.unbind (c : Sink) : Sink :=
  { c with state := .unbound, run := none, queue := [], capture := none, silentRun := 0, slipGuard := 0,
           lastOutput := none }

/-- A sink binds to an entry (R138). -/
def Sink.bind (e : DirEntry) (c : Sink) : Sink :=
  { c with state := .filling, run := some e.run, queue := [], capture := none, silentRun := 0, slipGuard := 0,
           lastGood := zeroFrame c.cfg.channels, lastOutput := none }

/-- Post a SINK notice (R153). -/
def notifySink (n : Nat) (c : Sink) (e : SinkEvent) (s : State) : State := notify (.sink n c.cfg.tag e) s

/-- Evaluate an entry at sink `n` (R138). -/
def evaluateSink (n : Nat) (c : Sink) (e : DirEntry) (s : State) : State :=
  if e.active then
    if e.count = c.cfg.channels then notifySink n c (.bound e.station e.run) (s.modSink n (Sink.bind e))
    else notifySink n c (.mismatch e.station e.count) (s.modSink n (fun c => { c with state := .mismatch, run := none }))
  else s

/-- A signal acts on sink `n` (R138, R139, R153). -/
def signalSink (n : Nat) (c : Sink) (ch : Change) (s : State) : State :=
  match ch with
  | .created e => if c.state = .unbound then evaluateSink n c e s else s
  | .activated e => if c.state = .unbound then evaluateSink n c e s else s
  | .replaced e =>
    let s' := s.modSink n Sink.unbind
    if e.active then evaluateSink n c e s'
    else if c.state = .unbound then s' else notifySink n c .unbound s'
  | .removed =>
    let s' := s.modSink n Sink.unbind
    if c.state = .unbound then s' else notifySink n c .unbound s'

/-- Deliver the signals of an action to every sink, in ascending order of sink number: each takes the net change of
its own tag from the directory before the action to the one after it (R103, R108, R109, R153). -/
def deliverSignals (before after : List DirEntry) (s : State) : State :=
  forEach s.sinks.length (fun n t => match t.sinks[n]? with
    | some c => match changeOf (findTag c.cfg.tag before) (findTag c.cfg.tag after) with
      | some ch => signalSink n c ch t
      | none => t
    | none => t) s

/-- One action of the allocator: `f`, and then the signals of its net change (R103, R109). Where a sink's read of the entry
of its tag meets a further change of it, by the next action at the same instant, R110 gives both orders: DESIGN CHOICE,
the signals of an action are taken, and the entry read, before the next action (log entry 45). -/
def action (f : State → State) (s : State) : State := deliverSignals s.alloc.dir (f s).alloc.dir (f s)

/-! ### Capture -/

/-- Whether every channel of a capture is SILENT (R141). -/
def allSilent (marks : List Mark) : Bool := marks.all (· == .silent)

/-- Whether a mark is GOOD. -/
def Mark.isGood : Mark → Bool
  | .good _ => true
  | _ => false

/-- Whether some channel of a capture is not GOOD (R141). -/
def isGap (marks : List Mark) : Bool := marks.any (fun m => !m.isGood)

/-- Count a gap frame of sink `n` (R151). -/
def countGap (n : Nat) (s : State) : State := countSink n (fun k => { k with gaps := bump k.gaps }) s

/-- A queue of at most `cap` with `x` added at its tail, the oldest discarded from a full one (R128, R142). -/
def pushCapped {α : Type} (cap : Nat) (x : α) (q : List α) : List α :=
  if q.length < cap then q ++ [x] else q.tail ++ [x]

/-- Push a capture into the queue of sink `n`; in FILLING, reaching the target depth enters RUNNING (R142, R145). -/
def pushSink (n : Nat) (c : Sink) (marks : List Mark) (s : State) : State :=
  let s1 := if c.queue.length < 16 then s else countSink n (fun k => { k with overflows := bump k.overflows }) s
  let q := pushCapped 16 marks c.queue
  let s2 := s1.modSink n (fun c => { c with queue := q })
  if c.state = .filling ∧ c.cfg.target ≤ q.length then
    notifySink n c (.running (c.run.getD ⟨0, 0⟩) c.cfg.target)
      (s2.modSink n (fun c => { c with state := .running, slipGuard := 0, lastOutput := none }))
  else s2

/-- A completed capture at sink `n` (R141, R143, R144). -/
def completeCapture (n : Nat) (c : Sink) (marks : List Mark) (s : State) : State :=
  match c.state with
  | .filling | .running =>
    if allSilent marks then
      let s1 := countGap n s
      if c.silentRun + 1 < 64 then
        pushSink n c marks (s1.modSink n (fun c => { c with silentRun := c.silentRun + 1 }))
      else
        notifySink n c (.starved (c.run.getD ⟨0, 0⟩))
          (s1.modSink n (fun c => { c with state := .starved, silentRun := 64, queue := [], lastOutput := none }))
    else
      let s1 := if isGap marks then countGap n s else s
      pushSink n c marks (s1.modSink n (fun c => { c with silentRun := 0 }))
  | .starved =>
    if allSilent marks then s
    else
      let s1 := if isGap marks then countGap n s else s
      notifySink n c (.resumed (c.run.getD ⟨0, 0⟩))
        (s1.modSink n (fun c => { c with state := .filling, queue := [marks], silentRun := 0, slipGuard := 0,
                                         lastGood := zeroFrame c.cfg.channels }))
  | .unbound | .mismatch => s

/-- The capture of a sink after the mark of channel `channel`: begun at channel 0, else continued (R140). -/
def extendCapture (channel : Nat) (m : Mark) (capture : Option (List Mark)) : Option (List Mark) :=
  if channel = 0 then some [m]
  else match capture with
    | some ms => if ms.length = channel then some (ms ++ [m]) else none
    | none => none

/-- A classified data slot at sink `n`: it marks a channel of the bound run, and the last channel completes the
capture (R140, R141). -/
def captureSlot (slot : Nat) (m : Mark) (n : Nat) (s : State) : State :=
  match s.sinks[n]? with
  | some c => match c.run with
    | some r =>
      if inRun r.first r.count slot then
        match extendCapture (slot - r.first) m c.capture with
        | some ms =>
          if ms.length = r.count then completeCapture n c ms (s.modSink n (fun c => { c with capture := none }))
          else s.modSink n (fun c => { c with capture := some ms })
        | none => s.modSink n (fun c => { c with capture := none })
      else s
    | none => s
  | none => s

/-! ### Playing out -/

/-- What one channel plays: a GOOD channel its sample, any other the last good sample or zero (R145). -/
def resolveMark (gap : GapPolicy) (m : Mark) (last : Sample) : Sample :=
  match m, gap with
  | .good x, _ => x
  | _, .hold => last
  | _, .zero => 0

/-- The last good sample of a channel after a mark is played (R145). -/
def goodAfter (m : Mark) (last : Sample) : Sample :=
  match m with
  | .good x => x
  | _ => last

/-- A frame of marks resolved against the last good samples (R145). -/
def resolveFrame (gap : GapPolicy) (marks : List Mark) (last : List Sample) : List Sample :=
  List.zipWith (resolveMark gap) marks last

/-- How a RUNNING sink acts at a port frame (R147, R148). -/
inductive PlayChoice where
  | underflow | skip | repeatLast | pop
  deriving DecidableEq, Repr

/-- The first row of R148 that applies; a FOLLOW sink only pops or underflows (R147). -/
def playChoice (bridge : Bool) (c : Sink) : PlayChoice :=
  let level := c.queue.length
  if level = 0 then .underflow
  else if bridge = true ∧ c.cfg.target + 3 < level ∧ c.slipGuard = 128 then .skip
  else if bridge = true ∧ level + 4 ≤ c.cfg.target ∧ c.lastOutput.isSome = true ∧ c.slipGuard = 128 then .repeatLast
  else .pop

/-- A sink after it plays a frame of marks: resolved, kept as the last output frame (R145). -/
def Sink.playMarks (marks : List Mark) (rest : List (List Mark)) (c : Sink) : Sink :=
  { c with queue := rest, lastOutput := some (resolveFrame c.cfg.gap marks c.lastGood),
           lastGood := List.zipWith goodAfter marks c.lastGood }

/-- The guard count after a port frame (R148). -/
def guardStep (slipped : Bool) (g : Nat) : Nat := min ((if slipped then 0 else g) + 1) 128

/-- A RUNNING sink's context after a port frame (R145 to R148). -/
def Sink.play (bridge : Bool) (c : Sink) : Sink :=
  match playChoice bridge c with
  | .underflow =>
    { c.playMarks (List.replicate c.cfg.channels .silent) [] with
      slipGuard := guardStep false c.slipGuard
      counters := { c.counters with underflows := bump c.counters.underflows } }
  | .skip =>
    { c.playMarks (c.queue.getD 1 []) (c.queue.drop 2) with
      slipGuard := guardStep true c.slipGuard, counters := { c.counters with slips := bump c.counters.slips } }
  | .repeatLast =>
    { c with slipGuard := guardStep true c.slipGuard, counters := { c.counters with slips := bump c.counters.slips } }
  | .pop => { c.playMarks (c.queue.getD 0 []) (c.queue.drop 1) with slipGuard := guardStep false c.slipGuard }

/-- What a sink puts on its lanes once its context has taken the port frame: the last output frame in RUNNING unless
muted, zero otherwise (R145, R150). -/
def Sink.lanes (c : Sink) : List Sample :=
  if c.state = .running ∧ c.muted = false then c.lastOutput.getD (zeroFrame c.cfg.channels)
  else zeroFrame c.cfg.channels

/-- Lanes with a sink's samples placed from its first lane on (R160). -/
def placeLanes : Nat → List Sample → List Sample → List Sample
  | _, [], lanes => lanes
  | at0, x :: rest, lanes => placeLanes (at0 + 1) rest (lanes.set at0 x)

/-- Sink `n` plays one frame at a port frame of port `p`, if that is its OUT port (R145). -/
def playSink (p : Nat) (bridge : Bool) (n : Nat) (s : State) : State :=
  match s.sinks[n]? with
  | some c =>
    if c.cfg.port = p then
      let c' := if c.state = .running then c.play bridge else c
      (s.modSink n (fun _ => c')).modPort p (fun q =>
        { q with lanesOut := placeLanes c'.cfg.firstLane c'.lanes q.lanesOut })
    else s
  | none => s

/-- A port frame of OUT port `p`: every lane zero, then each sink of the port plays onto its own (R160). -/
def fillLanes (p : Nat) (bridge : Bool) (s : State) : State :=
  forEach s.sinks.length (playSink p bridge) (s.modPort p (fun q => { q with lanesOut := zeroFrame 8 }))

end Sys2Proof.Machine
end

