-- ==== Sys2Proof/Machine/Sources.lean ====
section
/-! DEFINITION. The source engine: claims, states, the take, the queue between port and line (chapter 7). -/

namespace Sys2Proof.Machine

/-- Post a SOURCE notice (R134). -/
def notifySource (n : Nat) (e : SourceEvent) (s : State) : State :=
  match s.sources[n]? with
  | some c => notify (.source n c.cfg.tag e) s
  | none => s

/-! ### Seeking -/

/-- Post the CLAIM of source `n` (R116). -/
def postClaim (n : Nat) (s : State) : State := post (.claim n) s

/-- Source `n` becomes SEEKING and posts its CLAIM (R115, R116, R118, R124). -/
def seek (n : Nat) (s : State) : State :=
  postClaim n (s.modSource n (fun c => { c with state := .seeking, backoff := 0, queuedItem := .nothing }))

/-- At entry to LOCKED every IDLE source becomes SEEKING, in ascending order (R115, R116). -/
def sourcesSeek (s : State) : State :=
  forEach s.sources.length (fun n t => if t.sourceIs n .idle then seek n t else t) s

/-! ### Giving a run up -/

/-- The fields of a source that leaves its claim or run for `st` (R123 to R125, R128). -/
def Source.leaveFor (st : SourceState) (backoff : Nat) (c : Source) : Source :=
  { c with state := st, run := none, queue := [], queuedItem := .nothing, backoff := backoff, refresh := 0, tally := 0 }

/-- The backoff count of a station: 1 + (id modulo 4) (R124). -/
def backoffCount (s : State) : Nat := 1 + s.id % 4

/-- Source `n` enters BACKOFF (R124). -/
def enterBackoff (n : Nat) (s : State) : State :=
  markStale n (s.modSource n (Source.leaveFor .backoff (backoffCount s)))

/-- Source `n` is told DEFEATED by an item of `station` (R117, R122, R123, R133, R134). -/
def tellDefeated (n station : Nat) (s : State) : State :=
  match s.sources[n]? with
  | some c =>
    if c.state = .claiming ∨ c.state = .owned ∨ c.state = .releasing then
      enterBackoff n (notifySource n (.defeated (c.run.getD ⟨0, 0⟩) station)
        (countSource n (fun k => { k with defeats := bump k.defeats }) s))
    else s
  | none => s

/-- Source `n` is told CLASHED, its tag kept by `station` (R105, R112, R125). -/
def tellClashed (n station : Nat) (s : State) : State :=
  match s.sources[n]? with
  | some c =>
    if c.state = .seeking ∨ c.state = .claiming ∨ c.state = .owned ∨ c.state = .releasing then
      markStale n ((notifySource n (.clashed c.run station)
        (countAlloc (fun k => { k with localClashes := bump k.localClashes }) s)).modSource n
          (Source.leaveFor .clashed 0))
    else s
  | none => s

/-- Source `n` is told RELEASED, in whatever state (R90, R123). -/
def tellReleased (n : Nat) (s : State) : State := enterBackoff n s

/-- Post the RELEASE of source `n`, with its tag and run (R123). -/
def postRelease (n : Nat) (s : State) : State :=
  match s.sources[n]? with
  | some c => match c.run with
    | some r => post (.release n c.cfg.tag r false) s
    | none => s
  | none => s

/-- Source `n` enters RELEASING: it stops driving, empties its queue and posts a RELEASE (R123). -/
def enterReleasing (n : Nat) (s : State) : State :=
  postRelease n (s.modSource n (fun c =>
    { c with state := .releasing, queue := [], tally := 0, refresh := 0, queuedItem := .nothing }))

/-- Source `n` becomes BLOCKED: its CLAIM fits nowhere at the build (R118). -/
def enterBlocked (n : Nat) (s : State) : State :=
  notifySource n .blocked (s.modSource n (fun c => { c with state := .blocked, queuedItem := .nothing }))

/-- Source `n` becomes CLAIMING with its run at the sent event of its CLAIM (R117). -/
def enterClaiming (n : Nat) (r : Run) (s : State) : State :=
  s.modSource n (fun c => { c with state := .claiming, run := some r, queuedItem := .nothing })

/-- The fields of a source at entry to OWNED; a BRIDGE queue is trimmed to its newest 4 frames (R119). -/
def Source.mature (r : Run) (bridge : Bool) (c : Source) : Source :=
  { c with state := .owned, run := some r, refresh := 0, tally := 0, slipGuard := 0, lastSent := none,
           queue := if bridge then c.queue.drop (c.queue.length - 4) else c.queue }

/-- Source `n` enters OWNED at maturity with its run (R119, R134). -/
def enterOwned (n : Nat) (r : Run) (s : State) : State :=
  match s.sources[n]? with
  | some c =>
    notifySource n (.owned r) (s.modSource n (Source.mature r (s.clocking c.cfg.port == some .bridge)))
  | none => s

/-- The RESEEK action: an OWNED source enters RELEASING, any other answers NOT_NOW (R122, R132). -/
def reseek (n : Nat) (s : State) : AnswerStatus × State :=
  if s.sourceIs n .owned then (.done, enterReleasing n s) else (.notNow, s)

/-- A source's context at entry to MUTE (R126, R135). -/
def Source.atMute (c : Source) : Source :=
  { c with state := if c.state = .clashed then .clashed else .halted, run := none, queuedItem := .nothing, backoff := 0,
           refresh := 0, tally := 0, slipGuard := 0, lastSent := none, queue := [] }

/-- A source's context after full teardown (R39, R135). -/
def Source.atTeardown (c : Source) : Source :=
  { c with state := .idle, run := none, queuedItem := .nothing, backoff := 0, refresh := 0, tally := 0, slipGuard := 0,
           lastSent := none, queue := [] }

/-! ### The boundary -/

/-- Source `n` at a boundary: backoff, blocked re-check, re-posting of a lost CLAIM or RELEASE, the tally (R116, R118,
R121, R123, R124). -/
def sourceBoundary (n : Nat) (s : State) : State :=
  match s.sources[n]? with
  | some c => match c.state with
    | .owned => s.modSource n (fun c => { c with tally := 0 })
    | .backoff => if c.backoff ≤ 1 then seek n s else s.modSource n (fun c => { c with backoff := c.backoff - 1 })
    | .blocked => if (lowestRun s c.cfg.channels []).isSome then seek n s else s
    | .seeking => if c.queuedItem = .nothing then postClaim n s else s
    | .releasing => if c.queuedItem = .nothing then postRelease n s else s
    | _ => s
  | none => s

/-- Every source at a boundary, in ascending order (R116). A RELEASE posted again by one source can evict the CLAIM or
the RELEASE of a later one, which then stands without a queued item at the same boundary, where R52 has it post again at
the next: DESIGN CHOICE, its turn at this boundary still comes, and it posts at once (log entry 44). -/
def sourcesBoundary (s : State) : State := forEach s.sources.length sourceBoundary s

/-! ### The queue and the take -/

/-- A source's context after a push (R128, R129): taken in CLAIMING and OWNED alone; a FOLLOW queue holds one frame. -/
def Source.push (bridge : Bool) (frame : List Sample) (c : Source) : Source :=
  if c.state = .claiming ∨ c.state = .owned then
    if bridge then
      { c with
        queue := pushCapped 8 frame c.queue
        counters :=
          if 8 ≤ c.queue.length ∧ c.state = .owned then { c.counters with overflows := bump c.counters.overflows }
          else c.counters }
    else { c with queue := [frame] }
  else c

/-- The sample frame of a source's lanes (R128, R159). -/
def laneFrame (c : Source) (lanes : List Sample) : List Sample :=
  (List.range c.cfg.channels).map (fun k => lanes.getD (c.cfg.firstLane + k) 0)

/-- IN port `p` delivers a port frame: a push to each source whose IN port it is (R159). -/
def deliverLanes (p : Nat) (bridge : Bool) (lanes : List Sample) (s : State) : State :=
  s.modSources (fun l => l.map (fun c => if c.cfg.port = p then c.push bridge (laneFrame c lanes) else c))

/-- How an OWNED source acts at its take (R129, R130). -/
inductive TakeChoice where
  | underrun | skip | repeatLast | pop
  deriving DecidableEq, Repr

/-- The first row of R130 that applies; a FOLLOW source only pops or underruns (R129). -/
def takeChoice (bridge : Bool) (c : Source) : TakeChoice :=
  let level := c.queue.length
  if level = 0 then .underrun
  else if bridge = true ∧ 7 ≤ level ∧ c.slipGuard = 128 then .skip
  else if bridge = true ∧ level = 1 ∧ c.lastSent.isSome = true ∧ c.slipGuard = 128 then .repeatLast
  else .pop

/-- The sample frame a take sends; none for an underrun (R120, R130). -/
def takeFrame (bridge : Bool) (c : Source) : Option (List Sample) :=
  match takeChoice bridge c with
  | .underrun => none
  | .skip => c.queue[1]?
  | .repeatLast => c.lastSent
  | .pop => c.queue[0]?

/-- A source's context after its take (R120, R129, R130, R133). -/
def Source.take (bridge : Bool) (c : Source) : Source :=
  match takeChoice bridge c with
  | .underrun =>
    { c with slipGuard := guardStep false c.slipGuard
             counters := { c.counters with underruns := bump c.counters.underruns } }
  | .skip =>
    { c with queue := c.queue.drop 2, lastSent := c.queue[1]?, slipGuard := guardStep true c.slipGuard
             counters := { c.counters with slips := bump c.counters.slips } }
  | .repeatLast =>
    { c with slipGuard := guardStep true c.slipGuard
             counters := { c.counters with slips := bump c.counters.slips } }
  | .pop => { c with queue := c.queue.drop 1, lastSent := c.queue[0]?, slipGuard := guardStep false c.slipGuard }

/-- The words a take hands the line interface, one per channel of the run (R8, R120). -/
def takeWords (n : Nat) (r : Run) (c : Source) (frame : Option (List Sample)) : List HandedWord :=
  (List.range r.count).map (fun k =>
    { slot := r.first + k, source := n, sample := (frame.getD []).getD k 0,
      valid := frame.isSome && !c.muted })

/-- Source `n` at the start of data slot `slot`: the take, if it is OWNED and the slot is the first of its run (R120). -/
def takeAt (slot n : Nat) (s : State) : State :=
  match s.sources[n]? with
  | some c => match c.run with
    | some r =>
      if c.state = .owned ∧ r.first = slot then
        let bridge := s.clocking c.cfg.port == some .bridge
        (s.modLine (fun l => { l with handed := l.handed ++ takeWords n r c (takeFrame bridge c) })).modSource n
          (Source.take bridge)
      else s
    | none => s
  | none => s

/-! ### Readback -/

/-- A DAMAGED readback of a slot of source `n`: the first of a frame raises the tally, and 16 force a release (R121). The
rules do not order the RELAY DROPPED of an item that the RELEASE evicts against SOURCE COLLIDED (R121, R175, R185): DESIGN
CHOICE, the RELEASE is posted first, and the RELAY notice with it (log entry 42). -/
def damagedReadback (n : Nat) (s : State) : State :=
  match s.sources[n]? with
  | some c =>
    if c.state = .owned ∧ c.collidedNow = false then
      let s1 := s.modSource n (fun c =>
        { c with collidedNow := true, tally := min (c.tally + 1) 32
                 counters := { c.counters with collisions := bump c.counters.collisions } })
      if 16 ≤ c.tally + 1 then notifySource n (.collided (c.run.getD ⟨0, 0⟩)) (enterReleasing n s1) else s1
    else s
  | none => s

end Sys2Proof.Machine
end

