-- ==== Sys2Proof/Machine/Allocator.lean ====
section
/-! DEFINITION. The slot allocator: the tag rule, heard CLAIMs, OFFERs and RELEASEs, own items sent, purges, the
boundary upkeep (chapters 5 and 6). Each heard item here is the change to the tables; `action` adds its signals. -/

namespace Sys2Proof.Machine

/-! ### What the allocator tells its owners -/

/-- The entry's local source, if the entry is this station's (R74). -/
def localSource (e : DirEntry) (s : State) : Option Nat := if e.station = s.id then s.sourceOfTag e.tag else none

/-- Tell the entry's local source, if it has one (R74). -/
def tellOwner (e : DirEntry) (tell : Nat → State → State) (s : State) : State :=
  match localSource e s with
  | some n => tell n s
  | none => s

/-- This station's entry of a tag in a directory (R74, R101). -/
def ownEntry (own tag : Nat) (dir : List DirEntry) : Option DirEntry := (findTag tag dir).filter (fun e => e.station == own)

/-- Whether a local source's run of `tag` stood in `before` and stands in `after` no more. -/
def losesRun (own tag : Nat) (before after : List DirEntry) : Bool :=
  (ownEntry own tag before).isSome && (ownEntry own tag after).isNone

/-- Tell each local source whose run an item of `x` carrying `tag` has removed, in ascending order of source number:
CLASHED for the item's own tag, DEFEATED for any other (R74, R81, R84, R85, R105, R134). -/
def tellLosses (x tag : Nat) (before : List DirEntry) (s : State) : State :=
  forEach s.sources.length (fun n t => match t.sources[n]? with
    | some c =>
      if losesRun t.id c.cfg.tag before t.alloc.dir then
        (if c.cfg.tag = tag then tellClashed n x t else tellDefeated n x t)
      else t
    | none => t) s

/-- Post an objection OFFER for source `n`, if it is OWNED; it is counted when the queue accepts it (R87, R99). -/
def object (n : Nat) (s : State) : State :=
  if s.sourceIs n .owned then
    post (.offer n true)
      (if queueAccepts s.sync.state (.offer n true) then
        countAlloc (fun k => { k with objectionsPosted := bump k.objectionsPosted }) s else s)
  else s

/-- Post an objection for every OWNED source whose run has a slot within a run given (R80, R84, R87). The rules give the
OFFERs of several sources no order: DESIGN CHOICE, ascending source number (log entry 36). -/
def objectRuns (first count : Nat) (s : State) : State :=
  forEach s.sources.length (fun n t => match (t.sources[n]?).bind (fun c => ownEntry t.id c.cfg.tag t.alloc.dir) with
    | some e => if e.active && e.meets first count then object n t else t
    | none => t) s

/-! ### The tag rule -/

/-- The tag rule for an item of `x` carrying `tag`: whether the item goes on, and the state it has then; `tellLosses` tells
the source whose entry it removes (R78, R104, R106). -/
def tagRule (x tag : Nat) (s : State) : Bool × State :=
  match findTag tag s.alloc.dir with
  | none => (true, s)
  | some e =>
    if e.station = x then (true, s)
    else if e.station < x then
      (false, tellOwner e object
        (countAlloc (fun k => { k with tagItemsIgnored := bump k.tagItemsIgnored }) s))
    else
      (true, removeRun .free e (countAlloc (fun k => { k with tagEntriesRemoved := bump k.tagEntriesRemoved }) s))

/-! ### Heard CLAIM (R78 to R82) -/

/-- Remove to FREE every entry of the directory that satisfies `p` (R79, R83). -/
def removeWhere (p : DirEntry → Bool) (s : State) : State :=
  (s.alloc.dir.filter p).foldl (fun t e => removeRun .free e t) s

/-- Whether slot `k` is one a claim of `x` cannot enter: HELD by another, OWNED, or STRAY (R80). -/
def barsClaim (x k : Nat) (s : State) : Bool :=
  match (s.slot k).use with
  | .held h _ _ _ => h != x
  | .owned _ _ _ => true
  | .stray => true
  | .free | .pending _ _ _ _ => false

/-- Precedence of a claim of `x` with priority `p` over another: higher priority, then lower id (R81). -/
def precedes (p x : Nat) (e : DirEntry) : Bool :=
  decide (e.priority < p) || (e.priority == p && decide (x < e.station))

/-- The PENDING runs of stations other than `x` with a slot within a run (R81, R85). -/
def overlappedClaims (x first count : Nat) (s : State) : List DirEntry :=
  s.alloc.dir.filter (fun e => !e.active && e.station != x && e.meets first count)

/-- Remove overlapped claims whole, each counted as overridden (R81, R85, R99). -/
def overrideClaims (x first count : Nat) (s : State) : State :=
  (overlappedClaims x first count s).foldl (fun t e =>
    removeRun .free e (countAlloc (fun k => { k with claimsOverridden := bump k.claimsOverridden }) t)) s

/-- Install a claim of `x` announced in superframe `sf`: PENDING, maturity S + 2 (R76, R82). -/
def installClaim (sf : Superframe) (x tag first count priority : Nat) (s : State) : State :=
  installRun (.pending x tag priority (sf + 2))
    { tag := tag, station := x, first := first, count := count, priority := priority, active := false,
      isLocal := x == s.id } s

/-- Count a CLAIM ignored at its third or fourth step (R99). -/
def ignoreClaim (s : State) : State := countAlloc (fun k => { k with claimsIgnored := bump k.claimsIgnored }) s

/-- Steps two to five of a heard CLAIM (R79 to R82). -/
def claimSteps (x tag first count priority : Nat) (s : State) : State :=
  let s2 := removeWhere (fun e => e.station == x && (e.tag == tag || e.meets first count)) s
  if (runSlots first count).any (fun k => barsClaim x k s2) then objectRuns first count (ignoreClaim s2)
  else if (overlappedClaims x first count s2).all (precedes priority x) then
    installClaim s2.sync.superframe x tag first count priority (overrideClaims x first count s2)
  else ignoreClaim s2

/-- A heard CLAIM of `x`; the local sources it defeats are told once the tables stand (R78 to R82, R134). The rules do
not order the RELAY DROPPED of an item that an objection OFFER evicts against the SOURCE notices of the same CLAIM:
DESIGN CHOICE, the objections are posted, and the RELAY notice with them, ahead of the SOURCE notices (log entry 42). -/
def heardClaim (x tag first count priority : Nat) (s : State) : State :=
  match tagRule x tag s with
  | (false, s1) => s1
  | (true, s1) => tellLosses x tag s.alloc.dir (claimSteps x tag first count priority s1)

/-! ### Heard OFFER (R83 to R85) -/

/-- The HELD and OWNED runs of stations other than `x` with a slot within a run (R84). -/
def overlappedHolders (x first count : Nat) (s : State) : List DirEntry :=
  s.alloc.dir.filter (fun e => e.active && e.station != x && e.meets first count)

/-- The last step of an OFFER: pending claims give way, the run becomes HELD with lease 24, its entry ACTIVE (R85). -/
def installOffer (x tag first count priority : Nat) (s : State) : State :=
  installRun (.held x tag priority 24)
    { tag := tag, station := x, first := first, count := count, priority := priority, active := true,
      isLocal := x == s.id } (overrideClaims x first count s)

/-- Remove the higher-id holders of an overlapped run, each counted as resolved (R84, R99). -/
def resolveOverlaps (x first count : Nat) (s : State) : State :=
  (overlappedHolders x first count s).foldl (fun t e =>
    removeRun .free e (countAlloc (fun k => { k with overlapsResolved := bump k.overlapsResolved }) t)) s

/-- Steps two to four of a heard OFFER (R83 to R85). -/
def offerSteps (x tag first count priority : Nat) (s : State) : State :=
  let s2 := removeWhere (fun e => e.station == x &&
    (if e.tag == tag then !(e.first == first && e.count == count) else e.meets first count)) s
  if (overlappedHolders x first count s2).all (fun e => decide (x < e.station)) then
    installOffer x tag first count priority (resolveOverlaps x first count s2)
  else if s2.id < x then objectRuns first count s2
  else s2

/-- A heard OFFER of `x`; the local sources it defeats are told once the tables stand (R83 to R85, R134). As for a heard
CLAIM, the RELAY DROPPED that an objection brings about comes ahead of the SOURCE notices: DESIGN CHOICE (log entry
42). -/
def heardOffer (x tag first count priority : Nat) (s : State) : State :=
  match tagRule x tag s with
  | (false, s1) => s1
  | (true, s1) => tellLosses x tag s.alloc.dir (offerSteps x tag first count priority s1)

/-! ### RELEASE, purges -/

/-- A heard RELEASE of `x`: its run for the tag becomes FREE, whatever the run named (R89). -/
def heardRelease (x tag : Nat) (s : State) : State :=
  match findTag tag s.alloc.dir with
  | some e => if e.station = x then removeRun .free e s else s
  | none => s

/-- The number of runs of a holder (R91). -/
def runsOf (x : Nat) (s : State) : Nat := s.alloc.dir.countP (fun e => e.station == x)

/-- The purge of one holder: every run of `x` becomes `use` (R91). -/
def purgeHolder (use : SlotUse) (x : Nat) (s : State) : State :=
  (s.alloc.dir.filter (fun e => e.station == x)).foldl (fun t e => removeRun use e t) s

/-! ### Own items at the sent event -/

/-- Record the own claim of source `n` and make it CLAIMING (R76, R117). -/
def recordClaim (sf : Superframe) (n : Nat) (c : Source) (r : Run) (s : State) : State :=
  enterClaiming n r (installClaim sf s.id c.cfg.tag r.first r.count c.cfg.priority s)

/-- Whether an assigned run lies in the map and stands FREE. Nothing reaches it between the build and the sent event
of one frame (R55), so a sent event that finds it otherwise is none that occurs (log entry 31). -/
def runStandsFree (s : State) (r : Run) : Bool :=
  decide (8 ≤ r.first) && decide (0 < r.count) && decide (r.first + r.count ≤ 64) && runFree s r.first r.count

/-- The station of lower id that keeps the tag of source `n` when its CLAIM over run `r` is sent (R76). A source no longer
SEEKING takes no effect (R58). -/
def claimKeeper (n : Nat) (r : Run) (s : State) : Option Nat :=
  match s.sources[n]? with
  | some c =>
    if c.state = .seeking ∧ runStandsFree s r = true then
      ((findTag c.cfg.tag s.alloc.dir).filter (fun e => decide (e.station < s.id))).map DirEntry.station
    else none
  | none => none

/-- Tell CLASHED, in ascending order, the sources whose CLAIMs of one own cell clash (R76, R105, R134). -/
def tellKept (claims : List (Nat × Run)) (s : State) : State :=
  forEach s.sources.length (fun n t =>
    match (claims.find? (fun p => p.1 == n)).bind (fun p => claimKeeper n p.2 t) with
    | some x => tellClashed n x t
    | none => t) s

/-- The own CLAIM of source `n` sent over run `r` in superframe `sf`, one of the `claims` of its cell: the tag rule against
the own directory, then PENDING with the local flag and CLAIMING, or CLASHED (R76, R104, R105). A source no longer SEEKING
takes no effect (R58). R134 orders the CLASHED notices of one cell by source number, where R58 takes its items in their
order: DESIGN CHOICE, the first CLAIM of the cell that clashes tells every source whose CLAIM does (log entry 43). -/
def ownClaimSent (sf : Superframe) (claims : List (Nat × Run)) (n : Nat) (r : Run) (s : State) : State :=
  if (claimKeeper n r s).isSome then tellKept claims s else
  match s.sources[n]? with
  | some c =>
    if c.state = .seeking ∧ runStandsFree s r = true then
      match findTag c.cfg.tag s.alloc.dir with
      | some e =>
        if s.id < e.station then
          recordClaim sf n c r (removeRun .free e
            (countAlloc (fun k => { k with tagEntriesRemoved := bump k.tagEntriesRemoved }) s))
        else recordClaim sf n c r (removeRun .free e s)
      | none => recordClaim sf n c r s
    else s
  | none => s

/-- The own RELEASE of source `n` sent: the run of its tag becomes FREE and the source is told RELEASED (R90). -/
def ownReleaseSent (n tag : Nat) (s : State) : State :=
  match findTag tag s.alloc.dir with
  | some e => if e.station = s.id ∧ e.active then tellReleased n (removeRun .free e s) else s
  | none => s

/-- Remove every run of this station, at entry to MUTE (R34, R75, R109). -/
def removeOwnRuns (s : State) : State := removeWhere (fun e => e.station == s.id) s

/-! ### Boundary upkeep (R92 to R97) -/

/-- Whether a maturity superframe has been reached at the boundary into `m` (R93). -/
def isMature (maturity m : Superframe) : Bool :=
  let d := (maturity - m).toNat
  d == 0 || decide (3 ≤ d)

/-- Whether a directory entry is PENDING and matures at the boundary into `m`, by its first slot (R93). -/
def maturesAt (m : Superframe) (s : State) (e : DirEntry) : Bool :=
  match (s.slot e.first).use with
  | .pending _ _ _ x => !e.active && isMature x m
  | _ => false

/-- A peer's PENDING run matures to HELD with lease 24 (R93). -/
def maturePeer (e : DirEntry) (s : State) : State :=
  installRun (.held e.station e.tag e.priority 24) { e with active := true } s

/-- The own PENDING run of source `n` matures to OWNED, and a maturity OFFER is posted (R94). -/
def matureOwn (n : Nat) (e : DirEntry) (s : State) : State :=
  post (.offer n false) (enterOwned n e.run
    (installRun (.owned e.station e.tag e.priority) { e with active := true } s))

/-- First step of the upkeep: the peers' runs, then the own runs in ascending order of source, as R134 orders their
notices (R93, R94). The rules give the maturity OFFERs no order: DESIGN CHOICE, theirs is the same (log entry 36). -/
def maturityStep (s : State) : State :=
  let m := s.sync.superframe
  let s1 := (s.alloc.dir.filter (fun e => e.station != s.id && maturesAt m s e)).foldl (fun t e => maturePeer e t) s
  forEach s.sources.length (fun n t => match (t.sources[n]?).bind (fun c => findTag c.cfg.tag t.alloc.dir) with
    | some e => if e.station = t.id ∧ maturesAt m t e = true then matureOwn n e t else t
    | none => t) s1

/-- The lease of a run, by its first slot. -/
def leaseOf (s : State) (e : DirEntry) : Nat :=
  match (s.slot e.first).use with
  | .held _ _ _ l => l
  | _ => 0

/-- A lapsed slot: STRAY if its carrier count is 4 or more, FREE otherwise (R95). -/
def lapseSlot (x : Slot) : Slot := { x with use := if 4 ≤ x.carrier then .stray else .free }

/-- A run whose lease has run out lapses, slot by slot (R95, R99). -/
def lapseRun (e : DirEntry) (s : State) : State :=
  let strays := (runSlots e.first e.count).countP (fun k => decide (4 ≤ (s.slot k).carrier))
  countAlloc (fun k => { k with lapses := bump k.lapses, strayEntries := bumpBy strays k.strayEntries })
    (s.modAlloc (fun a =>
      { a with slots := mapSlots (fun k x => if inRun e.first e.count k then lapseSlot x else x) 8 a.slots
               dir := withoutTag e.tag a.dir }))

/-- Second step of the upkeep for one HELD run: the lease counts down, and the run lapses at 0 (R95). -/
def leaseRun (e : DirEntry) (s : State) : State :=
  if leaseOf s e ≤ 1 then lapseRun e s
  else s.modAlloc (fun a =>
    { a with slots := setRun e.first e.count (.held e.station e.tag e.priority (leaseOf s e - 1)) a.slots })

/-- The HELD runs that did not mature at this boundary: the ACTIVE runs of peers before it (R93, R95). -/
def heldRuns (s : State) : List DirEntry := s.alloc.dir.filter (fun e => e.active && e.station != s.id)

/-- Third step of the upkeep on one entry: the stray rule (R14, R96). -/
def straySlot (x : Slot) : Slot :=
  match x.use with
  | .free => if 4 ≤ x.carrier then { x with use := .stray } else x
  | .stray => if x.carrier = 0 then { x with use := .free } else x
  | _ => x

/-- Whether the stray rule makes an entry STRAY (R96, R99). -/
def becomesStray (x : Slot) : Bool := x.use == .free && decide (4 ≤ x.carrier)

/-- Third step of the upkeep (R96). -/
def strayStep (s : State) : State :=
  countAlloc (fun k => { k with strayEntries := bumpBy (s.alloc.slots.countP becomesStray) k.strayEntries })
    (s.modAlloc (fun a => { a with slots := a.slots.map straySlot }))

/-- Fourth step of the upkeep: every carrier count to 0 (R13, R92). -/
def clearCarrier (s : State) : State :=
  s.modAlloc (fun a => { a with slots := a.slots.map (fun x => { x with carrier := 0 }) })

/-- Fifth step of the upkeep for source `n`: its refresh count, and at 8 a refresh OFFER (R97). -/
def refreshSource (n : Nat) (s : State) : State :=
  match s.sources[n]? with
  | some c =>
    if c.refresh + 1 < 8 then s.modSource n (fun c => { c with refresh := c.refresh + 1 })
    else post (.offer n false) (s.modSource n (fun c => { c with refresh := 0 }))
  | none => s

/-- The boundary upkeep in the order of R92, on the tables; `owned` and `held` are what stood before it, so that a run
maturing at this boundary neither counts down nor counts refresh. The rules give the refresh OFFERs no order: DESIGN
CHOICE, ascending source number (log entry 36). -/
def upkeepTables (s : State) : State :=
  let s1 := maturityStep s
  let s2 := (heldRuns s).foldl (fun t e => leaseRun e t) s1
  let s4 := clearCarrier (strayStep s2)
  forEach s.sources.length (fun n t => if s.sourceIs n .owned && t.sourceIs n .owned then refreshSource n t else t) s4

/-- The boundary upkeep as one action with its signals (R92, R103, R109). -/
def upkeep (s : State) : State := if s.sync.state.takesCells then action upkeepTables s else s

end Sys2Proof.Machine
end

