-- ==== Sys2Proof/Machine/SyncOps.lean ====
section
/-! DEFINITION. What the sync controller does to the whole station: entry to LISTEN, full teardown, MUTE, LEAVING,
RESTART, CLEAR_COUNTERS (chapter 2, R39, R34, R36, R37). -/

namespace Sys2Proof.Machine

/-- Entry to LISTEN (R19). -/
def Sync.toListen (y : Sync) : Sync :=
  { y with state := .listen, qualEdges := 0, qualLead := none, listenCount := 0, edgeMiss := 0, foreignEarlier := 0,
           mismatch := 0, advance := 0, leading := false }

/-- Entry to LISTEN, the frame timer running on (R19). -/
def enterListen (s : State) : State := s.modSync Sync.toListen

/-- The sync controller's part of full teardown: LISTEN, position 0, every count and flag of R15 clear (R39). -/
def Sync.teardown (y : Sync) : Sync :=
  { y.toListen with frameIndex := 0, superframe := 0, acquireCount := 0, learnCount := 0, freshPending := false }

/-- A peer entry at full teardown (R72). -/
def Peer.teardown (p : Peer) : Peer :=
  { presence := if p.presence = .self then .self else .absent, missed := 0, lastHeard := none,
    damagedCells := p.damagedCells }

/-- A sink at full teardown (R154). -/
def Sink.teardown (c : Sink) : Sink := { c.unbind with lastGood := zeroFrame c.cfg.channels }

/-- Complete every open relay as ABORTED, in handle order (R34, R39, R175). -/
def abortRelays (s : State) : State := completeWhere (fun _ => true) .aborted s

/-- Every block but the request unit at full teardown (R39, R111, R135, R154). -/
def teardownBlocks (s : State) : State :=
  ((((((s.modSync Sync.teardown).modRx (fun r => { r with disagreement := none })).modPeers
    (fun l => l.map Peer.teardown)).modAlloc
    (fun a => { a with slots := List.replicate 56 .cold, dir := [] })).modSources
    (fun l => l.map Source.atTeardown)).modSinks (fun l => l.map Sink.teardown)).modTx
    (fun t => { t with queue := [] })

/-- Full teardown; `report` posts the SYNC or FAULT notice of its cause, ahead of the RELAY notices (R39). -/
def teardown (report : State → State) (s : State) : State := abortRelays (report (teardownBlocks s))

/-- The sync controller's part of entry to MUTE (R34). -/
def Sync.toMute (y : Sync) : Sync :=
  { y with state := .mute, edgeMiss := 0, foreignEarlier := 0, mismatch := 0, freshPending := false, leading := false }

/-- Entry to MUTE: FAULT DUPLICATE_ID, sources halted, control queue emptied, relays aborted, own runs freed with
their REMOVED signals (R34, R109, R126). -/
def enterMute (s : State) : State :=
  action removeOwnRuns (abortRelays (notify (.fault .duplicateId)
    (((s.modSync Sync.toMute).modSources (fun l => l.map Source.atMute)).modTx (fun t => { t with queue := [] }))))

/-- Entry to LEAVING: the purge, then the LEAVE (R37). -/
def enterLeaving (s : State) : State := queueLeave (purgeQueue (s.modSync (fun y => { y with state := .leaving })))

/-- The RESTART action by sync state (R36). -/
def restart (s : State) : AnswerStatus × State :=
  match s.sync.state with
  | .locked | .founding => (.done, enterLeaving s)
  | .mute | .learn => (.done, teardown (notifySync .restarted) s)
  | .acquire | .listen => (.done, enterListen s)
  | .leaving | .configLoad | .configWait | .configFault => (.notNow, s)

/-- Entry to LOCKED by either way: LOCK, SYNC LOCKED, every IDLE source SEEKING (R24, R27). -/
def enterLockedNow (s : State) : State :=
  sourcesSeek (notifySync .locked (s.modSync (fun y => { y with state := .locked })))

/-- Entry to LOCKED from LEARN also sets fresh pending and clears three counts (R24). -/
def lockFromLearn (s : State) : State :=
  enterLockedNow (s.modSync (fun y => { y with freshPending := true, edgeMiss := 0, foreignEarlier := 0, mismatch := 0 }))

/-- Entry to FOUNDING at the frame start where the listen limit expires; qualifying edges counted so far are dropped
(R21, R26). -/
def enterFounding (s : State) : State :=
  notifySync .founded (s.modSync (fun y =>
    { y with state := .founding, frameIndex := 0, superframe := 0, freshPending := true, edgeMiss := 0,
             foreignEarlier := 0, mismatch := 0, qualEdges := 0, qualLead := none }))

/-- Entry to ACQUIRE at the alignment jump (R23). -/
def Sync.toAcquire (y : Sync) : Sync := { y with state := .acquire, acquireCount := 0, edgeMiss := 0, advance := 0 }

/-- Entry to LEARN at the first valid cell in ACQUIRE, with the position the cell names (R23, R24, R32). R15 clears each
count as the later rules give, and R24 names the learn count alone: DEDUCED, the edge-miss count of R22 goes on from
ACQUIRE (log entry 35). -/
def enterLearn (c : Cell) (s : State) : State :=
  (s.modSync (fun y => { y with state := .learn, frameIndex := c.sender, superframe := c.superframe, learnCount := 0 })).modRx
    (fun r => { r with disagreement := none })

/-- CLEAR_COUNTERS: every counter of every block becomes 0; state, the notice queue and the lost count stay (R18, R47,
R59, R71, R99, R112, R133, R151, R163, R177, R184). -/
def clearCounters (s : State) : State :=
  ((((((((s.modSync (fun y => { y with counters := ⟨0, 0, 0, 0, 0⟩ })).modRx
    (fun r => { r with damagedCells := 0, malformedItems := 0, ownIdCells := 0 })).modTx
    (fun t => { t with fullQueueLosses := 0, lostAnswers := 0, cellsSent := 0 })).modPeers
    (fun l => l.map (fun p => { p with damagedCells := 0 }))).modAlloc
    (fun a => { a with counters := ⟨0, 0, 0, 0, 0, 0, 0, 0, 0⟩ })).modSources
    (fun l => l.map (fun c => { c with counters := ⟨0, 0, 0, 0, 0⟩ }))).modSinks
    (fun l => l.map (fun c => { c with counters := ⟨0, 0, 0, 0⟩ }))).modPorts
    (fun l => l.map (fun p => { p with shortFrames := 0, clockLosses := 0 }))).modReq
    (fun q => { q with counters := ⟨0, 0, 0, 0, 0, 0⟩ })

/-- Execute an action on an index, after the manager check: the index check, the action's own rule (R132, R150, R167,
R184). -/
def doAction (a : Action) (index : Nat) (s : State) : AnswerStatus × State :=
  match a with
  | .muteSource =>
    if index < s.sources.length then (.done, s.modSource index (fun c => { c with muted := true })) else (.noSuch, s)
  | .unmuteSource =>
    if index < s.sources.length then (.done, s.modSource index (fun c => { c with muted := false })) else (.noSuch, s)
  | .reseekSource => if index < s.sources.length then reseek index s else (.noSuch, s)
  | .muteSink =>
    if index < s.sinks.length then (.done, s.modSink index (fun c => { c with muted := true })) else (.noSuch, s)
  | .unmuteSink =>
    if index < s.sinks.length then (.done, s.modSink index (fun c => { c with muted := false })) else (.noSuch, s)
  | .clearCounters => (.done, clearCounters s)
  | .restart => restart s

end Sys2Proof.Machine
end

