-- ==== Sys2Proof/Machine/Peers.lean ====
section
/-! DEFINITION. The peer table (chapter 4): turn reports, departure, LEAVE. -/

namespace Sys2Proof.Machine

/-- The entry of an id (R61). -/
def State.peer (s : State) (id : Nat) : Peer := s.peers.getD id .cold

/-- Why a turn was missed (R44). -/
inductive MissCause where
  | silent | damaged | discarded
  deriving DecidableEq, Repr

/-- A heard peer's entry: PRESENT, no missed turn, last superframe heard (R63 to R65). -/
def Peer.heard (sf : Superframe) (p : Peer) : Peer :=
  { p with presence := .present, missed := 0, lastHeard := some sf }

/-- A HEARD report: a join, an ordinary turn or a rejoin with its purge (R63, R64, R65). -/
def peerHeard (x : Nat) (sf : Superframe) (fresh : Bool) (s : State) : State :=
  let s1 := s.modPeer x (Peer.heard sf)
  match (s.peer x).presence with
  | .absent | .departed => notify (.peer .joined x sf 0) s1
  | .present =>
    if fresh then
      action (fun t => notify (.peer .rejoined x sf (runsOf x t)) (purgeHolder .free x t)) s1
    else s1
  | .self => s

/-- The relays that target a departed peer complete as NO_PEER (R67, R69, R175). -/
def loseTarget (x : Nat) (s : State) : State := completeWhere (fun r => r.target == x) .noPeer s

/-- The departure of a peer at its fourth missed turn: its runs become STRAY (R67, R91). -/
def departPeer (x : Nat) (s : State) : State :=
  action (fun t => loseTarget x
    (notify (.peer .departed x t.sync.superframe (runsOf x t)) (purgeHolder .stray x t)))
    (s.modPeer x (fun p => { p with presence := .departed, missed := 4 }))

/-- Count a damaged cell against an id (R66). -/
def countDamagedTurn (x : Nat) (cause : MissCause) (s : State) : State :=
  if cause = .damaged then s.modPeer x (fun p => { p with damagedCells := bump p.damagedCells }) else s

/-- A MISSED report (R66, R67). -/
def peerMissed (x : Nat) (cause : MissCause) (s : State) : State :=
  let s1 := countDamagedTurn x cause s
  match (s.peer x).presence with
  | .present =>
    if 4 ≤ (s.peer x).missed + 1 then departPeer x s1
    else s1.modPeer x (fun p => { p with missed := p.missed + 1 })
  | .absent | .departed => s1
  | .self => s

/-- A LEAVE item of `x`: the peer departs, its runs become FREE, its relays end NO_PEER (R69, R91). -/
def peerLeft (x : Nat) (s : State) : State :=
  action (fun t => loseTarget x
    (notify (.peer .left x t.sync.superframe (runsOf x t)) (purgeHolder .free x t)))
    (s.modPeer x (fun p => { p with presence := .departed, missed := 0 }))

end Sys2Proof.Machine
end

