-- ==== Sys2Proof/Machine/Requests.lean ====
section
/-! DEFINITION. The request unit (chapter 10): serving PROBEs and COMMANDs, matching ANSWERs, making relays, deadlines. -/

namespace Sys2Proof.Machine

/-! ### Payloads (R166, R190) -/

/-- The SUMMARY payload (R166). -/
def summaryPayload (s : State) : Payload :=
  payloadOf [(4, s.sync.state.code), (1, flagVal s.sync.leading), (5, s.presentPeers), (4, s.ownedSources),
    (4, s.runningSinks), (1, flagVal s.muteStands), (1, flagVal s.clashStands), (1, flagVal s.clockLostStands)]

/-- The PEER payload (R70, R166). -/
def peerPayload (p : Peer) : Payload := payloadOf [(2, p.presence.code), (3, p.missed), (16, p.damagedCells)]

/-- The holder of a slot map entry (R73, R100). -/
def SlotUse.holder : SlotUse → Option Nat
  | .pending h _ _ _ | .held h _ _ _ | .owned h _ _ => some h
  | .free | .stray => none

/-- The tag of a slot map entry (R73, R100). -/
def SlotUse.tag : SlotUse → Option Nat
  | .pending _ t _ _ | .held _ t _ _ | .owned _ t _ => some t
  | .free | .stray => none

/-- The priority of a slot map entry (R73, R100). -/
def SlotUse.priority : SlotUse → Option Nat
  | .pending _ _ p _ | .held _ _ p _ | .owned _ _ p => some p
  | .free | .stray => none

/-- The maturity superframe of a slot map entry (R73, R100). -/
def SlotUse.maturity : SlotUse → Option Superframe
  | .pending _ _ _ m => some m
  | _ => none

/-- The lease of a slot map entry (R73, R100). -/
def SlotUse.lease : SlotUse → Option Nat
  | .held _ _ _ l => some l
  | _ => none

/-- The SLOT payload (R100, R166). -/
def slotPayload (u : SlotUse) : Payload :=
  payloadOf [(3, u.code), (1, flagVal u.holder.isSome), (5, u.holder.getD 0), (12, u.tag.getD 0), (5, u.lease.getD 0)]

/-- The SOURCE payload (R133, R166). -/
def sourcePayload (c : Source) : Payload :=
  payloadOf [(4, c.state.code), (6, (c.run.map Run.first).getD 0), (4, (c.run.map Run.count).getD 0),
    (1, flagVal c.muted), (16, c.counters.underruns)]

/-- The SINK payload (R152, R166). -/
def sinkPayload (c : Sink) : Payload :=
  payloadOf [(3, c.state.code), (5, c.queue.length), (1, flagVal c.muted), (16, c.counters.gaps)]

/-- Status and payload of a PROBE, sampled as the state stands (R166). -/
def probeAnswer (subject : Subject) (index : Nat) (s : State) : AnswerStatus × Payload :=
  match subject with
  | .summary => (.done, summaryPayload s)
  | .peer => if index < 32 then (.done, peerPayload (s.peer index)) else (.noSuch, 0)
  | .slot => if 8 ≤ index then (.done, slotPayload (s.slot index).use) else (.noSuch, 0)
  | .source => match s.sources[index]? with
    | some c => (.done, sourcePayload c)
    | none => (.noSuch, 0)
  | .sink => match s.sinks[index]? with
    | some c => (.done, sinkPayload c)
    | none => (.noSuch, 0)

/-! ### Serving (R165 to R168) -/

/-- A PROBE addressed to this station, from `x` (R165, R166, R177). -/
def serveProbe (x reqNo : Nat) (subject : Subject) (index : Nat) (s : State) : State :=
  let a := probeAnswer subject index s
  post (.answer x reqNo a.1 (.subject subject) a.2)
    (countReq (fun c => { c with probesAnswered := bump c.probesAnswered }) s)

/-- Whether the manager set admits a sender; an empty set admits every one (R167). -/
def State.admits (s : State) (x : Nat) : Bool :=
  match s.loader.image with
  | some im => im.managers.isEmpty || im.managers.contains x
  | none => true

/-- A COMMAND addressed to this station, from `x`: the manager check, the index check, the action; the ANSWER is posted
in the state that results (R165, R167, R168, R177). -/
def serveCommand (x reqNo : Nat) (a : Action) (index : Nat) (s : State) : State :=
  if s.admits x then
    let r := doAction a index s
    post (.answer x reqNo r.1 (.action a) 0)
      (countReq (fun c => { c with commandsExecuted := bump c.commandsExecuted }) r.2)
  else
    post (.answer x reqNo .refused (.action a) 0)
      (countReq (fun c => { c with commandsRefused := bump c.commandsRefused }) s)

/-! ### ANSWERs (R174) -/

/-- Whether an entry is AWAITING an ANSWER of a sender and request number (R174). -/
def Relay.awaits (x reqNo : Nat) (r : Relay) : Bool :=
  match r.phase with
  | .awaiting _ => r.target == x && r.reqNo == reqNo
  | _ => false

/-- The handle of the entry an ANSWER matches (R174). -/
def matchingHandle (x reqNo : Nat) (s : State) : Option Nat :=
  s.req.table.findIdx? (fun e => match e with
    | some r => r.awaits x reqNo
    | none => false)

/-- An ANSWER addressed to this station, from `x` (R174). -/
def takeAnswer (x reqNo : Nat) (status : AnswerStatus) (code : Code) (payload : Payload) (s : State) : State :=
  match matchingHandle x reqNo s with
  | some h => completeRelay h (.answered status code payload) s
  | none => countReq (fun c => { c with lateAnswers := bump c.lateAnswers }) s

/-! ### Relays (R170 to R173) -/

/-- Whether a request number is carried by a QUEUED or AWAITING entry (R170). -/
def numberInUse (table : List (Option Relay)) (n : Nat) : Bool :=
  table.any (fun e => match e with
    | some r => r.isOpen && r.reqNo == n
    | none => false)

/-- The first number from `n` on, modulo 256, that no open entry carries, looking at `fuel` candidates; at most four
entries can be open (R164, R170). -/
def freeNumber (table : List (Option Relay)) : Nat → Nat → Nat
  | 0, n => n
  | fuel + 1, n => if numberInUse table n then freeNumber table fuel ((n + 1) % 256) else n

/-- The lowest free handle (R170). -/
def freeHandle (s : State) : Option Nat := s.req.table.findIdx? Option.isNone

/-- The queued item of a relay (R48, R171). -/
def relayItem (h reqNo target : Nat) (code : Code) (index : Nat) : QItem :=
  match code with
  | .subject x => .probe h reqNo target x index
  | .action a => .command h reqNo target a index

/-- Accept a relay at handle `h`: the request number, the QUEUED entry, the item in class 3 (R170, R171). -/
def acceptRelay (h target : Nat) (code : Code) (index : Nat) (s : State) : Nat × State :=
  let n := freeNumber s.req.table 4 s.req.nextNo
  (n, post (relayItem h n target code index)
    (setRelay h (some { reqNo := n, target := target, code := code, index := index, phase := .queued })
      (s.modReq (fun q => { q with nextNo := (n + 1) % 256 }))))

/-- Whether the deadline of a relay sent in `sent` is reached at the boundary into `m` (R173). -/
def deadlineReached (sent m : Superframe) : Bool :=
  let d := (sent + 4 - m).toNat
  d == 0 || decide (5 ≤ d)

/-- Whether an entry times out at the boundary into `m` (R173). -/
def Relay.expiresAt (m : Superframe) (r : Relay) : Bool :=
  match r.phase with
  | .awaiting x => deadlineReached x m
  | _ => false

/-- The deadlines at a boundary (R173, R177). R175 orders the RELAY notices of a departure and of a teardown, and those of
several timeouts have no order in the rules: DESIGN CHOICE, handle order as there (log entry 42). -/
def relayDeadlines (s : State) : State :=
  forEach 4 (fun h t => match t.relay h with
    | some r =>
      if r.expiresAt t.sync.superframe then
        completeRelay h .timeout (countReq (fun c => { c with relayTimeouts := bump c.relayTimeouts }) t)
      else t
    | none => t) s

/-- The sent event of a relay's item in superframe `sf` (R172). -/
def relaySent (sf : Superframe) (h reqNo : Nat) (s : State) : State :=
  match s.relay h with
  | some r => if r.reqNo = reqNo ∧ r.phase = .queued then setRelay h (some { r with phase := .awaiting sf }) s else s
  | none => s

end Sys2Proof.Machine
end

