-- ==== Sys2Proof/Machine/Cells.lean ====
section
/-! DEFINITION. The own cell from build to sent event and readback, and the cell receiver (chapter 3, R23, R25, R31 to
R33). -/

namespace Sys2Proof.Machine

/-! ### Building the own cell (R53 to R56) -/

/-- The build in progress: the station and the items placed so far. -/
structure BuildAcc where
  st : State
  placed : List Placed

/-- The runs assigned to CLAIMs earlier in the same cell (R55). -/
def assignedRuns (placed : List Placed) : List Run :=
  placed.filterMap (fun p => match p.item with
    | .claim _ => p.run
    | _ => none)

/-- Take an item out of the queue: its oldest copy. -/
def dequeue (it : QItem) (s : State) : State := modQueue (fun q => q.erase it) s

/-- Place an item's bits in the next position. -/
def BuildAcc.place (acc : BuildAcc) (it : QItem) (run : Option Run) (bits : ItemBits) (s : State) : BuildAcc :=
  { st := s, placed := acc.placed ++ [⟨it, run, bits⟩] }

/-- Whether the item's relay entry is still QUEUED (R56). -/
def relayQueued (s : State) (h reqNo : Nat) : Bool :=
  match s.relay h with
  | some r => decide (r.reqNo = reqNo ∧ r.phase = .queued)
  | none => false

/-- Whether every slot of a run is OWNED under a tag (R56). -/
def runOwned (s : State) (tag : Nat) (r : Run) : Bool :=
  (runSlots r.first r.count).all (fun k => match (s.slot k).use with
    | .owned _ t _ => t == tag
    | _ => false)

/-- Consider one queued item at the build: it leaves the queue and is placed, or is returned to its owner (R54 to
R56). -/
def considerItem (it : QItem) (acc : BuildAcc) : BuildAcc :=
  let s := dequeue it acc.st
  match it with
  | .claim n => match s.sources[n]? with
    | some c => match lowestRun s c.cfg.channels (assignedRuns acc.placed) with
      | some f =>
        acc.place it (some ⟨f, c.cfg.channels⟩)
          (Item.claim c.cfg.tag f c.cfg.channels c.cfg.priority).bits (setQueued n .nothing s)
      | none => { acc with st := enterBlocked n s }
    | none => { acc with st := s }
  | .release n tag r stale =>
    let s' := if stale then s else setQueued n .nothing s
    if runOwned s tag r then acc.place it (some r) (Item.release tag r.first r.count).bits s'
    else { acc with st := s' }
  | .offer n objection => match s.sources[n]? with
    | some c => match c.run with
      | some r =>
        if c.state = .owned then
          acc.place it (some r) (Item.offer c.cfg.tag r.first r.count c.cfg.priority objection).bits s
        else { acc with st := s }
      | none => { acc with st := s }
    | none => { acc with st := s }
  | .probe h q x subject index =>
    if relayQueued s h q then acc.place it none (Item.probe x q subject.code index).bits s else { acc with st := s }
  | .command h q x a index =>
    if relayQueued s h q then acc.place it none (Item.command x q a.code index).bits s else { acc with st := s }
  | .answer x q status code payload => acc.place it none (Item.answer x q status.code code.code payload).bits s
  | .leave => acc.place it none Item.leave.bits s

/-- Consider items in order until three are placed (R54). -/
def buildLoop : List QItem → BuildAcc → BuildAcc
  | [], acc => acc
  | it :: rest, acc => if 3 ≤ acc.placed.length then acc else buildLoop rest (considerItem it acc)

/-- The queued items class by class, within a class from the oldest (R54). -/
def byClass (q : List QItem) : List QItem := (List.range 6).flatMap (fun c => q.filter (fun it => itemClass it == c))

/-- The items a build considers, in order; in LEAVING up to 2 of the oldest ANSWERs and then the LEAVE (R54). -/
def buildOrder (s : State) : List QItem :=
  if s.sync.state = .leaving ∧ .leave ∈ s.tx.queue then (s.tx.queue.filter QItem.isAnswer).take 2 ++ [.leave]
  else byClass s.tx.queue

/-- The own cell of a build (R53). -/
def ownCellOf (s : State) (placed : List Placed) : Cell :=
  { sender := s.id, superframe := s.sync.superframe, count := placed.length, fresh := s.sync.freshPending,
    items := [((placed.map Placed.bits).getD 0 0), ((placed.map Placed.bits).getD 1 0),
      ((placed.map Placed.bits).getD 2 0)] }

/-- Whether this frame's cell is the station's own to drive (R4, R6, R10). -/
def drivesOwnCell (s : State) : Bool := s.sync.state.drives && s.sync.frameIndex == s.id

/-- Build the own cell and hand it to the line interface, which drives it (R6, R53). -/
def buildCell (s : State) : State :=
  let acc := buildLoop (buildOrder s) ⟨atTick 32 s, []⟩
  let cell := ownCellOf s acc.placed
  (acc.st.modTx (fun t => { t with built := some ⟨cell.superframe, cell.fresh, acc.placed⟩ })).modLine
    (fun l => { l with ownCell := some cell }.begin 32 (.cell (encodeCell cell)))

/-! ### The sent event (R58) -/

/-- The CLAIMs a cell carries: each with its source and its run. -/
def sentClaims (placed : List Placed) : List (Nat × Run) :=
  placed.filterMap (fun p => match p.item with
    | .claim n => p.run.map (fun r => (n, r))
    | _ => none)

/-- The effect at its owner of one item of a cell with items `cell` sent in superframe `sf` (R37, R58). -/
def itemSent (sf : Superframe) (cell : List Placed) (p : Placed) (s : State) : State :=
  match p.item with
  | .claim n => action (ownClaimSent sf (sentClaims cell) n (p.run.getD ⟨0, 0⟩)) s
  | .release n tag _ _ => action (ownReleaseSent n tag) s
  | .probe h q _ _ _ => relaySent sf h q s
  | .command h q _ _ _ => relaySent sf h q s
  | .offer _ _ => s
  | .answer .. => s
  | .leave => if s.sync.state = .leaving then teardown (notifySync .left) s else s

/-- The own cell is sent: each item's owner applies its effect, in item order; sources told CLASHED by it are told in
their own order (R58, R59, R134, log entry 43). -/
def cellSent (b : Built) (s : State) : State :=
  let s1 := (atTick 255 s).modTx (fun t => { t with built := none, cellsSent := bump t.cellsSent })
  let s2 := if b.fresh then s1.modSync (fun y => { y with freshPending := false }) else s1
  b.placed.foldl (fun t p => itemSent b.superframe b.placed p t) s2

/-! ### Readback (R11, R31) -/

/-- Whether the received window is MATCH: GOOD, with every header field and every item position within the item count
as built (R11). -/
def readbackMatches (own : Cell) (w : CellWindow) : Bool :=
  match classifyCell w with
  | .good c =>
    c.sender == own.sender && c.superframe == own.superframe && c.count == own.count && c.fresh == own.fresh
      && (List.range (min own.count 3)).all (fun i => c.item i == own.item i)
  | _ => false

/-- Whether a readback is used: FOUNDING and LOCKED (R31). -/
def countsMismatch (s : State) : Bool := s.sync.state == .founding || s.sync.state == .locked

/-- The readback of the own cell (R11, R31). -/
def cellReadback (own : Cell) (w : CellWindow) (s : State) : State :=
  let s1 := s.modLine (fun l => { l with ownCell := none, drive := .nothing })
  if countsMismatch s then
    if readbackMatches own w then s1.modSync (fun y => { y with mismatch := 0 })
    else if s.sync.mismatch + 1 < 2 then s1.modSync (fun y => { y with mismatch := y.mismatch + 1 })
    else enterMute s1
  else s1

/-! ### Items (R45, R46) -/

/-- Whether a tag and run fail the checks of CLAIM, OFFER and RELEASE (R46). -/
def runMalformed (tag first count : Nat) : Bool :=
  tag == 0 || count == 0 || decide (8 < count) || decide (first < 8) || decide (64 < first + count)

/-- Whether an item of an accepted cell is malformed (R46, R190). -/
def Item.malformed (own : Nat) : Item → Bool
  | .claim tag first count _ => runMalformed tag first count
  | .offer tag first count _ _ => runMalformed tag first count
  | .release tag first count => runMalformed tag first count
  | .leave => false
  | .probe target _ subject _ => target == own && (subjectOf subject).isNone
  | .command target _ a _ => target == own && (actionOf a).isNone
  | .answer addressee _ status code _ => addressee == own && ((answerStatusOf status).isNone || (codeOf code).isNone)
  | .unknown _ => true

/-- Dispatch one item from `x` to the block that owns its matter (R45). -/
def dispatchItem (x : Nat) (it : Item) (s : State) : State :=
  match it with
  | .claim tag first count priority => action (heardClaim x tag first count priority) s
  | .offer tag first count priority _ => action (heardOffer x tag first count priority) s
  | .release tag _ _ => action (heardRelease x tag) s
  | .leave => peerLeft x s
  | .probe target reqNo subject index =>
    if target = s.id then match subjectOf subject with
      | some sub => serveProbe x reqNo sub index s
      | none => s
    else s
  | .command target reqNo a index =>
    if target = s.id then match actionOf a with
      | some act => serveCommand x reqNo act index s
      | none => s
    else s
  | .answer addressee reqNo status code payload =>
    if addressee = s.id then match answerStatusOf status, codeOf code with
      | some st, some c => takeAnswer x reqNo st c payload s
      | _, _ => s
    else s
  | .unknown _ => s

/-- Dispatch the items of an accepted cell in order: a malformed one is counted and left out, none is taken after a
LEAVE, and none once the station takes no cells (R45, R46, R98, log entry 17). Items of one cell that reach different
blocks, a PROBE SLOT and a CLAIM for one, have no order in R45, and R100, R110 and R166 give the outcome of each:
DESIGN CHOICE, they are taken in the order of the cell too (log entry 37). -/
def dispatchItems (x : Nat) : List Item → State → State
  | [], s => s
  | it :: rest, s =>
    if s.sync.state.takesCells then
      if it.malformed s.id then
        dispatchItems x rest (s.modRx (fun r => { r with malformedItems := bump r.malformedItems }))
      else if it = .leave then peerLeft x s
      else dispatchItems x rest (dispatchItem x it s)
    else s

/-! ### The cell receiver (R32, R33, R41 to R44) -/

/-- A trunk position: superframe number x 32 + frame index (R32). -/
def position (sf : Superframe) (index : Nat) : Nat := sf.toNat * 32 + index

/-- The correction a cell implies, modulo 2 097 152 (R32). -/
def correctionOf (c : Cell) (s : State) : Nat :=
  (position c.superframe c.sender + 2097152 - position s.sync.superframe s.sync.frameIndex) % 2097152

/-- Whether a valid cell agrees with the station's count (R32). -/
def agrees (c : Cell) (s : State) : Bool := c.sender == s.sync.frameIndex && c.superframe == s.sync.superframe

/-- Whether a disagreeing cell is confirmed by the record: another sender, the same correction (R32). -/
def confirms (c : Cell) (s : State) : Bool :=
  match s.rx.disagreement with
  | some d => d.sender != c.sender && d.correction == correctionOf c s
  | none => false

/-- Resync adoption (R33). -/
def adopt (c : Cell) (s : State) : State :=
  notifySync .resynced (countSync (fun k => { k with resyncs := bump k.resyncs })
    ((s.modSync (fun y => { y with frameIndex := c.sender, superframe := c.superframe })).modRx
      (fun r => { r with disagreement := none })))

/-- An accepted cell: the HEARD report, then its items (R44, R45). -/
def acceptCell (c : Cell) (s : State) : State :=
  dispatchItems c.sender ((c.items.take c.count).map decodeItem) (peerHeard c.sender c.superframe c.fresh s)

/-- The MISSED report of a frame, made unless the index is the own id (R44). -/
def reportMissed (cause : MissCause) (s : State) : State :=
  if s.sync.frameIndex = s.id then s else peerMissed s.sync.frameIndex cause s

/-- A cell discarded for disagreement (R32, R42). -/
def discardCell (c : Cell) (s : State) : State :=
  reportMissed .discarded
    ((countSync (fun k => { k with disagreeing := bump k.disagreeing }) s).modRx
      (fun r => { r with disagreement := some ⟨c.sender, correctionOf c s⟩ }))

/-- A damaged cell, or a GOOD one with an item count of 4 or more (R42). -/
def damagedCell (s : State) : State :=
  reportMissed .damaged (s.modRx (fun r => { r with damagedCells := bump r.damagedCells }))

/-- A valid cell in LEARN and the states after it (R25, R32, R42, R43). -/
def validCell (c : Cell) (s : State) : State :=
  if c.sender = s.id then
    if s.sync.state = .learn then enterMute s
    else s.modRx (fun r => { r with ownIdCells := bump r.ownIdCells })
  else if agrees c s then acceptCell c (s.modRx (fun r => { r with disagreement := none }))
  else if confirms c s then acceptCell c (adopt c s)
  else discardCell c s

/-- The cell of a frame the station did not drive, as classified, in the sync state it finds (R23, R41, R42). -/
def takeCell (cl : CellClass) (s : State) : State :=
  if s.sync.state = .acquire then
    match cl with
    | .good c => if c.count ≤ 3 then enterLearn c s else s
    | _ => s
  else if s.sync.state.takesCells then
    match cl with
    | .silent => reportMissed .silent s
    | .damaged => damagedCell s
    | .good c => if c.count ≤ 3 then validCell c s else damagedCell s
  else s

/-- The end of slot 7 of a frame whose cell the station did not drive (R10, R41). -/
def receiveCell (w : CellWindow) (s : State) : State :=
  takeCell (classifyCell w) ((atTick 255 s).modLine (fun l => { l with drive := .nothing }))

/-- Whether the received window is a peer's fourth missed turn: its entry goes from PRESENT to DEPARTED otherwise than
by a LEAVE (R66, R67). -/
def missedTurn (w : CellWindow) (s : State) : Bool :=
  match classifyCell w with
  | .silent => true
  | .damaged => true
  | .good c => decide (3 < c.count) || (c.sender != s.id && !agrees c s && !confirms c s)

/-- Whether the received window brings a departure about (R67). -/
def departureDue (w : CellWindow) (s : State) : Bool :=
  s.sync.state.takesCells && s.sync.frameIndex != s.id && missedTurn w s
    && (s.peer s.sync.frameIndex).presence == .present && decide (3 ≤ (s.peer s.sync.frameIndex).missed)

end Sys2Proof.Machine
end

