-- ==== Sys2Proof/Machine/Ports.lean ====
section
/-! DEFINITION. The port interface (chapter 9): FOLLOW port frames, BRIDGE strobes, the clock watch. -/

namespace Sys2Proof.Machine

/-- Whether the frame now ending cuts a FOLLOW port frame short: it is the frame of an alignment jump and ends before
the 192 bit periods, which every frame of 2046 ticks or more completes (R157, log entry 8). -/
def followCutShort (jump : Option Nat) : Bool :=
  match jump with
  | some length => decide (length < 2046) && decide (length < Config.followBitTicks)
  | none => false

/-- Count a short frame of port `p` (R163). -/
def countShort (p : Nat) (s : State) : State := s.modPort p (fun q => { q with shortFrames := bump q.shortFrames })

/-- Prime port `p` (R157, R158). -/
def prime (p : Nat) (s : State) : State := s.modPort p (fun q => { q with primed := true })

/-- What a port frame event moves: an IN port delivers the lanes of the frame that ends if that frame was whole, an OUT
port is filled (R157 to R160). -/
def portFrame (p : Nat) (bridge whole : Bool) (lanes : List Sample) (s : State) : State :=
  match s.direction p with
  | some .input => if whole then deliverLanes p bridge lanes s else s
  | some .output => fillLanes p bridge s
  | none => s

/-- The port frame of FOLLOW port `p` at a local frame start, `bits` shifted in since the one before; `short` says that
the frame that ends cut it short (R155, R157). -/
def followFrame (short : Bool) (p : Nat) (bits : List Bool) (s : State) : State :=
  match s.ports[p]? with
  | some q =>
    prime p (portFrame p false (q.primed && !short) (lanesOf bits) (if q.primed && short then countShort p s else s))
  | none => s

/-- The clock watch of BRIDGE port `p` at a local frame start (R161). -/
def watchClock (p : Nat) (s : State) : State :=
  match s.ports[p]? with
  | some q =>
    if q.clock = some .active then
      if q.watch + 1 < 64 then s.modPort p (fun q => { q with watch := q.watch + 1 })
      else
        notify (.fault (.clockLost p s.sync.superframe)) (s.modPort p (fun q =>
          { q with watch := 64, clock := some .lost, primed := false, clockLosses := bump q.clockLosses }))
    else s
  | none => s

/-- Port `p` at a local frame start: the port frame of a FOLLOW port, the watch of a BRIDGE port (R157, R161). -/
def portAtFrameStart (short : Bool) (shifted : List (List Bool)) (p : Nat) (s : State) : State :=
  match s.clocking p with
  | some .follow => followFrame short p (shifted.getD p []) s
  | some .bridge => watchClock p s
  | none => s

/-- Every port at a local frame start, in ascending order (R157, R161). -/
def portsAtFrameStart (short : Bool) (shifted : List (List Bool)) (s : State) : State :=
  forEach 4 (portAtFrameStart short shifted) s

/-- A strobe on a lost BRIDGE port makes it ACTIVE, with its notice; a strobe clears the watch count (R161). -/
def restoreClock (p : Nat) (s : State) : State :=
  match s.ports[p]? with
  | some q =>
    let s1 := s.modPort p (fun q => { q with watch := 0, clock := some .active })
    if q.clock = some .lost then notify (.fault (.clockRestored p s.sync.superframe)) s1 else s1
  | none => s

/-- A frame strobe received on BRIDGE port `p`, `periods` bit periods after the one before, with the bits clocked in the
first 192 of them (R155, R158, R161). -/
def strobe (p periods : Nat) (bits : List Bool) (s : State) : State :=
  match s.ports[p]? with
  | some q =>
    let s1 := restoreClock p s
    prime p (portFrame p true (q.primed && decide (192 ≤ periods)) (lanesOf bits)
      (if q.primed && decide (periods < 192) then countShort p s1 else s1))
  | none => s

/-- The bits an OUT port shifts out in the current port frame (R155, R160). -/
def Port.serialOut (q : Port) : List Bool := bitsOfLanes q.lanesOut

/-- The record and state of a port at acceptance (R155, R156, R161, R163). -/
def Port.accept (cfg : PortConfig) (q : Port) : Port :=
  { q with cfg := some cfg, primed := false, watch := 0
           clock := if cfg.clocking = .bridge then some .active else none
           lanesOut := if cfg.direction = .output then zeroFrame 8 else [] }

end Sys2Proof.Machine
end

