-- ==== Sys2Proof/Machine/Frame.lean ====
section
/-! DEFINITION. The events of one frame: the frame start with the boundary it can carry, the marker report, the start
and the end of a data slot; and when each brings about the rows of the table that are named for what comes about. -/

namespace Sys2Proof.Machine

/-! ### The frame start (R1, R2, R16) -/

/-- The length of the frame that ends: set by the jump in the jump frame, by the advance otherwise (R16, R20). -/
def frameLength (y : Sync) : Nat :=
  match y.jump with
  | some length => length
  | none => (2048 - y.advance).toNat

/-- What of a slot's ticks is driven in the `n` ticks that its frame leaves it. A word that an advance shortens still ends
recessive, as every word does: the shortening lies within the guard, and nothing of the guard is visible (R1, R189; that
the marker after it is so kept apart is DEDUCED, log entry 41). -/
def cutShort (n : Nat) (ticks : List Bool) : List Bool :=
  if ticks.length ≤ n then ticks else ticks.take (n - 1) ++ [false]

/-- The line interface at the end of a frame: words not driven are gone, what was driven, up to the end of the frame,
stands on record against the frame that begins, and the next report takes the edges from tick 1024 on, or after the
alignment jump those of lead 1024 and less (R1, R5, R8, R16, R20, log entry 29). -/
def Line.endFrame (y : Sync) (l : Line) : Line :=
  { l with
    frameTicks := frameLength y, handed := []
    driven := (l.driven.filter (fun d => decide (0 ≤ d.start))).map (fun d =>
      ⟨d.start - frameLength y, cutShort ((frameLength y : Int) - d.start).toNat d.ticks⟩)
    reportFrom := if y.jump.isSome then min 1024 ((frameLength y : Int) - 1024) else (frameLength y : Int) - 1024 }

/-- The end of a frame: its length is known, the advance is applied and cleared, and the source engine counts collided
frames anew (R16, R121). -/
def endFrame (s : State) : State :=
  ((s.modLine (Line.endFrame s.sync)).modSync
    (fun y => { y with tick := 0, advance := 0, jump := none })).modSources
    (fun l => l.map (fun c => { c with collidedNow := false }))

/-- The listen limit: 256 + 64 x station id frames (R15). -/
def listenLimit (s : State) : Nat := 256 + 64 * s.id

/-- Whether the configuration permits founding (R15, R181). -/
def State.mayFound (s : State) : Bool :=
  match s.loader.image with
  | some im => im.founding
  | none => false

/-- Whether the next frame start brings the listen count to the listen limit (R21). -/
def listenExpires (s : State) : Bool := s.sync.state == .listen && decide (listenLimit s ≤ s.sync.listenCount + 1)

/-- Whether the next frame start is the entry to FOUNDING (R21, R26). -/
def founds (s : State) : Bool := listenExpires s && s.mayFound

/-- Whether the next frame start is a boundary: the step from 31 to 0, but for the entry to FOUNDING (R2, R26). -/
def crossesBoundary (s : State) : Bool :=
  s.sync.state.timerRuns && s.sync.frameIndex == 31 && !founds s

/-- The superframe number the next boundary begins (R2). -/
def nextSuperframe (s : State) : Superframe := s.sync.superframe + 1

/-- The step of the frame index and of the superframe number (R2). -/
def Sync.stepIndex (y : Sync) : Sync :=
  if y.frameIndex = 31 then { y with frameIndex := 0, superframe := y.superframe + 1 }
  else { y with frameIndex := y.frameIndex + 1 }

/-- What the sync controller does at a frame start that is no entry to FOUNDING, after the step (R21, R23, R24). -/
def syncAtFrameStart (s : State) : State :=
  match s.sync.state with
  | .listen =>
    s.modSync (fun y =>
      { y with listenCount := if listenLimit s ≤ y.listenCount + 1 then 0 else y.listenCount + 1 })
  | .acquire =>
    if s.sync.acquireCount + 1 < 64 then s.modSync (fun y => { y with acquireCount := y.acquireCount + 1 })
    else enterListen (s.modSync (fun y => { y with acquireCount := 64 }))
  | .learn => if 8 ≤ s.sync.learnCount then lockFromLearn s else s
  | _ => s

/-- The marker is driven in slot 0 while the state drives (R4, R5). -/
def driveMarker (s : State) : State :=
  s.modLine (Line.begin 0 (if s.sync.state.drives then .marker else .nothing))

/-- What the sync controller does at a boundary (R24, R27). -/
def syncAtBoundary (s : State) : State :=
  match s.sync.state with
  | .learn => s.modSync (fun y => { y with learnCount := min (y.learnCount + 1) 8 })
  | .founding => enterLockedNow s
  | _ => s

/-- The boundary event, delivered after the frame start that carries it: sync controller, allocator, sources, request
unit. Sources that the end of the founding trial has just made SEEKING wait for the next one (R2, log entry 9). -/
def boundary (s : State) : State :=
  let s1 := upkeep (syncAtBoundary s)
  relayDeadlines (if s.sync.state = .founding then s1 else sourcesBoundary s1)

/-- The index and the sync state at a frame start (R2, R21, R23, R24, R26). -/
def frameSync (s : State) : State :=
  if founds s then enterFounding ((endFrame s).modSync (fun y => { y with listenCount := listenLimit s }))
  else syncAtFrameStart ((endFrame s).modSync Sync.stepIndex)

/-- A local frame start while the frame timer runs (R1, R2, R4, R157, R161). -/
def frameStarted (shifted : List (List Bool)) (s : State) : State :=
  let s1 := portsAtFrameStart (followCutShort s.sync.jump) shifted (driveMarker (frameSync s))
  if crossesBoundary s then boundary s1 else s1

/-- A frame start; in the configuration states the frame timer is stopped and none occurs (R1). -/
def frameStartEvent (shifted : List (List Bool)) (s : State) : State :=
  if s.sync.state.timerRuns then frameStarted shifted s else s

/-! ### What the next frame start brings about -/

/-- The 64th frame of ACQUIRE without a valid cell (R23). -/
def acquireEnds (s : State) : Bool := s.sync.state == .acquire && decide (64 ≤ s.sync.acquireCount + 1)

/-- The 8th boundary of LEARN (R24). -/
def learnCompletes (s : State) : Bool :=
  s.sync.state == .learn && crossesBoundary s && s.sync.learnCount == 7

/-- The frame start after the 8th boundary of LEARN (R24). -/
def locksNow (s : State) : Bool := s.sync.state == .learn && decide (8 ≤ s.sync.learnCount)

/-- The first boundary in FOUNDING (R27). -/
def trialEnds (s : State) : Bool := s.sync.state == .founding && crossesBoundary s

/-- A boundary at which the allocator makes its upkeep (R92). -/
def upkeepDue (s : State) : Bool := s.sync.state.takesCells && crossesBoundary s

/-- A peer's PENDING run for `tag` matures (R93). -/
def peerMatures (tag : Nat) (s : State) : Bool :=
  upkeepDue s && (match findTag tag s.alloc.dir with
    | some e => e.station != s.id && maturesAt (nextSuperframe s) s e
    | none => false)

/-- The own PENDING run of source `n` matures (R94). -/
def ownMatures (n : Nat) (s : State) : Bool :=
  upkeepDue s && (match (s.sources[n]?).bind (fun c => findTag c.cfg.tag s.alloc.dir) with
    | some e => e.station == s.id && maturesAt (nextSuperframe s) s e
    | none => false)

/-- The lease of the HELD run for `tag` reaches 0 (R95). -/
def leaseLapses (tag : Nat) (s : State) : Bool :=
  upkeepDue s && (match findTag tag s.alloc.dir with
    | some e => e.active && e.station != s.id && decide (leaseOf s e ≤ 1)
    | none => false)

/-- The refresh count of source `n` reaches 8 (R97). -/
def refreshDue (n : Nat) (s : State) : Bool :=
  upkeepDue s && (match s.sources[n]? with
    | some c => c.state == .owned && decide (8 ≤ c.refresh + 1)
    | none => false)

/-- The backoff count of source `n` reaches 0 (R124). -/
def backoffEnds (n : Nat) (s : State) : Bool :=
  crossesBoundary s && s.sync.state != .founding && (match s.sources[n]? with
    | some c => c.state == .backoff && decide (c.backoff ≤ 1)
    | none => false)

/-- The relay entry at handle `h` meets its deadline (R173). -/
def relayExpires (h : Nat) (s : State) : Bool :=
  crossesBoundary s && (match s.relay h with
    | some r => r.expiresAt (nextSuperframe s)
    | none => false)

/-- The watch count of BRIDGE port `p` reaches 64 (R161). -/
def watchExpires (p : Nat) (s : State) : Bool :=
  s.sync.state.timerRuns && (match s.ports[p]? with
    | some q => s.clocking p == some .bridge && q.clock == some .active && decide (64 ≤ q.watch + 1)
    | none => false)

/-! ### The start of a data slot -/

/-- Whether a slot number is that of a data slot (R1). -/
def isDataSlot (k : Nat) : Bool := decide (8 ≤ k) && decide (k ≤ 63)

/-- Whether a handed word may be driven: its slot OWNED under its source's tag, its source OWNED (R8). -/
def wordDriven (s : State) (w : HandedWord) : Bool :=
  match s.sources[w.source]? with
  | some c =>
    c.state == .owned && (match (s.slot w.slot).use with
      | .owned _ t _ => t == c.cfg.tag
      | _ => false)
  | none => false

/-- What is driven in data slot `k`: the word handed for it, if the state drives and the word may be driven (R4, R8). -/
def slotDrive (k : Nat) (s : State) : Drive :=
  if s.sync.state.drives then
    match s.line.handed.find? (fun w => w.slot == k && wordDriven s w) with
    | some w => .data k w.source w.sample w.valid
    | none => .nothing
  else .nothing

/-- Decide what to drive in data slot `k`; the words handed for it are used up (R4, R8). -/
def decideSlot (k : Nat) (s : State) : State :=
  s.modLine (fun l => { l with handed := l.handed.filter (fun w => w.slot != k) }.begin (32 * k) (slotDrive k s))

/-- The start of data slot `k`: the takes of the sources whose run begins there, in ascending order, then an action that
meets them at that instant and is taken after them, then the decision whether to drive (R4, R8, R120, R132). -/
def slotStarted (k : Nat) (meeting : State → State) (s : State) : State :=
  decideSlot k (meeting (forEach s.sources.length (takeAt k) (atTick (32 * k) s)))

/-- The start of a data slot while the frame timer runs (R1). -/
def slotStartEvent (k : Nat) (meeting : State → State) (s : State) : State :=
  if s.sync.state.timerRuns && isDataSlot k then slotStarted k meeting s else s

/-! ### The marker report (R5) -/

/-- What the station drives about a frame start, as far as a report looks: what is on record, and the word that slot 32
drives as things stand, in the 31 ticks past tick 1023 in which the last marker is recognised (R3, R5, log entry 7). -/
def drivenAbout (s : State) : List Driven :=
  if s.line.driven.any (fun d => d.start == 1024) then s.line.driven
  else (slotStarted 32 (fun t => t) s).line.driven

/-- The leads of this frame's marker edges, in order of arrival: those of lead -1023 at least that the report before did
not hold (R5). A frame of 2049 or 2050 ticks gives edges at its ticks 1024 and 1025 the leads 1025 and 1026, which R5
leaves without a frame: DEDUCED, they belong to the frame that follows, as every edge belongs to one (log entry 29). -/
def reportLeads (line : OnLine LineTicks) (s : State) : List Int :=
  ((heardEdges (drivenAbout s) line).map (fun (i : Nat) => line.value.lead - i)).filter
    (fun b => decide (-1023 ≤ b) && decide (b ≤ s.line.reportFrom))

/-- The number of qualifying edges after a first edge of lead `b` (R20). -/
def qualifying (b : Int) (y : Sync) : Nat :=
  match y.qualLead with
  | some p => if -8 ≤ b - p ∧ b - p ≤ 8 then y.qualEdges + 1 else 1
  | none => 1

/-- The alignment jump at a third qualifying edge of lead `b` (R20, log entry 11). -/
def Sync.alignmentJump (b : Int) (y : Sync) : Sync :=
  { y.toAcquire with tick := (1023 + b).toNat, jump := some (2048 - b).toNat, qualEdges := 2, qualLead := some b }

/-- The report in LISTEN (R20). -/
def Sync.listenReport (leads : List Int) (y : Sync) : Sync :=
  match leads with
  | [] => { y with qualEdges := 0, qualLead := none }
  | b :: _ =>
    if 3 ≤ qualifying b y then y.alignmentJump b
    else { y with qualEdges := qualifying b y, qualLead := some b }

/-- A lead limited to -2 to 2 (R22). -/
def limitLead (lead : Int) : Int := max (-2) (min lead 2)

/-- The tracking edge: the first edge within 48 ticks (R22). -/
def trackingEdge (leads : List Int) : Option Int := leads.find? (fun b => decide (-48 ≤ b) && decide (b ≤ 48))

/-- The third missed frame in ACQUIRE, LEARN or MUTE (R22). -/
def edgeMissLimit (s : State) : State :=
  match s.sync.state with
  | .acquire => enterListen s
  | .learn => teardown (notifySync .markersLost) s
  | _ => s.modSync (fun y => { y with edgeMiss := 3 })

/-- The report in ACQUIRE, LEARN and MUTE (R22). -/
def slewReport (leads : List Int) (s : State) : State :=
  match trackingEdge leads with
  | some lead => s.modSync (fun y => { y with advance := limitLead lead, edgeMiss := 0 })
  | none =>
    let s1 := s.modSync (fun y => { y with advance := 0, edgeMiss := y.edgeMiss + 1 })
    if 3 ≤ s1.sync.edgeMiss then edgeMissLimit s1 else s1

/-- The advance a driving station schedules from the first edge (R28). -/
def driveAdvance (first : Option Int) : Int :=
  match first with
  | some d => if d < 0 then 0 else if d ≤ 2 then d else if d ≤ 48 then 2 else 0
  | none => 0

/-- Whether the first edge is foreign-earlier (R28). -/
def leadsEarlier (first : Option Int) : Bool :=
  match first with
  | some d => decide (49 ≤ d)
  | none => false

/-- The sync controller's part of a report while driving: leading flag, advance, the two counts (R18, R28, R30). -/
def Sync.driveReport (leads : List Int) (y : Sync) : Sync :=
  { y with leading := leads.head? == some 0
           advance := driveAdvance leads.head?
           foreignEarlier := if leadsEarlier leads.head? then y.foreignEarlier + 1 else 0
           edgeMiss := if leads.isEmpty then y.edgeMiss + 1 else 0 }

/-- The foreign-later edges of a report (R29). -/
def foreignLaterEdges (leads : List Int) : Nat := leads.countP (fun b => decide (b ≤ -49))

/-- A yield (R28). -/
def yieldNow (s : State) : State :=
  teardown (notifySync .yielded) (countSync (fun k => { k with yields := bump k.yields }) s)

/-- A line fault (R30). -/
def lineFaultNow (s : State) : State :=
  teardown (notify (.fault .lineFault)) (countSync (fun k => { k with lineFaults := bump k.lineFaults }) s)

/-- The report in FOUNDING, LOCKED and LEAVING (R18, R28, R29, R30). -/
def driveReport (leads : List Int) (s : State) : State :=
  let s1 := (countSync (fun k => { k with foreignLater := bumpBy (foreignLaterEdges leads) k.foreignLater }) s).modSync
    (Sync.driveReport leads)
  if 2 ≤ s1.sync.foreignEarlier then yieldNow s1
  else if 4 ≤ s1.sync.edgeMiss then lineFaultNow s1
  else s1

/-- Whether a marker report is made in this frame: the timer runs, and the frame is not the jump frame with its report
behind it (R1, R5, R20). -/
def reportDue (s : State) : Bool := s.sync.state.timerRuns && s.sync.jump.isNone

/-- The marker report at the end of local tick 1023, by sync state (R5, R20, R22, R28). -/
def reportMade (leads : List Int) (s : State) : State :=
  let s1 := atTick 1023 s
  match s.sync.state with
  | .listen => s1.modSync (Sync.listenReport leads)
  | .acquire | .learn | .mute => slewReport leads s1
  | .founding | .locked | .leaving => driveReport leads s1
  | .configLoad | .configWait | .configFault => s

/-- A marker report, if one is made (R5). -/
def reportEvent (line : OnLine LineTicks) (s : State) : State :=
  if reportDue s then reportMade (reportLeads line s) s else s

/-- The report brings the edge-miss count to 3 in ACQUIRE, LEARN or MUTE (R22). -/
def missesThird (line : OnLine LineTicks) (s : State) : Bool :=
  reportDue s && (s.sync.state == .acquire || s.sync.state == .learn || s.sync.state == .mute)
    && (trackingEdge (reportLeads line s)).isNone && decide (3 ≤ s.sync.edgeMiss + 1)

/-- The report brings the foreign-earlier count to 2 (R28). -/
def yields (line : OnLine LineTicks) (s : State) : Bool :=
  reportDue s && s.sync.state.drives && leadsEarlier (reportLeads line s).head? && decide (2 ≤ s.sync.foreignEarlier + 1)

/-- The report brings the edge-miss count to 4 while driving (R30). -/
def faultsLine (line : OnLine LineTicks) (s : State) : Bool :=
  reportDue s && s.sync.state.drives && (reportLeads line s).isEmpty && decide (4 ≤ s.sync.edgeMiss + 1)

/-! ### The end of a data slot -/

/-- The carrier count of slot `k` as received, in the states that keep it; a slot the station drove is counted like any
other (R12, R13). -/
def countCarrier (k : Nat) (cl : SlotClass) (s : State) : State :=
  if s.sync.state.takesCells && cl != .silent then
    s.modAlloc (fun a => { a with slots := a.slots.modify (k - 8) (fun x => { x with carrier := min (x.carrier + 1) 32 }) })
  else s

/-- The source whose word is driven in slot `k` and whose readback the class makes DAMAGED (R12). R12 and R121 give no
result for a driven slot received SILENT, which only a line failure brings about: DEDUCED from R11, which makes such a
cell a MISMATCH, it is DAMAGED (log entry 33). -/
def damagedSource (k : Nat) (cl : SlotClass) (s : State) : Option Nat :=
  match s.line.drive with
  | .data j n sample valid => if j = k ∧ cl ≠ .good sample valid then some n else none
  | _ => none

/-- The class of slot `k` to the sinks: a DAMAGED readback makes it DAMAGED, whatever was received (R12, R140). -/
def sinkClass (k : Nat) (cl : SlotClass) (s : State) : SlotClass :=
  if (damagedSource k cl s).isSome then .damaged else cl

/-- The readback of slot `k` (R12, R121). -/
def slotReadback (k : Nat) (cl : SlotClass) (s : State) : State :=
  match damagedSource k cl s with
  | some n => damagedReadback n s
  | none => s

/-- The last tick of data slot `k`; an advance takes ticks from the end of slot 63 or adds them there (R1, R16). -/
def slotLastTick (k : Nat) (s : State) : Nat := if k = 63 then (2047 - s.sync.advance).toNat else 32 * k + 31

/-- The end of data slot `k` as classified: carrier, readback, sinks in ascending order (R9, R10, R12, R13, R140). The
rules order neither the SINK notices of several sinks whose captures end in one slot nor the SOURCE COLLIDED of its
readback against them: DESIGN CHOICE, the readback's comes first, then the sinks' ascending (log entry 42). -/
def slotClassified (k : Nat) (cl : SlotClass) (s : State) : State :=
  let s1 := slotReadback k cl (countCarrier k cl (atTick (slotLastTick k s) s))
  forEach s.sinks.length (captureSlot k (markOf (sinkClass k cl s))) (s1.modLine (fun l => { l with drive := .nothing }))

/-- The end of a data slot while the frame timer runs (R1, R9). -/
def slotEndEvent (k : Nat) (line : OnLine SlotWindow) (s : State) : State :=
  if s.sync.state.timerRuns && isDataSlot k then slotClassified k (slotClass k line s) s else s

/-- The received slot brings some source's collision tally to 16 (R121). -/
def forcesRelease (k : Nat) (line : OnLine SlotWindow) (s : State) : Bool :=
  s.sync.state.timerRuns && isDataSlot k && (match (damagedSource k (slotClass k line s) s).bind (s.sources[·]?) with
    | some c => c.state == .owned && !c.collidedNow && decide (16 ≤ c.tally + 1)
    | none => false)

/-- The received slot completes, at some FILLING or RUNNING sink, an all-silent capture that is its 64th in a row
(R143). -/
def starves (k : Nat) (line : OnLine SlotWindow) (s : State) : Bool :=
  s.sync.state.timerRuns && isDataSlot k && s.sinks.any (fun c => match c.run with
    | some r =>
      (c.state == .filling || c.state == .running) && inRun r.first r.count k && decide (64 ≤ c.silentRun + 1)
        && (match extendCapture (k - r.first) (markOf (sinkClass k (slotClass k line s) s)) c.capture with
          | some ms => ms.length == r.count && allSilent ms
          | none => false)
    | none => false)

end Sys2Proof.Machine
end

