-- ==== Sys2Proof/Machine/Image.lean ====
section
/-! DEFINITION. The configuration image: its layout (R191) and its validation (R180). -/

namespace Sys2Proof.Machine

/-- Byte `i` of an image as a number. -/
def imageByte (bytes : List Byte) (i : Nat) : Nat := (bytes.getD i 0).toNat

/-- Bytes `i` and `i + 1`, high byte first. -/
def imageWord (bytes : List Byte) (i : Nat) : Nat := imageByte bytes i * 256 + imageByte bytes (i + 1)

/-- Whether a length byte lies in 26 to 160 (R179, R180). -/
def lengthInRange (length : Nat) : Bool := decide (26 ≤ length) && decide (length ≤ 160)

/-- The source count byte (R191). -/
def imageSources (bytes : List Byte) : Nat := imageByte bytes 17

/-- The sink count byte (R191). -/
def imageSinks (bytes : List Byte) : Nat := imageByte bytes 18

/-- The length the source and sink counts imply (R191). -/
def impliedLength (bytes : List Byte) : Nat := 26 + 8 * (imageSources bytes + imageSinks bytes)

/-- The bytes of an image as bits, most significant first (R188). -/
def byteBits : List Byte → List Bool
  | [] => []
  | b :: rest => bitsOf 8 b.toNat ++ byteBits rest

/-- The CRC-16 over every byte before the check (R191). -/
def imageCrc (bytes : List Byte) : BitVec 16 := crc16 (byteBits (bytes.take (bytes.length - 2)))

/-- The check an image carries: its last two bytes, high byte first (R191). -/
def imageCheck (bytes : List Byte) : Nat := imageWord bytes (bytes.length - 2)

/-- A port's direction and clocking codes (R191). -/
def portCodes (bytes : List Byte) (n : Nat) : Nat × Nat := (imageByte bytes (9 + 2 * n), imageByte bytes (10 + 2 * n))

/-- The direction a code names, IN for any code but 1; test 4 has refused the others. -/
def directionOf (code : Nat) : Direction := if code = 1 then .output else .input

/-- The clocking a code names. -/
def clockingOf (code : Nat) : Clocking := if code = 1 then .bridge else .follow

/-- Source record `n` (R191). -/
def sourceRecord (bytes : List Byte) (n : Nat) : SourceConfig :=
  let at8 := 24 + 8 * n
  { tag := imageWord bytes at8, channels := imageByte bytes (at8 + 2), priority := imageByte bytes (at8 + 3) % 4,
    port := imageByte bytes (at8 + 4), firstLane := imageByte bytes (at8 + 5) }

/-- Where sink record `n` begins: after the source records (R191). -/
def sinkOffset (bytes : List Byte) (n : Nat) : Nat := 24 + 8 * (imageSources bytes + n)

/-- Sink record `n` (R191). -/
def sinkRecord (bytes : List Byte) (n : Nat) : SinkConfig :=
  let at8 := sinkOffset bytes n
  { tag := imageWord bytes at8, channels := imageByte bytes (at8 + 2), port := imageByte bytes (at8 + 3),
    firstLane := imageByte bytes (at8 + 4), target := imageByte bytes (at8 + 5),
    gap := if imageByte bytes (at8 + 6) = 1 then .zero else .hold }

/-- The ids of the manager set; those beyond the count are ignored (R191). -/
def imageManagers (bytes : List Byte) : List Nat :=
  (List.range (min (imageByte bytes 4) 4)).map (fun i => imageByte bytes (5 + i))

/-- The values an image holds (R191). -/
def readImage (bytes : List Byte) : Image :=
  { stationId := imageByte bytes 2
    founding := imageByte bytes 3 % 2 == 1
    managers := imageManagers bytes
    ports := (List.range 4).map (fun n => ⟨directionOf (portCodes bytes n).1, clockingOf (portCodes bytes n).2⟩)
    sources := (List.range (imageSources bytes)).map (sourceRecord bytes)
    sinks := (List.range (imageSinks bytes)).map (sinkRecord bytes) }

/-- Whether a list holds some number twice. -/
def hasRepeat : List Nat → Bool
  | [] => false
  | x :: rest => rest.contains x || hasRepeat rest

/-- Whether two lane ranges of one port share a lane. -/
def lanesShared (port1 first1 count1 port2 first2 count2 : Nat) : Bool :=
  port1 == port2 && decide (first1 < first2 + count2) && decide (first2 < first1 + count1)

/-- Whether two of a list's lane ranges (port, first lane, count) share a lane. -/
def laneOverlapIn : List (Nat × Nat × Nat) → Bool
  | [] => false
  | (p, f, c) :: rest => rest.any (fun r => lanesShared p f c r.1 r.2.1 r.2.2) || laneOverlapIn rest

/-- Test 4 of R180. -/
def countRangeFails (bytes : List Byte) (im : Image) : Bool :=
  decide (8 < imageSources bytes) || decide (8 < imageSinks bytes) || decide (4 < imageByte bytes 4)
    || im.sources.any (fun r => r.channels == 0 || decide (8 < r.channels) || decide (4095 < r.tag)
        || decide (7 < r.firstLane) || decide (3 < r.port))
    || im.sinks.any (fun r => r.channels == 0 || decide (8 < r.channels) || decide (4095 < r.tag)
        || decide (r.target < 2) || decide (12 < r.target) || decide (7 < r.firstLane) || decide (3 < r.port))
    || (List.range (imageSinks bytes)).any (fun n => decide (1 < imageByte bytes (sinkOffset bytes n + 6)))
    || (List.range 4).any (fun n => decide (1 < (portCodes bytes n).1) || decide (1 < (portCodes bytes n).2))

/-- The direction of port `n` of an image. -/
def imageDirection (im : Image) (n : Nat) : Option Direction := im.ports[n]?.map PortConfig.direction

/-- Validation: the first test that fails, in the order of R180, gives the reason. -/
def validateImage (bytes : List Byte) : Option FaultReason :=
  let length := imageByte bytes 1
  let im := readImage bytes
  if !lengthInRange length || length != impliedLength bytes then some .badLength
  else if (imageCrc bytes).toNat != imageCheck bytes then some .badCheck
  else if decide (31 < im.stationId) || im.managers.any (fun m => decide (31 < m)) then some .badId
  else if countRangeFails bytes im then some .countRange
  else if hasRepeat (im.sources.map SourceConfig.tag) || im.sources.any (fun r => r.tag == 0)
      || im.sinks.any (fun r => r.tag == 0) then some .dupTag
  else if im.sources.any (fun r => imageDirection im r.port == some .output)
      || im.sinks.any (fun r => imageDirection im r.port == some .input) then some .portConflict
  else if im.sources.any (fun r => decide (8 < r.firstLane + r.channels))
      || im.sinks.any (fun r => decide (8 < r.firstLane + r.channels)) then some .laneOverflow
  else if laneOverlapIn (im.sources.map (fun r => (r.port, r.firstLane, r.channels)))
      || laneOverlapIn (im.sinks.map (fun r => (r.port, r.firstLane, r.channels))) then some .laneOverlap
  else none

/-- The bytes a LOAD_IMAGE takes from those shifted in, if its last byte is in: two bytes where the length byte is out
of range, else as many as the length byte names (R191). -/
def takenImage (bytes : List Byte) : Option (List Byte) :=
  if bytes.length < 2 then none
  else
    let length := imageByte bytes 1
    if lengthInRange length then (if length ≤ bytes.length then some (bytes.take length) else none)
    else some (bytes.take 2)

end Sys2Proof.Machine
end

