-- ==== Sys2Proof/Machine/StartUp.lean ====
section
/-! DEFINITION. Cold reset, the boot read, acceptance and rejection of an image (R178 to R181). -/

namespace Sys2Proof.Machine

/-- The outcome of every command: a next state. While RESET_N is low the station holds its cold-reset values and takes
no command (R178, log entry 3). -/
def underReset (f : State → State) (s : State) : Host.Outcome State Fault Refusal :=
  .next (if s.resetLow then s else f s)

/-! ### Acceptance and rejection -/

/-- Record a failed image: CONFIG_FAULT, status FAULTED, reason and origin, a FAULT notice; the image copy stands
(R181). -/
def rejectImage (reason : FaultReason) (origin : Origin) (s : State) : State :=
  notify (.fault (.configFault reason origin))
    ((s.modSync (fun y => { y with state := .configFault })).modLoader
      (fun l => { l with status := .faulted, reason := some reason, origin := some origin, boot := .released }))

/-- The peer entry of the own id at acceptance (R61, R181). -/
def Peer.toSelf (p : Peer) : Peer := { p with presence := .self }

/-- A configured source with its cold-reset values (R135, R181). -/
def Source.cold (cfg : SourceConfig) : Source :=
  { cfg := cfg, state := .idle, run := none, queuedItem := .nothing, backoff := 0, refresh := 0, tally := 0,
    slipGuard := 0, lastSent := none, muted := false, queue := [], counters := ⟨0, 0, 0, 0, 0⟩, collidedNow := false }

/-- A configured sink with its cold-reset values (R154, R181). -/
def Sink.cold (cfg : SinkConfig) : Sink :=
  { cfg := cfg, state := .unbound, run := none, capture := none, muted := false, queue := [],
    lastGood := zeroFrame cfg.channels, lastOutput := none, silentRun := 0, slipGuard := 0,
    counters := ⟨0, 0, 0, 0⟩ }

/-- The loader at acceptance (R181). -/
def Loader.accept (origin : Origin) (im : Image) (l : Loader) : Loader :=
  { l with status := .accepted, reason := none, origin := some origin, image := some im, boot := .released }

/-- The blocks that take their configuration at acceptance (R155, R181). -/
def configure (origin : Origin) (im : Image) (s : State) : State :=
  ((((s.modLoader (Loader.accept origin im)).modPeer im.stationId Peer.toSelf).modPorts
    (fun l => List.zipWith Port.accept im.ports l)).modSources
    (fun _ => im.sources.map Source.cold)).modSinks (fun _ => im.sinks.map Sink.cold)

/-- The first local frame start, at acceptance: FOLLOW ports take their first strobe; nothing is stepped, counted or
watched (R19, R156, R157, log entry 10). -/
def firstFrameStart (s : State) : State :=
  forEach 4 (fun p t => if t.clocking p = some .follow then followFrame false p [] t else t) s

/-- Acceptance: the image is copied in, LISTEN is entered at frame index 0 of superframe 0, the frame timer starts (R19,
R181). -/
def acceptImage (origin : Origin) (im : Image) (s : State) : State :=
  firstFrameStart ((configure origin im s).modSync
    (fun y => { y.toListen with tick := 0, frameIndex := 0, superframe := 0 }))

/-- The reason an image is refused for, none when it is accepted, and the state after (R180, R181). -/
def judgeImage (origin : Origin) (bytes : List Byte) (s : State) : Option FaultReason × State :=
  match validateImage bytes with
  | some reason => (some reason, rejectImage reason origin s)
  | none => (none, acceptImage origin (readImage bytes) s)

/-! ### Cold reset -/

/-- Every block at its cold-reset values while RESET_N is low; the commands waiting are the sender's (R178). -/
def coldReset (s : State) : State :=
  { State.reset with
    pending := s.pending, resetLow := true
    loader := { State.reset.loader with boot := .released } }

/-- RESET_N rises: CONFIG_LOAD, and the boot read begins (R178, R179). -/
def releaseReset (s : State) : State :=
  if s.resetLow then { s with resetLow := false, loader := { s.loader with boot := .startByte } } else s

/-! ### The boot read (R179) -/

/-- The start value of an image (R191). -/
def startValue : Byte := 0x5C#8

/-- The start byte of the boot read: any other value means that no memory answered (R179, R191). -/
def bootStart (b : Byte) (s : State) : State :=
  match s.loader.boot with
  | .startByte =>
    if b = startValue then s.modLoader (fun l => { l with boot := .lengthByte })
    else
      (s.modSync (fun y => { y with state := .configWait })).modLoader
        (fun l => { l with status := .waiting, boot := .released })
  | _ => s

/-- The length byte of the boot read (R179). -/
def bootLength (b : Byte) (s : State) : State :=
  match s.loader.boot with
  | .lengthByte =>
    if lengthInRange b.toNat then s.modLoader (fun l => { l with boot := .remaining b.toNat })
    else rejectImage .badLength .boot s
  | _ => s

/-- The image of a boot read: start byte, length byte, and the bytes after it (R179, R191). -/
def bootImage (length : Nat) (rest : List Byte) : List Byte :=
  startValue :: BitVec.ofNat 8 length :: rest.take (length - 2)

/-- The last byte of the boot read: the image is validated with origin BOOT (R179, log entry 22). -/
def bootComplete (rest : List Byte) (s : State) : State :=
  match s.loader.boot with
  | .remaining length =>
    if length ≤ rest.length + 2 then (judgeImage .boot (bootImage length rest) s).2 else s
  | _ => s

/-! ### The commands -/

/-- COLD_RESET (R178). -/
def execColdReset (s : State) : Host.Outcome State Fault Refusal := .next (coldReset s)

/-- RESET_RELEASE (R178). -/
def execResetRelease (s : State) : Host.Outcome State Fault Refusal := .next (releaseReset s)

/-- BOOT_START_BYTE (R179). -/
def execBootStartByte (b : Byte) (s : State) : Host.Outcome State Fault Refusal := underReset (bootStart b) s

/-- BOOT_LENGTH_BYTE (R179). -/
def execBootLengthByte (b : Byte) (s : State) : Host.Outcome State Fault Refusal := underReset (bootLength b) s

/-- BOOT_READ_COMPLETE (R179). -/
def execBootReadComplete (rest : List Byte) (s : State) : Host.Outcome State Fault Refusal :=
  underReset (bootComplete rest) s

end Sys2Proof.Machine
end

