-- ==== Sys2Proof/Machine/Lmp.lean ====
section
/-! DEFINITION. The management port: LMP requests, their responses, the end of a transaction (chapter 11, R192). -/

namespace Sys2Proof.Machine

/-! ### Responses (R182, R192) -/

/-- The response frame of the request just taken, and what the completion of its transaction does; an earlier
transaction still standing is cut short (R182, log entry 16). -/
def respondThen (status : LmpStatus) (body : List Byte) (onComplete : OnComplete) (s : State) : State :=
  s.modMgmt (fun m => { m with lmp := some ⟨responseFrame status body, onComplete⟩ })

/-- A response whose completion does nothing further. -/
def respond (status : LmpStatus) (body : List Byte) (s : State) : State := respondThen status body .nothing s

/-- The completion of a transaction: the removal of a notice or the freeing of a relay entry (R175, R182, R185). -/
def completeLmp (c : OnComplete) (s : State) : State :=
  match c with
  | .nothing => s
  | .removeNotice => s.modMgmt removeNotice
  | .freeRelay h => setRelay h none s

/-- LMP_CS_N rises after `shifted` response bytes went out whole (R182). -/
def endTransaction (shifted : Nat) (s : State) : State :=
  match s.mgmt.lmp with
  | some t =>
    let s1 := s.modMgmt (fun m => { m with lmp := none })
    if t.response.length ≤ shifted then completeLmp t.onComplete s1 else s1
  | none => s

/-! ### Bodies (R183, R192) -/

/-- The station id, absent before acceptance (R178, R182). -/
def ownId (s : State) : Option Nat := s.loader.image.map Image.stationId

/-- The IDENT body: part code, revision, station id, sync state, configuration status. -/
def identBody (s : State) : List Byte :=
  byte2 Config.partCode ++ (byte1 Config.revision ++ (byte1? (ownId s) ++
    (byte1 s.sync.state.code ++ byte1 s.loader.status.code)))

/-- Manager id `i` of the image, absent beyond the manager count and before acceptance. -/
def managerId (i : Nat) (s : State) : Option Nat := s.loader.image.bind (fun im => im.managers[i]?)

/-- The station group: position, configuration, lines, standing conditions, notice queue. -/
def stationBody (s : State) : List Byte :=
  byte1 s.sync.state.code ++ (byte1 s.sync.frameIndex ++ (byte2 s.sync.superframe.toNat ++
  (byte1 s.loader.status.code ++ (byte1? (s.loader.reason.map FaultReason.code) ++
  (byte1? (s.loader.origin.map Origin.code) ++ (byte1? (ownId s) ++
  (byte1? (s.loader.image.map (fun im => flagVal im.founding)) ++
  (byte1? (s.loader.image.map (fun im => im.managers.length)) ++
  (byte1? (managerId 0 s) ++ (byte1? (managerId 1 s) ++ (byte1? (managerId 2 s) ++ (byte1? (managerId 3 s) ++
  (flagsByte [s.lockHigh, s.faultHigh, s.attnHigh] ++
  (flagsByte [s.configFaultStands, s.muteStands, s.clashStands, s.clockLostStands] ++
  (byte1 s.mgmt.notices.length ++ byte2 s.mgmt.lost)))))))))))))))

/-- The summary group: the SUMMARY payload (R166, R190). R183 has every group but station read its cold-reset values in the
configuration states, and a group's contents as they stand: DEDUCED, the sync state field reads CONFIG_WAIT and
CONFIG_FAULT there, since R183 says that READ returns what stands (log entry 38). -/
def summaryBody (s : State) : List Byte := payloadBytes (summaryPayload s)

/-- The sync group: the five counters and the leading flag (R18). -/
def syncBody (y : Sync) : List Byte :=
  byte2 y.counters.disagreeing ++ (byte2 y.counters.resyncs ++ (byte2 y.counters.yields ++
  (byte2 y.counters.lineFaults ++ (byte2 y.counters.foreignLater ++ byte1 (flagVal y.leading)))))

/-- The control group: the counters of R47 and R59 and the queue level. -/
def controlBody (rx : CellRx) (tx : CellTx) : List Byte :=
  byte2 rx.damagedCells ++ (byte2 rx.malformedItems ++ (byte2 rx.ownIdCells ++ (byte2 tx.fullQueueLosses ++
  (byte2 tx.lostAnswers ++ (byte2 tx.cellsSent ++ byte1 tx.queue.length)))))

/-- A peer entry (R70). -/
def peerBody (p : Peer) : List Byte :=
  byte1 p.presence.code ++ (byte1 p.missed ++ (byteSf? p.lastHeard ++ byte2 p.damagedCells))

/-- The allocator group: the counters of R99 and R112. -/
def allocatorBody (k : AllocCounters) : List Byte :=
  byte2 k.claimsIgnored ++ (byte2 k.claimsOverridden ++ (byte2 k.overlapsResolved ++ (byte2 k.objectionsPosted ++
  (byte2 k.lapses ++ (byte2 k.strayEntries ++ (byte2 k.tagItemsIgnored ++ (byte2 k.tagEntriesRemoved ++
  byte2 k.localClashes)))))))

/-- A slot map entry (R100). -/
def slotBody (u : SlotUse) : List Byte :=
  byte1 u.code ++ (byte1? u.holder ++ (byte2? u.tag ++ (byte1? u.priority ++ (byteSf? u.maturity ++ byte1? u.lease))))

/-- A source (R133). -/
def sourceBody (c : Source) : List Byte :=
  byte2 c.cfg.tag ++ (byte1 c.cfg.channels ++ (byte1 c.cfg.priority ++ (byte1 c.cfg.port ++ (byte1 c.cfg.firstLane ++
  (byte1 c.state.code ++ (byte1? (c.run.map Run.first) ++ (byte1? (c.run.map Run.count) ++ (byte1 (flagVal c.muted) ++
  (byte2 c.counters.underruns ++ (byte2 c.counters.slips ++ (byte2 c.counters.overflows ++
  (byte2 c.counters.collisions ++ byte2 c.counters.defeats))))))))))))

/-- A sink (R152). -/
def sinkBody (c : Sink) : List Byte :=
  byte1 c.state.code ++ (byte1? (c.run.map Run.first) ++ (byte1? (c.run.map Run.count) ++ (byte1 c.queue.length ++
  (byte1 (flagVal c.muted) ++ (byte1 c.cfg.target ++ (byte1 c.cfg.gap.code ++ (byte2 c.counters.gaps ++
  (byte2 c.counters.slips ++ (byte2 c.counters.overflows ++ byte2 c.counters.underflows)))))))))

/-- A port (R163). Fields a port has not are absent (log entry 15). -/
def portBody (q : Port) : List Byte :=
  byte1? (q.cfg.map (fun c => c.direction.code)) ++ (byte1? (q.cfg.map (fun c => c.clocking.code)) ++
  (byte1? (q.clock.map ClockStatus.code) ++ (byte1 q.watch ++ (byte2 q.shortFrames ++ byte2 q.clockLosses))))

/-- The request group: the counters of R177 in 2 bytes each, the relay table level, the request-number counter. R192 gives
counters 2 bytes and every other field 1, and R164 keeps the request-number counter apart from the unit's counters: DEDUCED,
it takes 1 byte, as a request number does (log entry 46). -/
def requestBody (r : ReqUnit) (level : Nat) : List Byte :=
  byte2 r.counters.probesAnswered ++ (byte2 r.counters.commandsExecuted ++ (byte2 r.counters.commandsRefused ++
  (byte2 r.counters.unanswered ++ (byte2 r.counters.lateAnswers ++ (byte2 r.counters.relayTimeouts ++
  (byte1 level ++ byte1 r.nextNo))))))

/-- The kind byte of a relay: PROBE 5, COMMAND 6. -/
def Code.kindCode : Code → Nat
  | .subject _ => 5
  | .action _ => 6

/-- The result fields of a RELAY_RESULT body: result, remote status, answer's code, payload; FFh, FFh and 0 where the
result is not ANSWERED. -/
def resultBytes : RelayOutcome → List Byte
  | .answered status code payload =>
    byte1 1 ++ (byte1 status.code ++ (byte1 code.code ++ payloadBytes payload))
  | r => byte1 r.code ++ ([0xFF, 0xFF] ++ payloadBytes 0)

/-- The RELAY_RESULT body of a DONE entry. -/
def relayBody (r : Relay) (result : RelayOutcome) : List Byte :=
  byte1 r.reqNo ++ (byte1 r.target ++ (byte1 r.code.kindCode ++ (byte1 r.code.code ++ resultBytes result)))

/-! ### Requests -/

/-- A READ of a group with index: DONE with its body, or NO_SUCH (R183). -/
def readGroup (body : Option (List Byte)) (s : State) : State :=
  match body with
  | some b => respond .done b s
  | none => respond .noSuch [] s

/-- The response status of an action's outcome (R184). -/
def lmpStatusOf : AnswerStatus → LmpStatus
  | .done => .done
  | .notNow => .notNow
  | .noSuch => .noSuch
  | .refused => .badRequest

/-- An ACT: an index above 63 is BAD_REQUEST, otherwise the action is executed and its status returned (R182, R184). -/
def act (a : Action) (index : Byte) (s : State) : State :=
  if 63 < index.toNat then respond .badRequest [] s
  else respond (lmpStatusOf (doAction a index.toNat s).1) [] (doAction a index.toNat s).2

/-- An LMP ACT by its action code (R182, R184). -/
def actRequest (code index : Byte) (s : State) : State :=
  match actionOf code.toNat with
  | some a => act a index s
  | none => respond .badRequest [] s

/-- What meets the start of a data slot: an LMP ACT, or nothing (R132, log entry 40). -/
def meetingAct : Option (Byte × Byte) → State → State
  | some (code, index), s => actRequest code index s
  | none, s => s

/-- Why a relay is refused: the first test of R171 that fails. -/
def relayRefusal (target : Nat) (s : State) : Option LmpStatus :=
  if s.sync.state ≠ .locked then some .notNow
  else if 31 < target ∨ target = s.id then some .badTarget
  else if (s.peer target).presence ≠ .present then some .noPeer
  else if (freeHandle s).isNone then some .busy
  else none

/-- A relay request whose code has been read (R170, R171). -/
def askRelay (target : Nat) (code : Code) (index : Nat) (s : State) : State :=
  match relayRefusal target s, freeHandle s with
  | none, some h =>
    respond .accepted (byte1 h ++ byte1 (acceptRelay h target code index s).1) (acceptRelay h target code index s).2
  | some st, _ => respond st [] s
  | none, none => respond .busy [] s

/-- A relay request: a code that names no subject, or no action, or an index above 63, is BAD_REQUEST (R182). -/
def relayRequest (target : Byte) (code : Option Code) (index : Byte) (s : State) : State :=
  match code with
  | some c => if 63 < index.toNat then respond .badRequest [] s else askRelay target.toNat c index.toNat s
  | none => respond .badRequest [] s

/-- RELAY_RESULT (R175, R192). -/
def relayResult (handle : Nat) (s : State) : State :=
  if 3 < handle then respond .badRequest [] s
  else match s.relay handle with
    | some r => match r.phase with
      | .done _ result => respondThen .done (relayBody r result) (.freeRelay handle) s
      | open' => respond .pending (byte1 open'.stateCode) s
    | none => respond .empty [] s

/-- TAKE_NOTICE (R185). -/
def takeHead (s : State) : State :=
  match s.mgmt.notices with
  | n :: _ => respondThen .done n.bytes .removeNotice s
  | [] => respond .empty [] s

/-- A LOAD_IMAGE whose last byte is in (R181, R191). -/
def judgeLoad (image : List Byte) (s : State) : State :=
  if s.sync.state = .configWait ∨ s.sync.state = .configFault then
    match judgeImage .lmp image s with
    | (some reason, s1) => respond .rejected (byte1 reason.code) s1
    | (none, s1) => respond .accepted [] s1
  else respond .notNow [] s

/-- LOAD_IMAGE: taken once the byte its length byte names is in (R182, R191, log entry 23). -/
def loadRequest (bytes : List Byte) (s : State) : State :=
  match takenImage bytes with
  | some image => judgeLoad image s
  | none => s

/-! ### The coding of requests (R192) -/

/-- The READ of a group code (R183, R192). -/
def readOf (group : Nat) (index : Byte) : Option Instr :=
  match group with
  | 0 => some (.readStation index) | 1 => some (.readSummary index) | 2 => some (.readSync index)
  | 3 => some (.readControl index) | 4 => some (.readPeer index) | 5 => some (.readAllocator index)
  | 6 => some (.readSlot index) | 7 => some (.readSource index) | 8 => some (.readSink index)
  | 9 => some (.readPort index) | 10 => some (.readRequest index)
  | _ => none

/-- The ACT of an action (R184, R192). -/
def actOf (a : Action) (index : Byte) : Instr :=
  match a with
  | .muteSource => .actMuteSource index | .unmuteSource => .actUnmuteSource index
  | .reseekSource => .actReseekSource index | .muteSink => .actMuteSink index | .unmuteSink => .actUnmuteSink index
  | .clearCounters => .actClearCounters index | .restart => .actRestart index

/-- The command a request frame codes, kind byte first: none while bytes of it are still to come. Bytes beyond those its
kind takes are shifted in with the response and are not looked at (R182, R192). -/
def requestOf (frame : List Byte) : Option Instr :=
  if frameIsBad frame then some (.lmpBadRequest frame)
  else match frame with
    | [] => none
    | kind :: args => match kind.toNat, args with
      | 0x01, _ => some .lmpIdent
      | 0x02, group :: index :: _ => readOf group.toNat index
      | 0x03, code :: index :: _ => (actionOf code.toNat).map (fun a => actOf a index)
      | 0x04, target :: code :: index :: _ => some (.relayProbe target code index)
      | 0x05, target :: code :: index :: _ => some (.relayCommand target code index)
      | 0x06, handle :: _ => some (.relayResult handle)
      | 0x07, _ => some .takeNotice
      | 0x08, image => (takenImage image).map Instr.loadImage
      | _, _ => none

/-! ### The commands -/

/-- LMP_IDENT (R182). -/
def execLmpIdent (s : State) : Host.Outcome State Fault Refusal := underReset (fun t => respond .done (identBody t) t) s

/-- READ_STATION (R183). -/
def execReadStation (_index : Byte) (s : State) : Host.Outcome State Fault Refusal :=
  underReset (fun t => readGroup (some (stationBody t)) t) s

/-- READ_SUMMARY (R183). -/
def execReadSummary (_index : Byte) (s : State) : Host.Outcome State Fault Refusal :=
  underReset (fun t => readGroup (some (summaryBody t)) t) s

/-- READ_SYNC (R183). -/
def execReadSync (_index : Byte) (s : State) : Host.Outcome State Fault Refusal :=
  underReset (fun t => readGroup (some (syncBody t.sync)) t) s

/-- READ_CONTROL (R183). -/
def execReadControl (_index : Byte) (s : State) : Host.Outcome State Fault Refusal :=
  underReset (fun t => readGroup (some (controlBody t.rx t.tx)) t) s

/-- READ_PEER, index 0 to 31 (R183). -/
def execReadPeer (index : Byte) (s : State) : Host.Outcome State Fault Refusal :=
  underReset (fun t => readGroup (if index.toNat < 32 then some (peerBody (t.peer index.toNat)) else none) t) s

/-- READ_ALLOCATOR (R183). -/
def execReadAllocator (_index : Byte) (s : State) : Host.Outcome State Fault Refusal :=
  underReset (fun t => readGroup (some (allocatorBody t.alloc.counters)) t) s

/-- READ_SLOT, index 8 to 63 (R183). -/
def execReadSlot (index : Byte) (s : State) : Host.Outcome State Fault Refusal :=
  underReset (fun t => readGroup
    (if 8 ≤ index.toNat ∧ index.toNat ≤ 63 then some (slotBody (t.slot index.toNat).use) else none) t) s

/-- READ_SOURCE, a configured source (R183). -/
def execReadSource (index : Byte) (s : State) : Host.Outcome State Fault Refusal :=
  underReset (fun t => readGroup ((t.sources[index.toNat]?).map sourceBody) t) s

/-- READ_SINK, a configured sink (R183). -/
def execReadSink (index : Byte) (s : State) : Host.Outcome State Fault Refusal :=
  underReset (fun t => readGroup ((t.sinks[index.toNat]?).map sinkBody) t) s

/-- READ_PORT, index 0 to 3 (R183). -/
def execReadPort (index : Byte) (s : State) : Host.Outcome State Fault Refusal :=
  underReset (fun t => readGroup (if index.toNat < 4 then some (portBody (t.ports.getD index.toNat .cold)) else none) t) s

/-- READ_REQUEST (R183). -/
def execReadRequest (_index : Byte) (s : State) : Host.Outcome State Fault Refusal :=
  underReset (fun t => readGroup (some (requestBody t.req t.relayLevel)) t) s

/-- ACT_MUTE_SOURCE (R132, R184). -/
def execActMuteSource (index : Byte) (s : State) : Host.Outcome State Fault Refusal :=
  underReset (act .muteSource index) s

/-- ACT_UNMUTE_SOURCE (R132, R184). -/
def execActUnmuteSource (index : Byte) (s : State) : Host.Outcome State Fault Refusal :=
  underReset (act .unmuteSource index) s

/-- ACT_RESEEK_SOURCE (R132, R184). -/
def execActReseekSource (index : Byte) (s : State) : Host.Outcome State Fault Refusal :=
  underReset (act .reseekSource index) s

/-- ACT_MUTE_SINK (R150, R184). -/
def execActMuteSink (index : Byte) (s : State) : Host.Outcome State Fault Refusal := underReset (act .muteSink index) s

/-- ACT_UNMUTE_SINK (R150, R184). -/
def execActUnmuteSink (index : Byte) (s : State) : Host.Outcome State Fault Refusal :=
  underReset (act .unmuteSink index) s

/-- ACT_CLEAR_COUNTERS (R184). -/
def execActClearCounters (index : Byte) (s : State) : Host.Outcome State Fault Refusal :=
  underReset (act .clearCounters index) s

/-- ACT_RESTART (R36, R184). -/
def execActRestart (index : Byte) (s : State) : Host.Outcome State Fault Refusal := underReset (act .restart index) s

/-- RELAY_PROBE (R171). -/
def execRelayProbe (target code index : Byte) (s : State) : Host.Outcome State Fault Refusal :=
  underReset (relayRequest target ((subjectOf code.toNat).map Code.subject) index) s

/-- RELAY_COMMAND (R171). -/
def execRelayCommand (target code index : Byte) (s : State) : Host.Outcome State Fault Refusal :=
  underReset (relayRequest target ((actionOf code.toNat).map Code.action) index) s

/-- RELAY_RESULT (R175). -/
def execRelayResult (handle : Byte) (s : State) : Host.Outcome State Fault Refusal :=
  underReset (relayResult handle.toNat) s

/-- TAKE_NOTICE (R185). -/
def execTakeNotice (s : State) : Host.Outcome State Fault Refusal := underReset takeHead s

/-- LOAD_IMAGE (R181). -/
def execLoadImage (image : List Byte) (s : State) : Host.Outcome State Fault Refusal := underReset (loadRequest image) s

/-- LMP_BAD_REQUEST: a frame that is no bad request is no such command and has no effect (R182, log entry 5). -/
def execLmpBadRequest (frame : List Byte) (s : State) : Host.Outcome State Fault Refusal :=
  underReset (fun t => if frameIsBad frame then respond .badRequest [] t else t) s

/-- LMP_TRANSACTION_END (R182). -/
def execLmpTransactionEnd (shifted : Nat) (s : State) : Host.Outcome State Fault Refusal :=
  underReset (endTransaction shifted) s

end Sys2Proof.Machine
end

