-- ==== Sys2Proof/Machine/Events.lean ====
section
/-! DEFINITION. The events at the trunk, the frame timer and the ports. A row named for something that comes about inside
a frame start, a marker report, a received slot or a received cell is that event on the occasion it comes about; where it
does not come about the row names nothing that occurs and has no effect (log entry 1). -/

namespace Sys2Proof.Machine

/-- The event `f` on an occasion `due`; no effect otherwise (log entry 1). -/
def whenDue (due : State → Bool) (f : State → State) (s : State) : State := if due s then f s else s

/-! ### Frame starts -/

/-- FRAME_START (R1). -/
def execFrameStart (shifted : List (List Bool)) (s : State) : Host.Outcome State Fault Refusal :=
  underReset (frameStartEvent shifted) s

/-- LISTEN_LIMIT_EXPIRY (R21, R26). -/
def execListenLimitExpiry (shifted : List (List Bool)) (s : State) : Host.Outcome State Fault Refusal :=
  underReset (whenDue listenExpires (frameStartEvent shifted)) s

/-- ACQUIRE_TIMEOUT (R23). -/
def execAcquireTimeout (shifted : List (List Bool)) (s : State) : Host.Outcome State Fault Refusal :=
  underReset (whenDue acquireEnds (frameStartEvent shifted)) s

/-- LEARN_PERIOD_COMPLETE (R24). -/
def execLearnPeriodComplete (shifted : List (List Bool)) (s : State) : Host.Outcome State Fault Refusal :=
  underReset (whenDue learnCompletes (frameStartEvent shifted)) s

/-- ENTER_LOCKED (R24). -/
def execEnterLocked (shifted : List (List Bool)) (s : State) : Host.Outcome State Fault Refusal :=
  underReset (whenDue locksNow (frameStartEvent shifted)) s

/-- FOUNDING_TRIAL_END (R27). -/
def execFoundingTrialEnd (shifted : List (List Bool)) (s : State) : Host.Outcome State Fault Refusal :=
  underReset (whenDue trialEnds (frameStartEvent shifted)) s

/-- PEER_CLAIM_MATURITY (R93). -/
def execPeerClaimMaturity (tag : Nat) (shifted : List (List Bool)) (s : State) : Host.Outcome State Fault Refusal :=
  underReset (whenDue (peerMatures tag) (frameStartEvent shifted)) s

/-- OWN_CLAIM_MATURITY (R94). -/
def execOwnClaimMaturity (source : Nat) (shifted : List (List Bool)) (s : State) : Host.Outcome State Fault Refusal :=
  underReset (whenDue (ownMatures source) (frameStartEvent shifted)) s

/-- LEASE_LAPSE (R95). -/
def execLeaseLapse (tag : Nat) (shifted : List (List Bool)) (s : State) : Host.Outcome State Fault Refusal :=
  underReset (whenDue (leaseLapses tag) (frameStartEvent shifted)) s

/-- REFRESH_DUE (R97). -/
def execRefreshDue (source : Nat) (shifted : List (List Bool)) (s : State) : Host.Outcome State Fault Refusal :=
  underReset (whenDue (refreshDue source) (frameStartEvent shifted)) s

/-- BACKOFF_EXPIRY (R124). -/
def execBackoffExpiry (source : Nat) (shifted : List (List Bool)) (s : State) : Host.Outcome State Fault Refusal :=
  underReset (whenDue (backoffEnds source) (frameStartEvent shifted)) s

/-- RELAY_TIMEOUT (R173). -/
def execRelayTimeout (handle : Nat) (shifted : List (List Bool)) (s : State) : Host.Outcome State Fault Refusal :=
  underReset (whenDue (relayExpires handle) (frameStartEvent shifted)) s

/-- CLOCK_WATCH_EXPIRY (R161). -/
def execClockWatchExpiry (port : Nat) (shifted : List (List Bool)) (s : State) : Host.Outcome State Fault Refusal :=
  underReset (whenDue (watchExpires port) (frameStartEvent shifted)) s

/-! ### Marker reports -/

/-- MARKER_REPORT (R5). -/
def execMarkerReport (line : OnLine LineTicks) (s : State) : Host.Outcome State Fault Refusal := underReset (reportEvent line) s

/-- EDGE_MISS_LIMIT (R22). -/
def execEdgeMissLimit (line : OnLine LineTicks) (s : State) : Host.Outcome State Fault Refusal :=
  underReset (whenDue (missesThird line) (reportEvent line)) s

/-- YIELD (R28). -/
def execYield (line : OnLine LineTicks) (s : State) : Host.Outcome State Fault Refusal :=
  underReset (whenDue (yields line) (reportEvent line)) s

/-- LINE_FAULT (R30). -/
def execLineFault (line : OnLine LineTicks) (s : State) : Host.Outcome State Fault Refusal :=
  underReset (whenDue (faultsLine line) (reportEvent line)) s

/-! ### Data slots -/

/-- DATA_SLOT_START (R8, R120, R132). -/
def execDataSlotStart (start : SlotStart) (s : State) : Host.Outcome State Fault Refusal :=
  underReset (slotStartEvent start.slot (meetingAct start.act)) s

/-- DATA_SLOT_RECEIVED (R9). -/
def execDataSlotReceived (slot : Nat) (line : OnLine SlotWindow) (s : State) : Host.Outcome State Fault Refusal :=
  underReset (slotEndEvent slot line) s

/-- FORCED_RELEASE (R121). -/
def execForcedRelease (slot : Nat) (line : OnLine SlotWindow) (s : State) : Host.Outcome State Fault Refusal :=
  underReset (whenDue (forcesRelease slot line) (slotEndEvent slot line)) s

/-- SINK_STARVED (R143). -/
def execSinkStarved (slot : Nat) (line : OnLine SlotWindow) (s : State) : Host.Outcome State Fault Refusal :=
  underReset (whenDue (starves slot line) (slotEndEvent slot line)) s

/-! ### Cells -/

/-- The own cell of this frame, once it is driven, is read back (R10, R11). -/
def readbackEvent (line : OnLine CellWindow) (s : State) : State :=
  match s.line.ownCell with
  | some own => cellReadback own (receivedCell line s) (atTick 255 s)
  | none => s

/-- The readback is the second MISMATCH in a row (R31). -/
def mismatchesTwice (line : OnLine CellWindow) (s : State) : Bool :=
  countsMismatch s && decide (2 ≤ s.sync.mismatch + 1) && (match s.line.ownCell with
    | some own => !readbackMatches own (receivedCell line s)
    | none => false)

/-- The cell of a frame goes to the cell receiver unless it is the own frame of a driving station (R10, R41). -/
def cellEvent (line : OnLine CellWindow) (s : State) : State :=
  if s.sync.state.timerRuns && !drivesOwnCell s then receiveCell (receivedCell line s) s else s

/-- The received cell is a peer's fourth missed turn (R67). -/
def departs (line : OnLine CellWindow) (s : State) : Bool := !drivesOwnCell s && departureDue (receivedCell line s) s

/-- The built cell is sent (R6, R58). -/
def sentEvent (s : State) : State :=
  match s.tx.built with
  | some b => cellSent b s
  | none => s

/-- BUILD_OWN_CELL (R53). -/
def execBuildOwnCell (s : State) : Host.Outcome State Fault Refusal := underReset (whenDue drivesOwnCell buildCell) s

/-- OWN_CELL_SENT (R58). -/
def execOwnCellSent (s : State) : Host.Outcome State Fault Refusal := underReset sentEvent s

/-- OWN_CELL_READBACK (R11). -/
def execOwnCellReadback (line : OnLine CellWindow) (s : State) : Host.Outcome State Fault Refusal :=
  underReset (readbackEvent line) s

/-- DUPLICATE_ID_MISMATCH (R31, R34). -/
def execDuplicateIdMismatch (line : OnLine CellWindow) (s : State) : Host.Outcome State Fault Refusal :=
  underReset (whenDue (mismatchesTwice line) (readbackEvent line)) s

/-- CELL_RECEIVED (R41). -/
def execCellReceived (line : OnLine CellWindow) (s : State) : Host.Outcome State Fault Refusal :=
  underReset (cellEvent line) s

/-- PEER_DEPARTURE (R67). -/
def execPeerDeparture (line : OnLine CellWindow) (s : State) : Host.Outcome State Fault Refusal :=
  underReset (whenDue (departs line) (cellEvent line)) s

/-! ### Strobes -/

/-- A strobe is taken on a BRIDGE port from acceptance onward (R156). -/
def takesStrobe (port : Nat) (s : State) : Bool := s.sync.state.timerRuns && s.clocking port == some .bridge

/-- BRIDGE_STROBE (R158). -/
def execBridgeStrobe (port periods : Nat) (bits : List Bool) (s : State) : Host.Outcome State Fault Refusal :=
  underReset (whenDue (takesStrobe port) (strobe port periods bits)) s

end Sys2Proof.Machine
end

