-- ==== Sys2Proof/Machine/Dispatch.lean ====
section
/-! DEFINITION. The meaning of each command: one arm, one direct call. -/

namespace Sys2Proof.Machine

/-- What a command does to everything but the queue of waiting commands. -/
def exec (i : Instr) (s : State) : Host.Outcome State Fault Refusal :=
  match i with
  | .coldReset => Sys2Proof.Machine.execColdReset s
  | .resetRelease => Sys2Proof.Machine.execResetRelease s
  | .bootStartByte b => Sys2Proof.Machine.execBootStartByte b s
  | .bootLengthByte b => Sys2Proof.Machine.execBootLengthByte b s
  | .bootReadComplete rest => Sys2Proof.Machine.execBootReadComplete rest s
  | .lmpIdent => Sys2Proof.Machine.execLmpIdent s
  | .readStation index => Sys2Proof.Machine.execReadStation index s
  | .readSummary index => Sys2Proof.Machine.execReadSummary index s
  | .readSync index => Sys2Proof.Machine.execReadSync index s
  | .readControl index => Sys2Proof.Machine.execReadControl index s
  | .readPeer index => Sys2Proof.Machine.execReadPeer index s
  | .readAllocator index => Sys2Proof.Machine.execReadAllocator index s
  | .readSlot index => Sys2Proof.Machine.execReadSlot index s
  | .readSource index => Sys2Proof.Machine.execReadSource index s
  | .readSink index => Sys2Proof.Machine.execReadSink index s
  | .readPort index => Sys2Proof.Machine.execReadPort index s
  | .readRequest index => Sys2Proof.Machine.execReadRequest index s
  | .actMuteSource index => Sys2Proof.Machine.execActMuteSource index s
  | .actUnmuteSource index => Sys2Proof.Machine.execActUnmuteSource index s
  | .actReseekSource index => Sys2Proof.Machine.execActReseekSource index s
  | .actMuteSink index => Sys2Proof.Machine.execActMuteSink index s
  | .actUnmuteSink index => Sys2Proof.Machine.execActUnmuteSink index s
  | .actClearCounters index => Sys2Proof.Machine.execActClearCounters index s
  | .actRestart index => Sys2Proof.Machine.execActRestart index s
  | .relayProbe target code index => Sys2Proof.Machine.execRelayProbe target code index s
  | .relayCommand target code index => Sys2Proof.Machine.execRelayCommand target code index s
  | .relayResult handle => Sys2Proof.Machine.execRelayResult handle s
  | .takeNotice => Sys2Proof.Machine.execTakeNotice s
  | .loadImage image => Sys2Proof.Machine.execLoadImage image s
  | .lmpBadRequest frame => Sys2Proof.Machine.execLmpBadRequest frame s
  | .lmpTransactionEnd shifted => Sys2Proof.Machine.execLmpTransactionEnd shifted s
  | .frameStart shifted => Sys2Proof.Machine.execFrameStart shifted s
  | .listenLimitExpiry shifted => Sys2Proof.Machine.execListenLimitExpiry shifted s
  | .acquireTimeout shifted => Sys2Proof.Machine.execAcquireTimeout shifted s
  | .learnPeriodComplete shifted => Sys2Proof.Machine.execLearnPeriodComplete shifted s
  | .enterLocked shifted => Sys2Proof.Machine.execEnterLocked shifted s
  | .foundingTrialEnd shifted => Sys2Proof.Machine.execFoundingTrialEnd shifted s
  | .markerReport line => Sys2Proof.Machine.execMarkerReport line s
  | .edgeMissLimit line => Sys2Proof.Machine.execEdgeMissLimit line s
  | .yieldTrunk line => Sys2Proof.Machine.execYield line s
  | .lineFault line => Sys2Proof.Machine.execLineFault line s
  | .dataSlotStart start => Sys2Proof.Machine.execDataSlotStart start s
  | .dataSlotReceived slot line => Sys2Proof.Machine.execDataSlotReceived slot line s
  | .forcedRelease slot line => Sys2Proof.Machine.execForcedRelease slot line s
  | .sinkStarved slot line => Sys2Proof.Machine.execSinkStarved slot line s
  | .buildOwnCell => Sys2Proof.Machine.execBuildOwnCell s
  | .ownCellSent => Sys2Proof.Machine.execOwnCellSent s
  | .ownCellReadback line => Sys2Proof.Machine.execOwnCellReadback line s
  | .duplicateIdMismatch line => Sys2Proof.Machine.execDuplicateIdMismatch line s
  | .cellReceived line => Sys2Proof.Machine.execCellReceived line s
  | .peerDeparture line => Sys2Proof.Machine.execPeerDeparture line s
  | .peerClaimMaturity tag shifted => Sys2Proof.Machine.execPeerClaimMaturity tag shifted s
  | .ownClaimMaturity source shifted => Sys2Proof.Machine.execOwnClaimMaturity source shifted s
  | .leaseLapse tag shifted => Sys2Proof.Machine.execLeaseLapse tag shifted s
  | .refreshDue source shifted => Sys2Proof.Machine.execRefreshDue source shifted s
  | .backoffExpiry source shifted => Sys2Proof.Machine.execBackoffExpiry source shifted s
  | .relayTimeout handle shifted => Sys2Proof.Machine.execRelayTimeout handle shifted s
  | .bridgeStrobe port periods bits => Sys2Proof.Machine.execBridgeStrobe port periods bits s
  | .clockWatchExpiry port shifted => Sys2Proof.Machine.execClockWatchExpiry port shifted s

end Sys2Proof.Machine
end

