-- ==== Sys2Proof/Safety.lean ====
section
/-! DEFINITION. What every state of a run keeps, in the terms the claims use: the ranges and shapes the spec gives the
notice queue, the outgoing queue, the directory, the relay table, the sync controller, the slot map and the sinks. -/

namespace Sys2Proof.Machine

/-- The boot read and the low RESET_N are states of CONFIG_LOAD alone (R178, R179). -/
abbrev BootOk (s : State) : Prop :=
  (s.loader.boot ≠ .released → s.sync.state = .configLoad) ∧ (s.resetLow = true → s.sync.state = .configLoad)

/-- The notice queue holds 0 to 16 notices, and the lost count is above 0 only while it is full (R185). -/
abbrev NoticesOk (s : State) : Prop :=
  s.mgmt.notices.length ≤ 16 ∧ (0 < s.mgmt.lost → s.mgmt.notices.length = 16) ∧ s.mgmt.lost ≤ 65535

/-- The states in which the outgoing queue can hold items: it accepts none in any other (R48, R49). -/
def SyncState.queues : SyncState → Bool
  | .founding | .locked | .leaving => true
  | _ => false

/-- The outgoing queue holds 0 to 16 items, none where the state accepts none, and in LEAVING ANSWERs and the LEAVE
alone (R37, R48, R49). -/
abbrev QueueOk (s : State) : Prop :=
  s.tx.queue.length ≤ 16 ∧ (s.sync.state.queues = false → s.tx.queue = []) ∧
  (s.sync.state = .leaving → ∀ it ∈ s.tx.queue, it.isAnswer = true ∨ it = .leave)

/-- The directory has one entry per tag (R101). -/
abbrev DirOk (s : State) : Prop := (s.alloc.dir.map DirEntry.tag).Nodup

/-- Whether a slot map entry is one that a directory entry accounts for: PENDING while the entry is, HELD or OWNED while
it is ACTIVE, with its station and tag (R73, R74, R101). -/
def accountedBy (e : DirEntry) (u : SlotUse) : Bool :=
  match u with
  | .pending h t _ _ => !e.active && h == e.station && t == e.tag
  | .held h t _ _ => e.active && h == e.station && t == e.tag
  | .owned h t _ => e.active && h == e.station && t == e.tag
  | .free | .stray => false

/-- The slot map and the directory agree: tags are single, every entry's run lies in the map and all its slots carry
it, and every slot with a holder lies in the run of an entry that accounts for it (R74, R101, R102). -/
abbrev MapOk (s : State) : Prop :=
  DirOk s ∧ s.alloc.slots.length = 56 ∧
  (∀ e ∈ s.alloc.dir, 8 ≤ e.first ∧ 0 < e.count ∧ e.first + e.count ≤ 64 ∧
    ∀ k ∈ runSlots e.first e.count, accountedBy e (s.slot k).use = true) ∧
  (∀ k ∈ runSlots 8 56, (s.slot k).use.holder ≠ none →
    ∃ e ∈ s.alloc.dir, inRun e.first e.count k = true ∧ accountedBy e (s.slot k).use = true)

/-- The request numbers of the QUEUED and AWAITING entries of a relay table. -/
def openNumbers (table : List (Option Relay)) : List Nat :=
  table.filterMap (fun e => match e with
    | some r => if r.isOpen then some r.reqNo else none
    | none => none)

/-- The relay table has four positions, no two of its open entries carry one request number, and the counter is a byte
(R164, R170). -/
abbrev RelaysOk (s : State) : Prop :=
  s.req.table.length = 4 ∧ (openNumbers s.req.table).Nodup ∧ s.req.nextNo < 256

/-- The ranges of R15; the advance is 0 in LISTEN and never negative while the station drives (R16); the leading flag is
clear unless the station drives (R18). -/
abbrev SyncOk (s : State) : Prop :=
  s.sync.frameIndex < 32 ∧ -2 ≤ s.sync.advance ∧ s.sync.advance ≤ 2 ∧
  (s.sync.state = .listen → s.sync.advance = 0) ∧ (s.sync.state.drives = true → 0 ≤ s.sync.advance) ∧
  (s.sync.state.drives = false → s.sync.leading = false) ∧
  s.sync.qualEdges ≤ 2 ∧ s.sync.acquireCount ≤ 64 ∧ s.sync.edgeMiss ≤ 4 ∧ s.sync.learnCount ≤ 8 ∧
  s.sync.foreignEarlier ≤ 2 ∧ s.sync.mismatch ≤ 2

/-- Whether a lease, if there is one, is 0 to 24 (R73). -/
def leaseFits (u : SlotUse) : Bool :=
  match u with
  | .held _ _ _ lease => decide (lease ≤ 24)
  | _ => true

/-- A slot map of 56 entries, carrier frames 0 to 32, leases 0 to 24 (R13, R73). -/
abbrev SlotsOk (s : State) : Prop :=
  s.alloc.slots.length = 56 ∧ ∀ x ∈ s.alloc.slots, x.carrier ≤ 32 ∧ leaseFits x.use = true

/-- Whether a sink state keeps an empty queue: only FILLING and RUNNING hold captures (R136, R142, R143). -/
def SinkState.keepsQueue : SinkState → Bool
  | .filling | .running => true
  | _ => false

/-- A sink's queue holds 0 to 16 captures, none outside FILLING and RUNNING; its consecutive-silent count is 0 to 64 and
its guard count 0 to 128 (R136). -/
abbrev SinkOk (c : Sink) : Prop :=
  c.queue.length ≤ 16 ∧ (c.state.keepsQueue = false → c.queue = []) ∧ c.silentRun ≤ 64 ∧ c.slipGuard ≤ 128

/-- Every sink keeps its ranges. -/
abbrev SinksOk (s : State) : Prop := ∀ c ∈ s.sinks, SinkOk c

/-- A source's queue holds 0 to 8 frames; backoff 0 to 4, refresh 0 to 8, tally 0 to 32, guard 0 to 128 (R114). -/
abbrev SourceOk (c : Source) : Prop :=
  c.queue.length ≤ 8 ∧ c.backoff ≤ 4 ∧ c.refresh ≤ 8 ∧ c.tally ≤ 32 ∧ c.slipGuard ≤ 128

/-- Every source keeps its ranges, and no two sources carry one tag (R114, R180). -/
abbrev SourcesOk (s : State) : Prop :=
  (∀ c ∈ s.sources, SourceOk c) ∧ (s.sources.map (fun c => c.cfg.tag)).Nodup

end Sys2Proof.Machine
end

