-- ==== Sys2Proof/Certificates/Slice0/Obligations.lean ====
section
/-! DEFINITION. The statements for the provers, and the few facts several of them share. -/

section Statements

open Sys2Proof Sys2Proof.Machine

/-! ### Shared facts -/

/-- What acceptance of an image leaves (R181): the loader, LISTEN at frame index 0 of superframe 0, SELF, IDLE sources,
UNBOUND sinks, the port records with BRIDGE clocks ACTIVE and watch 0, OUT lanes zero, no notice posted. -/
def Sys2Proof.Machine.AcceptedAs (o : Origin) (im : Image) (s t : State) : Prop :=
  t.loader = ⟨.accepted, none, some o, some im, .released⟩ ∧
  t.sync.state = .listen ∧ t.sync.frameIndex = 0 ∧ t.sync.superframe = 0 ∧ t.sync.tick = 0 ∧ t.sync.listenCount = 0 ∧
  t.sync.counters = s.sync.counters ∧
  t.peers = s.peers.modify im.stationId (fun p => { p with presence := .self }) ∧
  t.sources = im.sources.map Source.cold ∧ t.sinks = im.sinks.map Sink.cold ∧ t.ports.length = 4 ∧
  (∀ (p : Nat) (q : Port), t.ports[p]? = some q → ∃ cfg : PortConfig, im.ports[p]? = some cfg ∧ q.cfg = some cfg ∧ q.watch = 0 ∧
    q.clock = (if cfg.clocking = .bridge then some .active else none) ∧ q.primed = decide (cfg.clocking = .follow) ∧
    q.lanesOut = if cfg.direction = .output then List.replicate 8 0 else []) ∧
  t.mgmt.notices = s.mgmt.notices ∧ t.mgmt.lost = s.mgmt.lost ∧ t.line = s.line ∧ t.rx = s.rx ∧ t.tx = s.tx ∧
  t.alloc = s.alloc ∧ t.req = s.req ∧ t.pending = s.pending ∧ t.resetLow = s.resetLow

/-- What byte `i` of an image holds, and bytes `i` and `i + 1` with the high byte first (R188). -/
abbrev Sys2Proof.Machine.ByteOf (bytes : List Byte) (i : Nat) : Nat := (bytes.getD i 0).toNat
abbrev Sys2Proof.Machine.WordOf (bytes : List Byte) (i : Nat) : Nat := 256 * ByteOf bytes i + ByteOf bytes (i + 1)

/-- The image `im` is read from these bytes by the layout of R191: station id, founding bit, manager ids up to their count,
port records, source records, sink records behind them. -/
def Sys2Proof.Machine.LaidOutAs (bytes : List Byte) (im : Image) : Prop :=
  let b := ByteOf bytes
  im.stationId = b 2 ∧ (im.founding = true ↔ b 3 % 2 = 1) ∧
  im.managers.length = min (b 4) 4 ∧ (∀ i, i < min (b 4) 4 → im.managers[i]? = some (b (5 + i))) ∧
  im.ports.length = 4 ∧ (∀ n, n < 4 → im.ports[n]? = some
    ⟨if b (9 + 2 * n) = 1 then .output else .input, if b (10 + 2 * n) = 1 then .bridge else .follow⟩) ∧
  im.sources.length = b 17 ∧ (∀ n, n < b 17 → let o := 24 + 8 * n
    im.sources[n]? = some ⟨WordOf bytes o, b (o + 2), b (o + 3) % 4, b (o + 4), b (o + 5)⟩) ∧
  im.sinks.length = b 18 ∧ (∀ n, n < b 18 → let o := 24 + 8 * (b 17 + n)
    im.sinks[n]? = some ⟨WordOf bytes o, b (o + 2), b (o + 3), b (o + 4), b (o + 5),
      if b (o + 6) = 1 then .zero else .hold⟩)

/-- Two records of one port whose lanes, `first` and on for as many as the record has channels, hold a common one (R180). -/
def Sys2Proof.Machine.ShareALane (port first channels port' first' channels' : Nat) : Prop :=
  port = port' ∧ ∃ lane, first ≤ lane ∧ lane < first + channels ∧ first' ≤ lane ∧ lane < first' + channels'

/-- When an image fails the test of a reason, whatever the other tests say (R180). -/
def Sys2Proof.Machine.FailsTest (bytes : List Byte) : FaultReason → Prop :=
  let b := ByteOf bytes
  let source := fun n => 24 + 8 * n
  let sink := fun n => 24 + 8 * (b 17 + n)
  fun reason => match reason with
  | .badLength => 160 < b 1 ∨ b 1 < 26 ∨ b 1 ≠ 26 + 8 * (b 17 + b 18)
  | .badCheck => (crc16 ((bytes.take (bytes.length - 2)).flatMap (fun x => bitsOf 8 x.toNat))).toNat ≠
      WordOf bytes (bytes.length - 2)
  | .badId => 31 < b 2 ∨ ∃ i, i < min (b 4) 4 ∧ 31 < b (5 + i)
  | .countRange => 8 < b 17 ∨ 8 < b 18 ∨ 4 < b 4 ∨
      (∃ n, n < b 17 ∧ let o := source n
        b (o + 2) = 0 ∨ 8 < b (o + 2) ∨ 4095 < WordOf bytes o ∨ 3 < b (o + 4) ∨ 7 < b (o + 5)) ∨
      (∃ n, n < b 18 ∧ let o := sink n
        b (o + 2) = 0 ∨ 8 < b (o + 2) ∨ 4095 < WordOf bytes o ∨ 3 < b (o + 3) ∨ 7 < b (o + 4) ∨ b (o + 5) < 2 ∨
          12 < b (o + 5) ∨ 1 < b (o + 6)) ∨
      ∃ n, n < 4 ∧ (1 < b (9 + 2 * n) ∨ 1 < b (10 + 2 * n))
  | .dupTag => (∃ m n, m < n ∧ n < b 17 ∧ WordOf bytes (source m) = WordOf bytes (source n)) ∨
      (∃ n, n < b 17 ∧ WordOf bytes (source n) = 0) ∨ ∃ n, n < b 18 ∧ WordOf bytes (sink n) = 0
  | .portConflict => (∃ n, n < b 17 ∧ b (9 + 2 * b (source n + 4)) = 1) ∨
      ∃ n, n < b 18 ∧ b (9 + 2 * b (sink n + 3)) = 0
  | .laneOverflow => (∃ n, n < b 17 ∧ 8 < b (source n + 5) + b (source n + 2)) ∨
      ∃ n, n < b 18 ∧ 8 < b (sink n + 4) + b (sink n + 2)
  | .laneOverlap => (∃ m n, m < n ∧ n < b 17 ∧ let o := source m; let u := source n
        ShareALane (b (o + 4)) (b (o + 5)) (b (o + 2)) (b (u + 4)) (b (u + 5)) (b (u + 2))) ∨
      ∃ m n, m < n ∧ n < b 18 ∧ let o := sink m; let u := sink n
        ShareALane (b (o + 3)) (b (o + 4)) (b (o + 2)) (b (u + 3)) (b (u + 4)) (b (u + 2))

/-- Validation makes the eight tests of R180 in their order: the first that fails gives the reason, and an image that fails
none is valid and read as R191 lays it out. -/
def Sys2Proof.Machine.JudgedInOrder (bytes : List Byte) : Prop :=
  let tests : List FaultReason := [.badLength, .badCheck, .badId, .countRange, .dupTag, .portConflict, .laneOverflow,
    .laneOverlap]
  (validateImage bytes = none ↔ ∀ r ∈ tests, ¬FailsTest bytes r) ∧
  (∀ (earlier later : List FaultReason) (reason : FaultReason), tests = earlier ++ reason :: later →
    (validateImage bytes = some reason ↔ FailsTest bytes reason ∧ ∀ r ∈ earlier, ¬FailsTest bytes r)) ∧
  LaidOutAs bytes (readImage bytes)

/-- What a failed image leaves (R181): CONFIG_FAULT, status FAULTED, the reason and the origin, the image copy as it
stood, a FAULT notice posted or, with the queue full, counted lost, and nothing else of the tables. -/
def Sys2Proof.Machine.RejectedAs (o : Origin) (reason : FaultReason) (s t : State) : Prop :=
  t.loader = { s.loader with status := .faulted, reason := some reason, origin := some o, boot := .released } ∧
  t.sync = { s.sync with state := .configFault } ∧
  t.mgmt.notices = (if s.mgmt.notices.length < 16 then s.mgmt.notices ++ [.fault (.configFault reason o)]
    else s.mgmt.notices) ∧
  t.mgmt.lost = (if s.mgmt.notices.length < 16 then s.mgmt.lost else bump s.mgmt.lost) ∧
  t.line = s.line ∧ t.rx = s.rx ∧ t.tx = s.tx ∧ t.peers = s.peers ∧ t.alloc = s.alloc ∧ t.sources = s.sources ∧
  t.sinks = s.sinks ∧ t.ports = s.ports ∧ t.req = s.req ∧ t.pending = s.pending ∧ t.resetLow = s.resetLow

/-- What full teardown leaves in every block (R39, R72, R111, R135, R154): LISTEN at position 0 with every count clear,
everything learnt from the trunk gone, the configuration, the counters of the tables and DONE relay entries kept. -/
def Sys2Proof.Machine.TornDown (s t : State) : Prop :=
  t.sync.state = .listen ∧ t.sync.frameIndex = 0 ∧ t.sync.superframe = 0 ∧ t.sync.advance = 0 ∧
  t.sync.qualEdges = 0 ∧ t.sync.qualLead = none ∧ t.sync.listenCount = 0 ∧ t.sync.acquireCount = 0 ∧
  t.sync.edgeMiss = 0 ∧ t.sync.learnCount = 0 ∧ t.sync.foreignEarlier = 0 ∧ t.sync.mismatch = 0 ∧
  t.sync.freshPending = false ∧ t.sync.leading = false ∧ t.lockHigh = false ∧ t.rx.disagreement = none ∧
  t.peers = s.peers.map (fun p =>
    ⟨if p.presence = .self then .self else .absent, 0, none, p.damagedCells⟩) ∧
  t.alloc.slots = List.replicate 56 Slot.cold ∧ t.alloc.dir = [] ∧ t.alloc.counters = s.alloc.counters ∧
  (∀ (n : Nat) (c : Source), s.sources[n]? = some c → ∃ c' : Source, t.sources[n]? = some c' ∧ c'.state = .idle ∧ c'.run = none ∧ c'.queue = [] ∧
    c'.queuedItem = .nothing ∧ c'.cfg = c.cfg ∧ c'.muted = c.muted ∧ c'.counters = c.counters) ∧
  (∀ (n : Nat) (c : Sink), s.sinks[n]? = some c → ∃ c' : Sink, t.sinks[n]? = some c' ∧ c'.state = .unbound ∧ c'.run = none ∧ c'.queue = [] ∧
    c'.capture = none ∧ c'.lastOutput = none ∧ c'.cfg = c.cfg ∧ c'.muted = c.muted ∧ c'.counters = c.counters) ∧
  t.tx.queue = [] ∧
  (∀ (h : Nat) (r : Relay), h < 4 → s.relay h = some r → t.relay h = some
    (if r.isOpen then { r with phase := .done r.sent .aborted } else r)) ∧
  t.loader = s.loader ∧ t.ports = s.ports ∧ t.pending = s.pending

/-- What entry to MUTE leaves (R34, R126): sources HALTED but for CLASHED ones, the queue empty, relays ABORTED, no run
of this station in the directory, the counts and flags of R34 clear, LOCK low, FAULT high. -/
def Sys2Proof.Machine.Muted (s t : State) : Prop :=
  t.sync.state = .mute ∧ t.sync.edgeMiss = 0 ∧ t.sync.foreignEarlier = 0 ∧ t.sync.mismatch = 0 ∧
  t.sync.freshPending = false ∧ t.sync.leading = false ∧ t.lockHigh = false ∧ t.faultHigh = true ∧
  t.sync.frameIndex = s.sync.frameIndex ∧ t.sync.superframe = s.sync.superframe ∧ t.tx.queue = [] ∧
  (∀ (n : Nat) (c : Source), s.sources[n]? = some c → ∃ c' : Source, t.sources[n]? = some c' ∧ c'.run = none ∧ c'.queue = [] ∧
    c'.state = if c.state = .clashed then .clashed else .halted) ∧
  (∀ (h : Nat) (r : Relay), h < 4 → s.relay h = some r → t.relay h = some
    (if r.isOpen then { r with phase := .done r.sent .aborted } else r)) ∧
  t.alloc.dir = s.alloc.dir.filter (fun e => e.station != s.id) ∧
  t.peers = s.peers ∧ t.ports = s.ports ∧ t.loader = s.loader ∧ t.pending = s.pending

/-- Everything but the response of the LMP transaction is as it was. -/
def Sys2Proof.Machine.OnlyResponds (response : List Byte) (c : OnComplete) (s t : State) : Prop :=
  t = { s with mgmt := { s.mgmt with lmp := some ⟨response, c⟩ } }

/-- The rows of a take: context `c` of an OWNED source sends `fr` (none at an underrun) and becomes `c'`; `bridge` says
that its IN port is BRIDGE (R120, R129, R130). -/
def Sys2Proof.Machine.TakeRow (bridge : Bool) (c : Source) (fr : Option (List Sample)) (c' : Source) : Prop :=
  let level := c.queue.length
  let guard := min (c.slipGuard + 1) 128
  let slipped := { c.counters with slips := bump c.counters.slips }
  let skips := bridge = true ∧ 7 ≤ level ∧ c.slipGuard = 128
  let repeats := bridge = true ∧ level = 1 ∧ c.lastSent ≠ none ∧ c.slipGuard = 128
  (level = 0 ∧ fr = none ∧ c' = { c with
    slipGuard := guard, counters := { c.counters with underruns := bump c.counters.underruns } }) ∨
  (skips ∧ fr = c.queue[1]? ∧ c' = { c with
    queue := c.queue.drop 2, lastSent := c.queue[1]?, slipGuard := 1, counters := slipped }) ∨
  (repeats ∧ fr = c.lastSent ∧ c' = { c with slipGuard := 1, counters := slipped }) ∨
  (level ≠ 0 ∧ ¬skips ∧ ¬repeats ∧ fr = c.queue[0]? ∧ c' = { c with
    queue := c.queue.drop 1, lastSent := c.queue[0]?, slipGuard := guard })

/-- What a sink plays of a frame of marks: a GOOD channel its sample, any other its last good sample under HOLD and 0
under ZERO (R145). -/
def Sys2Proof.Machine.PlayedOf (c : Sink) (marks : List Mark) : List Sample :=
  List.zipWith (fun m last => match m with
    | .good x => x
    | _ => if c.cfg.gap = .hold then last else 0) marks c.lastGood

/-- The last good samples once a frame of marks is played (R145). -/
def Sys2Proof.Machine.GoodOf (c : Sink) (marks : List Mark) : List Sample :=
  List.zipWith (fun m last => match m with
    | .good x => x
    | _ => last) marks c.lastGood

/-- The rows of a play: context `c` of a RUNNING sink plays `out` and becomes `c'`; `bridge` says that its OUT port is
BRIDGE (R145 to R148). -/
def Sys2Proof.Machine.PlayRow (bridge : Bool) (c : Sink) (out : List Sample) (c' : Sink) : Prop :=
  let level := c.queue.length
  let guard := min (c.slipGuard + 1) 128
  let slipped := { c.counters with slips := bump c.counters.slips }
  let skips := bridge = true ∧ c.cfg.target + 3 < level ∧ c.slipGuard = 128
  let repeats := bridge = true ∧ level ≠ 0 ∧ level + 4 ≤ c.cfg.target ∧ c.lastOutput ≠ none ∧ c.slipGuard = 128
  (level = 0 ∧ out = PlayedOf c (List.replicate c.cfg.channels .silent) ∧ c' = { c with
    lastOutput := some out, slipGuard := guard,
    lastGood := GoodOf c (List.replicate c.cfg.channels .silent),
    counters := { c.counters with underflows := bump c.counters.underflows } }) ∨
  (∃ first second rest, skips ∧ c.queue = first :: second :: rest ∧ out = PlayedOf c second ∧ c' = { c with
    queue := rest, lastOutput := some out, lastGood := GoodOf c second, slipGuard := 1, counters := slipped }) ∨
  (repeats ∧ c.lastOutput = some out ∧ c' = { c with slipGuard := 1, counters := slipped }) ∨
  (∃ first rest, ¬skips ∧ ¬repeats ∧ c.queue = first :: rest ∧ out = PlayedOf c first ∧ c' = { c with
    queue := rest, lastOutput := some out, lastGood := GoodOf c first, slipGuard := guard })

/-- Whether a build places a queued item other than a CLAIM or the LEAVE when it considers it (R56). -/
def Sys2Proof.Machine.Placeable (s : State) : QItem → Prop
  | .answer .. => True
  | .offer n _ => ∃ (c : Source) (r : Run), s.sources[n]? = some c ∧ c.state = .owned ∧ c.run = some r
  | .release _ tag r _ => ∀ k ∈ runSlots r.first r.count, ∃ h p, (s.slot k).use = .owned h tag p
  | .probe h q _ _ _ => ∃ r : Relay, s.relay h = some r ∧ r.reqNo = q ∧ r.phase = .queued
  | .command h q _ _ _ => ∃ r : Relay, s.relay h = some r ∧ r.reqNo = q ∧ r.phase = .queued
  | .claim _ => False
  | .leave => False

/-- What binding to an active entry leaves of a sink: FILLING over its run, everything of an earlier binding gone (R138). -/
def Sys2Proof.Machine.BoundTo (e : DirEntry) (c : Sink) : Sink :=
  { c with
    state := .filling, run := some ⟨e.first, e.count⟩, queue := [], capture := none, silentRun := 0, slipGuard := 0
    lastGood := List.replicate c.cfg.channels 0, lastOutput := none }

/-- What leaving its binding leaves of a sink: UNBOUND with no run, empty queue, no capture, no last output (R139). -/
def Sys2Proof.Machine.Unbound (c : Sink) : Sink :=
  { c with
    state := .unbound, run := none, queue := [], capture := none, silentRun := 0, slipGuard := 0, lastOutput := none }

/-- What being told CLASHED leaves of a source: CLASHED with no run, empty queue, nothing queued, counts 0 (R105, R125;
log entry 30 for the last sent frame and guard count). -/
def Sys2Proof.Machine.ClashedFrom (c : Source) : Source :=
  { c with state := .clashed, run := none, queue := [], queuedItem := .nothing, backoff := 0, refresh := 0, tally := 0 }

/-- The CLAIMING, OWNED and RELEASING sources whose runs are among `gone`, removed by an item of `x`, are DEFEATED into
BACKOFF, with their notices in ascending source number, and no other source changes (R84, R85, R117, R122 to R124, R133,
R134; log entry 30 for the fields BACKOFF keeps). -/
def Sys2Proof.Machine.DefeatsOwners (x : Nat) (gone : List DirEntry) (s t : State) : Prop :=
  SourcesOk s → (∀ (n : Nat) (c : Source) (e : DirEntry), s.sources[n]? = some c → e ∈ gone → e.station = s.id →
    e.tag = c.cfg.tag → c.state = .claiming ∨ c.state = .owned ∨ c.state = .releasing) →
  let defeated := fun c : Source => gone.any (fun e => e.station == s.id && e.tag == c.cfg.tag)
  (∀ (n : Nat) (c : Source), s.sources[n]? = some c →
    (defeated c = false → t.sources[n]? = some c) ∧
    (defeated c = true → t.sources[n]? = some { c with
      state := .backoff, run := none, queue := [], queuedItem := .nothing, backoff := 1 + s.id % 4, refresh := 0,
      tally := 0, counters := { c.counters with defeats := bump c.counters.defeats } })) ∧
  (s.mgmt.notices = [] → s.sources.length ≤ 8 →
    t.mgmt.notices = (List.range s.sources.length).filterMap (fun n => match s.sources[n]? with
      | some c => if defeated c then some (.source n c.cfg.tag (.defeated (c.run.getD ⟨0, 0⟩) x)) else none
      | none => none))

/-- The objection OFFER of source `n`, with context `c`: posted and counted if it is OWNED, upgrading an OFFER of its that
waits, else joining the tail of a queue with room; not counted where the queue refuses it; none in any other state (R50,
R80, R84, R87). -/
def Sys2Proof.Machine.Objects (n : Nat) (c : Source) (s t : State) : Prop :=
  let posted := t.alloc.counters.objectionsPosted
  (c.state = .owned → s.sync.state = .founding ∨ s.sync.state = .locked →
    posted = bump s.alloc.counters.objectionsPosted ∧
    (∀ (front back : List QItem) (old : Bool), s.tx.queue = front ++ .offer n old :: back →
      (∀ p, .offer n p ∉ front ++ back) → t.tx = { s.tx with queue := front ++ .offer n true :: back } ∧
        t.sources = s.sources ∧ t.mgmt = s.mgmt) ∧
    ((∀ p, .offer n p ∉ s.tx.queue) → s.tx.queue.length < 16 →
      t.tx = { s.tx with queue := s.tx.queue ++ [.offer n true] } ∧ t.sources = s.sources ∧ t.mgmt = s.mgmt)) ∧
  (c.state ≠ .owned ∨ s.sync.state = .leaving ∨ s.sync.state = .mute →
    posted = s.alloc.counters.objectionsPosted ∧ t.tx = s.tx ∧ t.sources = s.sources ∧ t.mgmt = s.mgmt)

/-! ### The step, reset and the configuration -/

/-- A step takes the command at the front of the queue and runs it on the rest; with no command waiting the station
idles (the task's rule for a block; log entry 2). -/
def Obligations.StepRunsTheFrontCommand : Prop :=
  (∀ (s : State) (c : Instr) (rest : List Instr), s.pending = c :: rest →
    step s = exec c { s with pending := rest }) ∧
  (∀ s : State, s.pending = [] → step s = .next s)

/-- Every command answers a next state and leaves the waiting commands alone: no error of the spec stops the station. A row
named for what comes about inside a frame start, a marker report, a received slot or cell is that event or nothing (the
model's choices, log entries 1 and 27). -/
def Obligations.EveryCommandAnswersANextState : Prop :=
  (∀ (c : Instr) (s : State), ∃ t, exec c s = .next t ∧ t.pending = s.pending) ∧
  ∀ (s : State) (sh : List (List Bool)) (l : OnLine LineTicks) (n : Nat) (w : OnLine SlotWindow)
    (v : OnLine CellWindow),
    ∀ p ∈ [(Instr.listenLimitExpiry sh, Instr.frameStart sh), (.acquireTimeout sh, .frameStart sh),
      (.learnPeriodComplete sh, .frameStart sh), (.enterLocked sh, .frameStart sh),
      (.foundingTrialEnd sh, .frameStart sh), (.peerClaimMaturity n sh, .frameStart sh),
      (.ownClaimMaturity n sh, .frameStart sh), (.leaseLapse n sh, .frameStart sh),
      (.refreshDue n sh, .frameStart sh), (.backoffExpiry n sh, .frameStart sh),
      (.relayTimeout n sh, .frameStart sh), (.clockWatchExpiry n sh, .frameStart sh),
      (.edgeMissLimit l, .markerReport l), (.yieldTrunk l, .markerReport l),
      (.lineFault l, .markerReport l), (.forcedRelease n w, .dataSlotReceived n w),
      (.sinkStarved n w, .dataSlotReceived n w), (.duplicateIdMismatch v, .ownCellReadback v),
      (.peerDeparture v, .cellReceived v)],
      exec p.1 s = exec p.2 s ∨ exec p.1 s = .next s

/-- The values R178 and the chapters give after cold reset: the items and counters of the sync controller, an idle line
with nothing handed over, cell receiver and transmitter, 32 ABSENT peers, 56 FREE slots without carrier, the empty
directory, no source and no sink, four ports without a configuration, the empty relay table of four handles, the loader,
the management port and the lines. Every counter is 0. -/
def Obligations.ResetLeavesTheColdValues : Prop :=
  let s := State.reset
  let y := s.sync
  (y.state = .configLoad ∧ y.tick = 0 ∧ y.frameIndex = 0 ∧ y.superframe = 0 ∧ y.advance = 0 ∧ y.qualEdges = 0 ∧
    y.qualLead = none ∧ y.listenCount = 0 ∧ y.acquireCount = 0 ∧ y.edgeMiss = 0 ∧ y.learnCount = 0 ∧
    y.foreignEarlier = 0 ∧ y.mismatch = 0 ∧ y.freshPending = false ∧ y.leading = false ∧
    y.counters = ⟨0, 0, 0, 0, 0⟩) ∧
  (s.line.drive = .nothing ∧ s.line.handed = [] ∧ s.line.ownCell = none) ∧
  s.rx = ⟨none, 0, 0, 0⟩ ∧ s.tx = ⟨[], none, 0, 0, 0⟩ ∧ s.peers = List.replicate 32 ⟨.absent, 0, none, 0⟩ ∧
  s.alloc = ⟨List.replicate 56 ⟨.free, 0⟩, [], ⟨0, 0, 0, 0, 0, 0, 0, 0, 0⟩⟩ ∧ s.sources = [] ∧ s.sinks = [] ∧
  s.ports = List.replicate 4 ⟨none, false, none, 0, 0, 0, []⟩ ∧
  s.req = ⟨List.replicate 4 none, 0, ⟨0, 0, 0, 0, 0, 0⟩⟩ ∧
  (s.loader.status = .loading ∧ s.loader.reason = none ∧ s.loader.origin = none ∧ s.loader.image = none) ∧
  s.mgmt = ⟨[], 0, none⟩ ∧ s.lockHigh = false ∧ s.faultHigh = false ∧ s.attnHigh = true

/-- Every invariant below holds in the state after reset. -/
def Obligations.ResetMeetsTheInvariants : Prop :=
  BootOk State.reset ∧ NoticesOk State.reset ∧ QueueOk State.reset ∧ MapOk State.reset ∧ RelaysOk State.reset ∧
  SyncOk State.reset ∧ SlotsOk State.reset ∧ SinksOk State.reset ∧ SourcesOk State.reset

/-- COLD_RESET puts every block at its cold-reset values from any state, keeping the commands that wait; while RESET_N
is low no other command but RESET_RELEASE has any effect; RESET_RELEASE then gives the state after reset, in which the
boot read begins (R178; log entry 3 for what the sender's queue and a release with RESET_N high do). -/
def Obligations.ColdResetAndRelease : Prop :=
  ∀ s : State, ∃ t, exec .coldReset s = .next t ∧ t.resetLow = true ∧ t.line.drive = .nothing ∧
    t.loader.boot = .released ∧ t.mgmt.lmp = none ∧ t.loader.image = none ∧
    exec .resetRelease t = .next { State.reset with pending := s.pending } ∧
    (s.resetLow = false → exec .resetRelease s = .next s) ∧
    (s.resetLow = true → ∀ c : Instr, c ≠ .coldReset → c ≠ .resetRelease → exec c s = .next s)

/-- The start byte: 5Ch goes on to the length byte; any other value enters CONFIG_WAIT with status WAITING and releases
BOOT_CS_N. The length byte: 26 to 160 goes on reading; any other value enters CONFIG_FAULT with BAD_LENGTH and origin BOOT
(R179, R181, R191). -/
def Obligations.BootStartAndLengthBytesDecide : Prop :=
  ∀ (b : Byte) (s : State), s.resetLow = false →
    (s.loader.boot = .startByte → b = 0x5C#8 →
      exec (.bootStartByte b) s = .next { s with loader := { s.loader with boot := .lengthByte } }) ∧
    (s.loader.boot = .startByte → b ≠ 0x5C#8 → exec (.bootStartByte b) s = .next { s with
      sync := { s.sync with state := .configWait }
      loader := { s.loader with status := .waiting, boot := .released } }) ∧
    (s.loader.boot = .lengthByte → 26 ≤ b.toNat ∧ b.toNat ≤ 160 →
      exec (.bootLengthByte b) s = .next { s with loader := { s.loader with boot := .remaining b.toNat } }) ∧
    (s.loader.boot = .lengthByte → b.toNat < 26 ∨ 160 < b.toNat →
      ∃ t, exec (.bootLengthByte b) s = .next t ∧ RejectedAs .boot .badLength s t ∧ t.mgmt.lmp = s.mgmt.lmp)

/-- The last byte of a boot image: accepted with origin BOOT if it passes every test, else refused with the first
reason; the tests are those of R180 in their order, and the values accepted are read by the layout of R191 (R179, R180, R181,
R191; that acceptance primes the FOLLOW ports is log entry 10). -/
def Obligations.BootReadJudgesTheImage : Prop :=
  ∀ (rest : List Byte) (length : Nat) (s : State), s.resetLow = false → s.loader.boot = .remaining length →
    2 ≤ length → rest.length = length - 2 → s.ports.length = 4 →
    let image := 0x5C#8 :: BitVec.ofNat 8 length :: rest
    JudgedInOrder image ∧ ∃ t, exec (.bootReadComplete rest) s = .next t ∧ t.mgmt.lmp = s.mgmt.lmp ∧
      (validateImage image = none → AcceptedAs .boot (readImage image) s t) ∧
      (∀ reason, validateImage image = some reason → RejectedAs .boot reason s t)

/-- LOAD_IMAGE in CONFIG_WAIT and CONFIG_FAULT: ACCEPTED with acceptance, or REJECTED with the reason; NOT_NOW in every
other state, with nothing judged; the tests are those of R180 in their order, and the values accepted are read by the layout
of R191 (R180, R181, R191; log entries 10 and 23 for the FOLLOW ports and the bytes taken). -/
def Obligations.LoadImageJudgesTheImage : Prop :=
  ∀ (bytes image : List Byte) (s : State), s.resetLow = false → takenImage bytes = some image → s.ports.length = 4 →
    JudgedInOrder image ∧ ∃ t, exec (.loadImage bytes) s = .next t ∧
      (s.sync.state = .configWait ∨ s.sync.state = .configFault →
        (validateImage image = none →
          AcceptedAs .lmp (readImage image) s t ∧ t.mgmt.lmp = some ⟨[0x01, 0x00], .nothing⟩) ∧
        (∀ reason, validateImage image = some reason →
          RejectedAs .lmp reason s t ∧ t.mgmt.lmp = some ⟨[0x02, 0x01, BitVec.ofNat 8 reason.code], .nothing⟩)) ∧
      (s.sync.state ≠ .configWait → s.sync.state ≠ .configFault → OnlyResponds [0x03, 0x00] .nothing s t)

/-- Once an image is accepted nothing but a cold reset changes the loader: the image, its status and its origin stand
through every command (R178). -/
def Obligations.ConfigurationStandsUntilColdReset : Prop :=
  ∀ (c : Instr) (s t : State), BootOk s → s.sync.state.timerRuns = true → c ≠ .coldReset →
    exec c s = .next t → t.loader = s.loader

/-! ### The management port -/

/-- LOCK is high in LOCKED and LEAVING and low in every other state (R17). -/
def Obligations.LockLineFollowsTheState : Prop :=
  (∀ s : State, s.lockHigh = true ↔ s.sync.state = .locked ∨ s.sync.state = .leaving) ∧ State.reset.lockHigh = false

/-- FAULT is high while one of the four standing conditions holds. ATTN_N is low exactly while the notice queue holds a
notice: it falls at the post to an empty queue, rises at the completion of the TAKE_NOTICE of the last notice, and a full
queue with losses stays non-empty (R186, R187). -/
def Obligations.FaultAndAttnFollowTheirConditions : Prop :=
  (∀ s : State, s.faultHigh = true ↔ s.sync.state = .configFault ∨ s.sync.state = .mute ∨
    (∃ c ∈ s.sources, c.state = .clashed) ∨ ∃ q ∈ s.ports, q.clock = some .lost) ∧
  (∀ s : State, s.attnHigh = false ↔ s.mgmt.notices ≠ []) ∧
  (∀ (n : Notice) (s : State), (notify n s).attnHigh = false) ∧
  (∀ (n : Notice) (m : Mgmt), m.notices = [n] → (removeNotice m).notices = []) ∧
  (∀ m : Mgmt, 16 ≤ m.notices.length → (removeNotice m).notices ≠ []) ∧ State.reset.attnHigh = true

/-- The commands that read: each answers with its response alone, the body laid out as R192 gives, and changes nothing
else; an indexed read answers the entry's fields for an index in range, NO_SUCH for any other and for a source or sink with
no record (R182, R183; the FFh of a field that is absent is log entry 15, the sync state of the summary before LISTEN log
entry 38, the one byte of the request-number counter log entry 46). -/
def Obligations.ReadsAnswerAndChangeNothing : Prop :=
  ∀ (i : Byte) (s : State), s.resetLow = false →
    (∃ t, exec .lmpIdent s = .next t ∧ OnlyResponds
      ([0x00, 0x06, 0x48, 0x16, 0x01] ++ (byte1? (s.loader.image.map Image.stationId) ++
        [BitVec.ofNat 8 s.sync.state.code, BitVec.ofNat 8 s.loader.status.code])) .nothing s t) ∧
    (∃ t body, exec (.readStation i) s = .next t ∧ OnlyResponds ([0x00, 0x13] ++ body) .nothing s t ∧
      body = stationBody s ∧ body.length = 19) ∧
    (∃ t, exec (.readSummary i) s = .next t ∧
      OnlyResponds ([0x00, 0x04] ++ payloadBytes (summaryPayload s)) .nothing s t) ∧
    (∃ t, exec (.readSync i) s = .next t ∧ OnlyResponds ([0x00, 0x0B] ++ (byte2 s.sync.counters.disagreeing ++
      (byte2 s.sync.counters.resyncs ++ (byte2 s.sync.counters.yields ++ (byte2 s.sync.counters.lineFaults ++
      (byte2 s.sync.counters.foreignLater ++ [if s.sync.leading then 1 else 0])))))) .nothing s t) ∧
    (∃ t, exec (.readControl i) s = .next t ∧ OnlyResponds ([0x00, 0x0D] ++ (byte2 s.rx.damagedCells ++
      (byte2 s.rx.malformedItems ++ (byte2 s.rx.ownIdCells ++ (byte2 s.tx.fullQueueLosses ++
      (byte2 s.tx.lostAnswers ++ (byte2 s.tx.cellsSent ++ byte1 s.tx.queue.length))))))) .nothing s t) ∧
    (∃ t, exec (.readAllocator i) s = .next t ∧
      OnlyResponds ([0x00, 0x12] ++ allocatorBody s.alloc.counters) .nothing s t) ∧
    (∃ t, exec (.readRequest i) s = .next t ∧
      OnlyResponds ([0x00, 0x0E] ++ requestBody s.req s.relayLevel) .nothing s t) ∧
    (∃ t, exec (.readPeer i) s = .next t ∧ OnlyResponds (if i.toNat < 32 then
      [0x00, 0x07] ++ peerBody (s.peer i.toNat) else [0x04, 0x00]) .nothing s t) ∧
    (∃ t, exec (.readSlot i) s = .next t ∧ OnlyResponds (if 8 ≤ i.toNat ∧ i.toNat ≤ 63 then
      [0x00, 0x09] ++ slotBody (s.slot i.toNat).use else [0x04, 0x00]) .nothing s t) ∧
    (∃ t, exec (.readSource i) s = .next t ∧ OnlyResponds (match s.sources[i.toNat]? with
      | some c => [0x00, 0x14] ++ sourceBody c
      | none => [0x04, 0x00]) .nothing s t) ∧
    (∃ t, exec (.readSink i) s = .next t ∧ OnlyResponds (match s.sinks[i.toNat]? with
      | some c => [0x00, 0x0F] ++ sinkBody c
      | none => [0x04, 0x00]) .nothing s t) ∧
    (∃ t, exec (.readPort i) s = .next t ∧ OnlyResponds (if i.toNat < 4 then
      [0x00, 0x08] ++ portBody (s.ports.getD i.toNat Port.cold) else [0x04, 0x00]) .nothing s t)

/-- The mute actions: BAD_REQUEST above 63, NO_SUCH with no record, else DONE with that one flag set or cleared and
nothing else changed (R132, R150, R182, R184). -/
def Obligations.MuteActionsSetOneFlag : Prop :=
  ∀ (i : Byte) (s : State), s.resetLow = false →
    (63 < i.toNat → ∀ c ∈ [Instr.actMuteSource i, .actUnmuteSource i, .actMuteSink i, .actUnmuteSink i],
      ∃ t, exec c s = .next t ∧ OnlyResponds [0x05, 0x00] .nothing s t) ∧
    (i.toNat ≤ 63 → s.sources.length ≤ i.toNat → ∀ c ∈ [Instr.actMuteSource i, .actUnmuteSource i],
      ∃ t, exec c s = .next t ∧ OnlyResponds [0x04, 0x00] .nothing s t) ∧
    (i.toNat ≤ 63 → s.sinks.length ≤ i.toNat → ∀ c ∈ [Instr.actMuteSink i, .actUnmuteSink i],
      ∃ t, exec c s = .next t ∧ OnlyResponds [0x04, 0x00] .nothing s t) ∧
    (i.toNat ≤ 63 → i.toNat < s.sources.length →
      (∃ t, exec (.actMuteSource i) s = .next t ∧ OnlyResponds [0x00, 0x00] .nothing
        { s with sources := s.sources.modify i.toNat (fun c => { c with muted := true }) } t) ∧
      (∃ t, exec (.actUnmuteSource i) s = .next t ∧ OnlyResponds [0x00, 0x00] .nothing
        { s with sources := s.sources.modify i.toNat (fun c => { c with muted := false }) } t)) ∧
    (i.toNat ≤ 63 → i.toNat < s.sinks.length →
      (∃ t, exec (.actMuteSink i) s = .next t ∧ OnlyResponds [0x00, 0x00] .nothing
        { s with sinks := s.sinks.modify i.toNat (fun c => { c with muted := true }) } t) ∧
      (∃ t, exec (.actUnmuteSink i) s = .next t ∧ OnlyResponds [0x00, 0x00] .nothing
        { s with sinks := s.sinks.modify i.toNat (fun c => { c with muted := false }) } t))

/-- RESEEK of an OWNED source: DONE, RELEASING with its run kept, its queue empty and its counts 0, a RELEASE of its tag
and run at the tail of a queue with room, or refused in LEAVING; any other configured source answers NOT_NOW, an index
without a record NO_SUCH, one above 63 BAD_REQUEST (R49, R122, R123, R127, R132, R182). That the last sent frame and the
slip guard count are kept is the model's choice, log entry 30. -/
def Obligations.ReseekReleasesAnOwnedSource : Prop :=
  ∀ (i : Byte) (s : State), s.resetLow = false →
    (∀ (c : Source) (r : Run), i.toNat ≤ 63 → s.sources[i.toNat]? = some c → c.run = some r → c.state = .owned →
      let released := fun q : QueuedItem => s.sources.modify i.toNat (fun c => { c with
        state := .releasing, queue := [], tally := 0, refresh := 0, queuedItem := q })
      ∃ t, exec (.actReseekSource i) s = .next t ∧ t.mgmt.lmp = some ⟨[0x00, 0x00], .nothing⟩ ∧ t.alloc = s.alloc ∧
        t.sync = s.sync ∧ t.sinks = s.sinks ∧ t.ports = s.ports ∧ t.peers = s.peers ∧ t.line = s.line ∧
        (s.sync.state = .locked → s.tx.queue.length < 16 → t.sources = released .release ∧
          t.tx.queue = s.tx.queue ++ [.release i.toNat c.cfg.tag r false] ∧ t.mgmt.notices = s.mgmt.notices ∧
          t.req = s.req) ∧
        (s.sync.state = .leaving → t.sources = released .nothing ∧ t.tx = s.tx ∧ t.mgmt.notices = s.mgmt.notices ∧
          t.req = s.req)) ∧
    (∀ c : Source, i.toNat ≤ 63 → s.sources[i.toNat]? = some c → c.state ≠ .owned →
      ∃ t, exec (.actReseekSource i) s = .next t ∧ OnlyResponds [0x03, 0x00] .nothing s t) ∧
    (i.toNat ≤ 63 → s.sources.length ≤ i.toNat →
      ∃ t, exec (.actReseekSource i) s = .next t ∧ OnlyResponds [0x04, 0x00] .nothing s t) ∧
    (63 < i.toNat → ∃ t, exec (.actReseekSource i) s = .next t ∧ OnlyResponds [0x05, 0x00] .nothing s t)

/-- CLEAR_COUNTERS: DONE; every counter of every block is 0; state, the notice queue and the lost count stay (R184). -/
def Obligations.ClearCountersClearsCountersAlone : Prop :=
  ∀ (i : Byte) (s : State), s.resetLow = false → i.toNat ≤ 63 →
    ∃ t, exec (.actClearCounters i) s = .next t ∧ t.mgmt.lmp = some ⟨[0x00, 0x00], .nothing⟩ ∧
      t.mgmt.notices = s.mgmt.notices ∧ t.mgmt.lost = s.mgmt.lost ∧
      t.sync = { s.sync with counters := ⟨0, 0, 0, 0, 0⟩ } ∧
      t.rx = ⟨s.rx.disagreement, 0, 0, 0⟩ ∧ t.tx = ⟨s.tx.queue, s.tx.built, 0, 0, 0⟩ ∧
      t.peers = s.peers.map (fun p => { p with damagedCells := 0 }) ∧
      t.alloc = { s.alloc with counters := ⟨0, 0, 0, 0, 0, 0, 0, 0, 0⟩ } ∧
      t.sources = s.sources.map (fun c => { c with counters := ⟨0, 0, 0, 0, 0⟩ }) ∧
      t.sinks = s.sinks.map (fun c => { c with counters := ⟨0, 0, 0, 0⟩ }) ∧
      t.ports = s.ports.map (fun p => { p with shortFrames := 0, clockLosses := 0 }) ∧
      t.req = { s.req with counters := ⟨0, 0, 0, 0, 0, 0⟩ } ∧ t.loader = s.loader ∧ t.line = s.line ∧
      t.pending = s.pending

/-- RESTART by sync state: LEAVING with the LEAVE queued from LOCKED and FOUNDING, full teardown from MUTE and LEARN,
LISTEN anew from ACQUIRE and LISTEN, NOT_NOW from LEAVING and the configuration states (R36, R37, R39). -/
def Obligations.RestartTakesTheOutcomeOfItsState : Prop :=
  ∀ (i : Byte) (s : State), s.resetLow = false → i.toNat ≤ 63 →
    ∃ t, exec (.actRestart i) s = .next t ∧
      (s.sync.state = .locked ∨ s.sync.state = .founding →
        t.mgmt.lmp = some ⟨[0x00, 0x00], .nothing⟩ ∧ t.sync = { s.sync with state := .leaving } ∧ t.lockHigh = true ∧
        .leave ∈ t.tx.queue ∧ (∀ it ∈ t.tx.queue, it.isAnswer = true ∨ it = .leave) ∧
        t.tx.fullQueueLosses = s.tx.fullQueueLosses ∧ t.alloc = s.alloc ∧ t.sinks = s.sinks ∧ t.ports = s.ports) ∧
      (s.sync.state = .mute ∨ s.sync.state = .learn →
        t.mgmt.lmp = some ⟨[0x00, 0x00], .nothing⟩ ∧ TornDown s t ∧
        (s.mgmt.notices = [] → t.mgmt.notices.head? = some (.sync .restarted .listen 0 0))) ∧
      (s.sync.state = .acquire ∨ s.sync.state = .listen →
        OnlyResponds [0x00, 0x00] .nothing { s with sync := { s.sync with
          state := .listen, qualEdges := 0, qualLead := none, listenCount := 0, edgeMiss := 0, foreignEarlier := 0,
          mismatch := 0, advance := 0, leading := false } } t) ∧
      (s.sync.state = .leaving ∨ s.sync.state.timerRuns = false → OnlyResponds [0x03, 0x00] .nothing s t)

/-- A relay request that some test of R171 refuses answers with the first that fails and changes nothing else; a code
that names nothing of the kind, or an index above 63, is BAD_REQUEST ahead of them (R171, R182). -/
def Obligations.RelayRefusalsNameTheFirstTest : Prop :=
  ∀ (target code i : Byte) (s : State), s.resetLow = false →
    (subjectOf code.toNat = none ∨ 63 < i.toNat →
      ∃ t, exec (.relayProbe target code i) s = .next t ∧ OnlyResponds [0x05, 0x00] .nothing s t) ∧
    (actionOf code.toNat = none ∨ 63 < i.toNat →
      ∃ t, exec (.relayCommand target code i) s = .next t ∧ OnlyResponds [0x05, 0x00] .nothing s t) ∧
    (i.toNat ≤ 63 → ∀ c, (c = .relayProbe target code i ∧ subjectOf code.toNat ≠ none) ∨
        (c = .relayCommand target code i ∧ actionOf code.toNat ≠ none) →
      ∀ st : Byte, st = (if s.sync.state ≠ .locked then 0x03
          else if 31 < target.toNat ∨ target.toNat = s.id then 0x06
          else if (s.peer target.toNat).presence ≠ .present then 0x07
          else if (∀ e ∈ s.req.table, e ≠ none) then 0x08 else 0x01) → st ≠ 0x01 →
        ∃ t, exec c s = .next t ∧ OnlyResponds [st, 0x00] .nothing s t)

/-- An accepted relay takes the lowest free handle and the next request number no open entry carries, stands QUEUED with
no sent superframe, and its item joins the tail of a queue with room; the response names handle and number. That number is
the first from the counter on, modulo 256, that no open entry carries, at most three of them being skipped (R170, R171). -/
def Obligations.RelayAcceptedTakesHandleAndNumber : Prop :=
  (∀ (target code i : Byte) (x : Code) (h : Nat) (s : State), s.resetLow = false → i.toNat ≤ 63 →
    s.sync.state = .locked → target.toNat ≤ 31 → target.toNat ≠ s.id → (s.peer target.toNat).presence = .present →
    s.req.table.length = 4 → s.req.table[h]? = some none → (∀ g, g < h → s.req.table[g]? ≠ some none) →
    s.tx.queue.length < 16 →
    ∀ c, (c = .relayProbe target code i ∧ (subjectOf code.toNat).map Code.subject = some x) ∨
        (c = .relayCommand target code i ∧ (actionOf code.toNat).map Code.action = some x) →
      let q := freeNumber s.req.table 4 s.req.nextNo
      ∃ t, exec c s = .next t ∧
        t.mgmt.lmp = some ⟨[0x01, 0x02, BitVec.ofNat 8 h, BitVec.ofNat 8 q], .nothing⟩ ∧
        t.mgmt.notices = s.mgmt.notices ∧ t.req.counters = s.req.counters ∧
        t.req.table = s.req.table.set h (some ⟨q, target.toNat, x, i.toNat, .queued⟩) ∧
        t.req.nextNo = (q + 1) % 256 ∧
        t.tx = { s.tx with queue := s.tx.queue ++ [relayItem h q target.toNat x i.toNat] } ∧
        t.sync = s.sync ∧ t.alloc = s.alloc ∧ t.sources = s.sources ∧ t.sinks = s.sinks ∧ t.peers = s.peers) ∧
  ∀ (table : List (Option Relay)) (n : Nat), (openNumbers table).length ≤ 3 → n < 256 →
    ∃ j, j ≤ 3 ∧ freeNumber table 4 n = (n + j) % 256 ∧ (n + j) % 256 ∉ openNumbers table ∧
      ∀ i, i < j → (n + i) % 256 ∈ openNumbers table

/-- RELAY_RESULT: BAD_REQUEST above handle 3, EMPTY for a free handle, PENDING with the state of an open entry, DONE with
the result; only the completion of the whole response frees the entry (R175, R182, R192). -/
def Obligations.RelayResultAnswersAndFrees : Prop :=
  ∀ (h : Byte) (s : State), s.resetLow = false →
    (3 < h.toNat → ∃ t, exec (.relayResult h) s = .next t ∧ OnlyResponds [0x05, 0x00] .nothing s t) ∧
    (h.toNat ≤ 3 → s.relay h.toNat = none →
      ∃ t, exec (.relayResult h) s = .next t ∧ OnlyResponds [0x0A, 0x00] .nothing s t) ∧
    (∀ r, h.toNat ≤ 3 → s.relay h.toNat = some r →
      (r.phase = .queued → ∃ t, exec (.relayResult h) s = .next t ∧ OnlyResponds [0x09, 0x01, 0x00] .nothing s t) ∧
      (∀ sf, r.phase = .awaiting sf →
        ∃ t, exec (.relayResult h) s = .next t ∧ OnlyResponds [0x09, 0x01, 0x01] .nothing s t) ∧
      (∀ sent res, r.phase = .done sent res →
        ∃ t, exec (.relayResult h) s = .next t ∧
          OnlyResponds ([0x00, 0x0B] ++ relayBody r res) (.freeRelay h.toNat) s t ∧
          (∀ k, 13 ≤ k → exec (.lmpTransactionEnd k) t = .next { s with
            req := { s.req with table := s.req.table.set h.toNat none }, mgmt := { s.mgmt with lmp := none } }) ∧
          (∀ k, k < 13 → exec (.lmpTransactionEnd k) t = .next { s with mgmt := { s.mgmt with lmp := none } })))

/-- TAKE_NOTICE: EMPTY on an empty queue, else DONE with the head's record; completed, the head is removed, and a full
queue with losses gains a LOST notice with the count; cut short, the notice stays (R182, R185). -/
def Obligations.TakeNoticeRemovesTheHeadOnCompletion : Prop :=
  ∀ s : State, s.resetLow = false →
    (s.mgmt.notices = [] → ∃ t, exec .takeNotice s = .next t ∧ OnlyResponds [0x0A, 0x00] .nothing s t) ∧
    (∀ n rest, s.mgmt.notices = n :: rest →
      ∃ t, exec .takeNotice s = .next t ∧ OnlyResponds ([0x00, 0x08] ++ n.bytes) .removeNotice s t ∧
        (∀ k, k < 10 → exec (.lmpTransactionEnd k) t = .next { s with mgmt := { s.mgmt with lmp := none } }) ∧
        (∀ k, 10 ≤ k → (16 ≤ s.mgmt.notices.length ∧ 0 < s.mgmt.lost) →
          exec (.lmpTransactionEnd k) t = .next { s with
            mgmt := { notices := rest ++ [.lost s.mgmt.lost], lost := 0, lmp := none } }) ∧
        (∀ k, 10 ≤ k → ¬(16 ≤ s.mgmt.notices.length ∧ 0 < s.mgmt.lost) →
          exec (.lmpTransactionEnd k) t = .next { s with mgmt := { s.mgmt with notices := rest, lmp := none } }))

/-- The coding of requests. A frame of its kind's length codes its command; one whose kind names nothing, whose codes name
nothing of their kind, or whose index or handle is out of bounds is answered BAD_REQUEST, with nothing else changed; a frame
not yet complete is no request (R182, R192). -/
def Obligations.RequestFramesCodeTheirCommands : Prop :=
  (∀ (frame : List Byte) (s : State), s.resetLow = false →
    (∃ (k : Byte) (rest : List Byte), frame = k :: rest ∧ (8 < k.toNat ∨ k = 0)) ∨
    (∃ (group index : Byte) (rest : List Byte), frame = 2 :: group :: index :: rest ∧ 10 < group.toNat) ∨
    (∃ (code index : Byte) (rest : List Byte), frame = 3 :: code :: index :: rest ∧
      (actionOf code.toNat = none ∨ 63 < index.toNat)) ∨
    (∃ (target code index : Byte) (rest : List Byte), frame = 4 :: target :: code :: index :: rest ∧
      (subjectOf code.toNat = none ∨ 63 < index.toNat)) ∨
    (∃ (target code index : Byte) (rest : List Byte), frame = 5 :: target :: code :: index :: rest ∧
      (actionOf code.toNat = none ∨ 63 < index.toNat)) ∨
    (∃ (handle : Byte) (rest : List Byte), frame = 6 :: handle :: rest ∧ 3 < handle.toNat) →
    requestOf frame = some (.lmpBadRequest frame) ∧
    ∃ t, exec (.lmpBadRequest frame) s = .next t ∧ OnlyResponds [0x05, 0x00] .nothing s t) ∧
  (∀ (x c i : Byte) (rest : List Byte),
    requestOf (1 :: rest) = some .lmpIdent ∧ requestOf (7 :: rest) = some .takeNotice ∧
    (∀ p ∈ [(0, Instr.readStation i), (1, .readSummary i), (2, .readSync i), (3, .readControl i), (4, .readPeer i),
        (5, .readAllocator i), (6, .readSlot i), (7, .readSource i), (8, .readSink i), (9, .readPort i),
        (10, .readRequest i)], requestOf (2 :: BitVec.ofNat 8 p.1 :: i :: rest) = some p.2) ∧
    (i.toNat ≤ 63 → ∀ p ∈ [(8, Instr.actMuteSource i), (9, .actUnmuteSource i), (10, .actReseekSource i),
        (11, .actMuteSink i), (12, .actUnmuteSink i), (13, .actClearCounters i), (14, .actRestart i)],
      requestOf (3 :: BitVec.ofNat 8 p.1 :: i :: rest) = some p.2) ∧
    (i.toNat ≤ 63 → 1 ≤ c.toNat ∧ c.toNat ≤ 5 → requestOf (4 :: x :: c :: i :: rest) = some (.relayProbe x c i)) ∧
    (i.toNat ≤ 63 → 8 ≤ c.toNat ∧ c.toNat ≤ 14 → requestOf (5 :: x :: c :: i :: rest) = some (.relayCommand x c i)) ∧
    (i.toNat ≤ 3 → requestOf (6 :: i :: rest) = some (.relayResult i)) ∧
    (takenImage rest = none → requestOf (8 :: rest) = none) ∧
    (∀ image, takenImage rest = some image → requestOf (8 :: rest) = some (.loadImage image))) ∧
  ∀ x c : Byte, ∀ frame ∈ [[], [2], [2, c], [3], [3, c], [4], [4, x], [4, x, c], [5], [5, x], [5, x, c], [6]],
    requestOf frame = none

/-! ### Frame starts and boundaries -/

/-- A frame start while the timer runs: the tick count, the advance and a jump are cleared, the index and at 31 the
superframe number step, the ended frame was 2048 minus the advance ticks long (or as the jump set it), words not driven
are gone, what was driven stands on record up to the end of that frame, and the marker is driven if the state drives; with
the timer stopped none occurs. Frames are 2046 to 2050 ticks long, 2048 in LISTEN, 2046 to 2048 while the station drives
(R1, R2, R4, R5, R16; that a word cut off by the end of the frame ends recessive all the same is log entry 41, the range of
the next report after a frame of 2049 or 2050 ticks and after the jump log entry 29). -/
def Obligations.FrameStartStepsTheFrame : Prop :=
  ∀ (shifted : List (List Bool)) (s : State), s.resetLow = false →
    (s.sync.state.timerRuns = false → exec (.frameStart shifted) s = .next s) ∧
    (s.sync.state.timerRuns = true →
      ¬(s.sync.state = .listen ∧ listenLimit s ≤ s.sync.listenCount + 1 ∧ s.mayFound = true) →
      ∃ (t : State) (ticks : Nat), exec (.frameStart shifted) s = .next t ∧
        t.sync.tick = 0 ∧ t.sync.advance = 0 ∧ t.sync.jump = none ∧
        t.sync.frameIndex = (if s.sync.frameIndex = 31 then 0 else s.sync.frameIndex + 1) ∧
        t.sync.superframe = (if s.sync.frameIndex = 31 then s.sync.superframe + 1 else s.sync.superframe) ∧
        t.line.frameTicks = ticks ∧ (s.sync.jump = none → ticks = (2048 - s.sync.advance).toNat) ∧
        (∀ length, s.sync.jump = some length → ticks = length) ∧
        t.line.handed = [] ∧ t.line.drive = (if t.sync.state.drives then .marker else .nothing) ∧
        t.line.driven = (s.line.driven.filter (fun d => decide (0 ≤ d.start))).map
            (fun d => ⟨d.start - ticks, if d.ticks.length ≤ ((ticks : Int) - d.start).toNat then d.ticks
              else d.ticks.take (((ticks : Int) - d.start).toNat - 1) ++ [false]⟩) ++
          (if t.sync.state.drives then [⟨0, List.replicate 32 true⟩] else []) ∧
        (s.sync.jump = none → t.line.reportFrom = (ticks : Int) - 1024) ∧
        (s.sync.jump ≠ none → t.line.reportFrom = min 1024 ((ticks : Int) - 1024)) ∧
        t.line.ownCell = s.line.ownCell ∧ t.rx = s.rx ∧ t.peers = s.peers ∧ t.loader = s.loader ∧
        t.mgmt.lmp = s.mgmt.lmp ∧ t.tx.built = s.tx.built ∧
        (s.sync.frameIndex ≠ 31 → s.sync.state ≠ .learn → t.alloc = s.alloc ∧ t.req = s.req ∧ t.tx = s.tx)) ∧
    (s.sync.state.timerRuns = true → SyncOk s → s.sync.jump = none → ∃ t, exec (.frameStart shifted) s = .next t ∧
      2046 ≤ t.line.frameTicks ∧ t.line.frameTicks ≤ 2050 ∧
      (s.sync.state.drives = true → t.line.frameTicks ≤ 2048) ∧ (s.sync.state = .listen → t.line.frameTicks = 2048))

/-- Frame starts in LISTEN and ACQUIRE. LISTEN frame starts are counted below the listen limit; at the limit a station that
may found enters FOUNDING at frame index 0 of superframe 0, driving its marker, with fresh pending set, its qualifying
edges dropped and SYNC FOUNDED posted; one that may not restarts its count and keeps its record. The 64th frame of ACQUIRE
returns to LISTEN with its record and counts clear; earlier ones are counted (R19, R21, R23, R26). That SYNC FOUNDED is the
first notice of its frame start, ahead of a CLOCK_LOST of the ports, is the model's choice, log entry 9. -/
def Obligations.ListenAndAcquireCountTheirFrames : Prop :=
  ∀ (shifted : List (List Bool)) (s : State), s.resetLow = false →
    (s.sync.state = .listen → s.sync.listenCount + 1 < listenLimit s →
      ∃ t, exec (.frameStart shifted) s = .next t ∧ t.sync.state = .listen ∧
        t.sync.listenCount = s.sync.listenCount + 1 ∧ t.sync.qualEdges = s.sync.qualEdges ∧
        t.sync.qualLead = s.sync.qualLead) ∧
    (s.sync.state = .listen → listenLimit s ≤ s.sync.listenCount + 1 → s.mayFound = true →
      ∃ t, exec (.listenLimitExpiry shifted) s = .next t ∧ t.sync.state = .founding ∧
        t.sync.frameIndex = 0 ∧ t.sync.superframe = 0 ∧ t.sync.freshPending = true ∧ t.sync.edgeMiss = 0 ∧
        t.sync.foreignEarlier = 0 ∧ t.sync.mismatch = 0 ∧ t.sync.qualEdges = 0 ∧ t.sync.qualLead = none ∧
        t.line.drive = .marker ∧ t.lockHigh = false ∧
        (s.mgmt.notices = [] → t.mgmt.notices.head? = some (.sync .founded .founding 0 0)) ∧
        t.alloc = s.alloc ∧ t.peers = s.peers ∧ t.tx = s.tx ∧ t.req = s.req) ∧
    (s.sync.state = .listen → listenLimit s ≤ s.sync.listenCount + 1 → s.mayFound = false →
      let wraps := s.sync.frameIndex = 31
      ∃ t, exec (.listenLimitExpiry shifted) s = .next t ∧
        t.sync = { s.sync with tick := 0, advance := 0, jump := none, listenCount := 0,
                               frameIndex := if wraps then 0 else s.sync.frameIndex + 1
                               superframe := if wraps then s.sync.superframe + 1 else s.sync.superframe } ∧
        t.line.drive = .nothing) ∧
    (s.sync.state = .acquire → s.sync.acquireCount = 63 →
      ∃ t, exec (.acquireTimeout shifted) s = .next t ∧ t.sync.state = .listen ∧
        t.sync.qualEdges = 0 ∧ t.sync.qualLead = none ∧ t.sync.listenCount = 0 ∧ t.sync.edgeMiss = 0 ∧
        t.sync.advance = 0 ∧ t.sync.leading = false) ∧
    (s.sync.state = .acquire → s.sync.acquireCount < 63 →
      ∃ t, exec (.frameStart shifted) s = .next t ∧ t.sync.state = .acquire ∧
        t.sync.acquireCount = s.sync.acquireCount + 1)

/-- The two ways into LOCKED. The 8th boundary of LEARN completes the learn period, and the next frame start locks: LOCK
high, fresh pending, three counts clear, every IDLE source SEEKING, SYNC LOCKED posted. The first boundary in FOUNDING ends
the trial: LOCK high, fresh pending as it was, every IDLE source SEEKING (R24, R27, R115). That SYNC LOCKED is the first
notice of its frame start, ahead of a CLOCK_LOST of the ports, is the model's choice, log entry 9. -/
def Obligations.LearnAndFoundingEndInLocked : Prop :=
  ∀ (shifted : List (List Bool)) (s : State), s.resetLow = false →
    (s.sync.state = .learn → s.sync.learnCount = 7 → s.sync.frameIndex = 31 →
      ∃ t, exec (.learnPeriodComplete shifted) s = .next t ∧ t.sync.state = .learn ∧ t.sync.learnCount = 8 ∧
        t.sync.frameIndex = 0 ∧ t.sync.superframe = s.sync.superframe + 1 ∧ t.line.drive = .nothing) ∧
    (s.sync.state = .learn → s.sync.learnCount = 8 → s.sync.frameIndex < 31 →
      ∃ t, exec (.enterLocked shifted) s = .next t ∧ t.sync.state = .locked ∧ t.lockHigh = true ∧
        t.sync.freshPending = true ∧ t.sync.edgeMiss = 0 ∧ t.sync.foreignEarlier = 0 ∧ t.sync.mismatch = 0 ∧
        t.sync.frameIndex = s.sync.frameIndex + 1 ∧ t.line.drive = .marker ∧
        (∀ (n : Nat) (c : Source), s.sources[n]? = some c → c.state = .idle →
          ∃ c' : Source, t.sources[n]? = some c' ∧ c'.state = .seeking) ∧
        (s.mgmt.notices = [] → t.mgmt.notices.head? =
          some (.sync .locked .locked (s.sync.frameIndex + 1) s.sync.superframe))) ∧
    (s.sync.state = .founding → s.sync.frameIndex = 31 → (∀ e ∈ s.alloc.dir, e.station ≠ s.id) →
      ∃ t, exec (.foundingTrialEnd shifted) s = .next t ∧ t.sync.state = .locked ∧ t.lockHigh = true ∧
        t.sync.freshPending = s.sync.freshPending ∧ t.sync.frameIndex = 0 ∧
        t.sync.superframe = s.sync.superframe + 1 ∧ t.line.drive = .marker ∧
        ∀ (n : Nat) (c : Source), s.sources[n]? = some c → c.state = .idle →
          ∃ c' : Source, t.sources[n]? = some c' ∧ c'.state = .seeking)

/-- At a boundary in LEARN and the states after it every carrier count is cleared, a FREE entry with 4 or more carrier
frames is STRAY and a STRAY entry with none is FREE (R13, R96). -/
def Obligations.BoundaryAppliesTheStrayRule : Prop :=
  ∀ (shifted : List (List Bool)) (s : State), s.resetLow = false → MapOk s → s.sync.state.takesCells = true →
    s.sync.frameIndex = 31 → ∃ t, exec (.frameStart shifted) s = .next t ∧
      ∀ k ∈ runSlots 8 56, (t.slot k).carrier = 0 ∧
        ((s.slot k).use = .free → (t.slot k).use = if 4 ≤ (s.slot k).carrier then .stray else .free) ∧
        ((s.slot k).use = .stray → (t.slot k).use = if (s.slot k).carrier = 0 then .free else .stray)

/-- A peer's PENDING run matures at its boundary: every slot HELD with lease 24, the directory entry ACTIVE, and each UNBOUND
sink of the tag bound to the run, or in MISMATCH with another channel count (R93, R108, R138). -/
def Obligations.PeerClaimsMatureToHeld : Prop :=
  ∀ (tag : Nat) (shifted : List (List Bool)) (e : DirEntry) (p : Nat) (x : Superframe) (s : State),
    s.resetLow = false → MapOk s → s.sync.state.takesCells = true → s.sync.frameIndex = 31 →
    findTag tag s.alloc.dir = some e → e.active = false → e.station ≠ s.id →
    (s.slot e.first).use = .pending e.station tag p x →
    (x = s.sync.superframe + 1 ∨ 3 ≤ (x - (s.sync.superframe + 1)).toNat) →
    ∃ t, exec (.peerClaimMaturity tag shifted) s = .next t ∧
      findTag tag t.alloc.dir = some { e with active := true } ∧
      (∀ k ∈ runSlots e.first e.count, t.slot k = ⟨.held e.station tag e.priority 24, 0⟩) ∧
      ∀ (n : Nat) (c : Sink), s.sinks[n]? = some c → c.cfg.tag = tag → c.state = .unbound →
        (c.cfg.channels = e.count → t.sinks[n]? = some (BoundTo e c)) ∧
        (c.cfg.channels ≠ e.count → t.sinks[n]? = some { c with state := .mismatch, run := none })

/-- The own PENDING run of a CLAIMING source matures at its boundary: every slot OWNED, the entry ACTIVE, the source
OWNED over it with its counts 0 and no last sent frame, a BRIDGE queue cut to its newest 4 frames (R94, R119). -/
def Obligations.OwnClaimsMatureToOwned : Prop :=
  ∀ (n : Nat) (shifted : List (List Bool)) (c : Source) (e : DirEntry) (p : Nat) (x : Superframe) (s : State),
    s.resetLow = false → MapOk s → SourcesOk s → s.sync.state.takesCells = true → s.sync.frameIndex = 31 →
    s.sources[n]? = some c → c.state = .claiming → findTag c.cfg.tag s.alloc.dir = some e → e.active = false →
    e.station = s.id → (s.slot e.first).use = .pending e.station c.cfg.tag p x →
    (x = s.sync.superframe + 1 ∨ 3 ≤ (x - (s.sync.superframe + 1)).toNat) →
    ∃ t c', exec (.ownClaimMaturity n shifted) s = .next t ∧
      findTag c.cfg.tag t.alloc.dir = some { e with active := true } ∧
      (∀ k ∈ runSlots e.first e.count, t.slot k = ⟨.owned e.station c.cfg.tag e.priority, 0⟩) ∧
      t.sources[n]? = some c' ∧ c'.state = .owned ∧ c'.run = some ⟨e.first, e.count⟩ ∧ c'.refresh = 0 ∧
      c'.tally = 0 ∧ c'.slipGuard = 0 ∧ c'.lastSent = none ∧ c'.cfg = c.cfg ∧ c'.muted = c.muted ∧
      (s.clocking c.cfg.port = some .bridge → c'.queue = c.queue.drop (c.queue.length - 4))

/-- The lease of a HELD run at a boundary: at 0 or 1 it lapses, its entry gone and each slot STRAY or FREE by its own
carrier count; above, it counts down and the run stays (R95). -/
def Obligations.LeasesCountDownAndLapse : Prop :=
  ∀ (tag : Nat) (shifted : List (List Bool)) (e : DirEntry) (p l : Nat) (s : State),
    s.resetLow = false → MapOk s → s.sync.state.takesCells = true → s.sync.frameIndex = 31 →
    findTag tag s.alloc.dir = some e → e.active = true → e.station ≠ s.id →
    (s.slot e.first).use = .held e.station tag p l → 0 < e.count →
    (l ≤ 1 → ∃ t, exec (.leaseLapse tag shifted) s = .next t ∧ findTag tag t.alloc.dir = none ∧
      ∀ k ∈ runSlots e.first e.count, t.slot k = ⟨if 4 ≤ (s.slot k).carrier then .stray else .free, 0⟩) ∧
    (1 < l → ∃ t, exec (.frameStart shifted) s = .next t ∧ findTag tag t.alloc.dir = some e ∧
      ∀ k ∈ runSlots e.first e.count, t.slot k = ⟨.held e.station tag e.priority (l - 1), 0⟩)

/-- A source at a boundary. OWNED, its refresh count reaching 8: the count is reset and an OFFER of the source stands in a
queue with room. In BACKOFF, its count reaching 0: it is SEEKING with its CLAIM in a queue with room, and above 1 the count
goes down by one. BLOCKED: SEEKING with its CLAIM posted exactly if the map, as the upkeep leaves it, holds a run of its size
that is FREE, and untouched otherwise. SEEKING or RELEASING with nothing queued: its CLAIM or RELEASE is posted again, with
an item queued nothing is. In LEAVING every such post is refused (R97, R116, R118, R123, R124, R127). -/
def Obligations.RefreshAndBackoffRunOut : Prop :=
  ∀ (n : Nat) (shifted : List (List Bool)) (c : Source) (s : State),
    s.resetLow = false → s.sync.frameIndex = 31 → s.sources[n]? = some c →
    (∀ e ∈ s.alloc.dir, e.station = s.id → e.active = true) →
    (c.state = .owned → c.refresh = 7 → s.sync.state = .locked → s.tx.queue.length + s.sources.length ≤ 16 →
      ∃ t c', exec (.refreshDue n shifted) s = .next t ∧ t.sources[n]? = some c' ∧ c'.state = .owned ∧ c'.refresh = 0 ∧
        c'.tally = 0 ∧ c'.run = c.run ∧ c'.counters = c.counters ∧
        (.offer n false ∈ t.tx.queue ∨ .offer n true ∈ t.tx.queue)) ∧
    (c.state = .backoff → c.backoff = 1 → s.sync.state = .locked → s.tx.queue.length + s.sources.length ≤ 16 →
      ∃ t c', exec (.backoffExpiry n shifted) s = .next t ∧ t.sources[n]? = some c' ∧ c'.state = .seeking ∧
        c'.backoff = 0 ∧ c'.queuedItem = .claim ∧ c'.counters = c.counters ∧ .claim n ∈ t.tx.queue) ∧
    (c.state = .backoff → c.backoff = 1 → s.sync.state = .leaving →
      ∃ t c', exec (.backoffExpiry n shifted) s = .next t ∧ t.sources[n]? = some c' ∧ c'.state = .seeking ∧
        c'.backoff = 0 ∧ c'.queuedItem = .nothing ∧ c'.counters = c.counters) ∧
    (s.sync.state = .locked ∨ s.sync.state = .leaving → s.tx.queue.length + s.sources.length ≤ 16 →
      ∃ t c', exec (.frameStart shifted) s = .next t ∧ t.sources[n]? = some c' ∧
        let more := fun (it : QItem) (k : Nat) => t.tx.queue.count it = s.tx.queue.count it + k
        let posted := fun (it : QItem) => more it (if s.sync.state = .locked then 1 else 0)
        let item := fun (q : QueuedItem) => if s.sync.state = .locked then q else .nothing
        let fits := ∃ f, 8 ≤ f ∧ f + c.cfg.channels ≤ 64 ∧
          ∀ k, f ≤ k → k < f + c.cfg.channels → (t.slot k).use = .free
        let same := { c with collidedNow := false }
        (c.state = .blocked → fits →
          c' = { same with state := .seeking, backoff := 0, queuedItem := item .claim } ∧ posted (.claim n)) ∧
        (c.state = .blocked → ¬fits → c' = same ∧ more (.claim n) 0) ∧
        (c.state = .seeking → c.queuedItem = .nothing →
          c' = { same with queuedItem := item .claim } ∧ posted (.claim n)) ∧
        (c.state = .seeking → c.queuedItem ≠ .nothing →
          c' = same ∧ more (.claim n) 0) ∧
        (∀ run : Run, c.state = .releasing → c.run = some run → c.queuedItem = .nothing →
          c' = { same with queuedItem := item .release } ∧ posted (.release n c.cfg.tag run false)) ∧
        (∀ run : Run, c.state = .releasing → c.run = some run → c.queuedItem ≠ .nothing → c' = same ∧
          more (.release n c.cfg.tag run false) 0) ∧
        (c.state = .backoff → 1 < c.backoff → c' = { same with backoff := c.backoff - 1 } ∧
          more (.claim n) 0))

/-- An AWAITING relay entry whose deadline the boundary reaches, or an adoption has put it out of reach, completes as
TIMEOUT (R173). -/
def Obligations.RelayDeadlineTimesOut : Prop :=
  ∀ (h : Nat) (shifted : List (List Bool)) (r : Relay) (sent : Superframe) (s : State), s.resetLow = false → h < 4 →
    (s.sync.state = .locked ∨ s.sync.state = .leaving) → s.sync.frameIndex = 31 → s.relay h = some r →
    r.phase = .awaiting sent →
    (sent + 4 = s.sync.superframe + 1 ∨ 5 ≤ (sent + 4 - (s.sync.superframe + 1)).toNat) →
    ∃ t, exec (.relayTimeout h shifted) s = .next t ∧
      t.relay h = some { r with phase := .done (some sent) .timeout }

/-- The 64th trunk frame without a strobe makes an ACTIVE BRIDGE port CLOCK_LOST: unprimed, counted, reported, FAULT
high; the count then stays at 64 (R161). -/
def Obligations.ClockWatchLosesThePort : Prop :=
  ∀ (p : Nat) (shifted : List (List Bool)) (q : Port) (cfg : PortConfig) (s : State), s.resetLow = false → p < 4 →
    s.sync.state.timerRuns = true → s.ports[p]? = some q → q.cfg = some cfg → cfg.clocking = .bridge →
    (q.clock = some .active → q.watch = 63 → ∃ t, exec (.clockWatchExpiry p shifted) s = .next t ∧
      t.ports[p]? = some { q with clock := some .lost, watch := 64, primed := false,
                                  clockLosses := bump q.clockLosses } ∧ t.faultHigh = true ∧
      (s.mgmt.notices = [] → .fault (.clockLost p t.sync.superframe) ∈ t.mgmt.notices)) ∧
    (q.clock = some .active → q.watch < 63 → ∃ t, exec (.frameStart shifted) s = .next t ∧
      t.ports[p]? = some { q with watch := q.watch + 1 }) ∧
    (q.clock = some .lost → ∃ t, exec (.frameStart shifted) s = .next t ∧ t.ports[p]? = some q)

/-- A FOLLOW port at a frame start: primed; an IN port that was primed delivers the frame shifted in, its lanes 24 bits each
from lane 0 on, most significant bit first, into the one-frame queue of each CLAIMING or OWNED source, and any other source
takes nothing; an unprimed one delivers nothing, nor does the frame of an alignment jump that cut the bits short, which
counts a short frame; the sink of an OUT port plays by the first row that applies and every other lane is zero (R129, R145,
R147, R155, R157, R159, R160; when the bits of a jump frame end is the free value of log entry 8). That the guard count
of a FOLLOW sink goes up at each play is the model's choice, log entry 20. -/
def Obligations.FollowPortsMakeAPortFrame : Prop :=
  ∀ (p : Nat) (shifted : List (List Bool)) (bits : List Bool) (q : Port) (dir : Direction) (s : State),
    s.resetLow = false → p < 4 → s.sync.state.timerRuns = true → s.sync.frameIndex ≠ 31 → s.sync.state ≠ .learn →
    s.ports[p]? = some q → q.cfg = some ⟨dir, .follow⟩ → shifted[p]? = some bits → bits.length = 192 →
    let short := ∃ length, s.sync.jump = some length ∧ length < 2046 ∧ length < Config.followBitTicks
    ∃ (t : State) (q' : Port), exec (.frameStart shifted) s = .next t ∧ t.ports[p]? = some q' ∧ q'.primed = true ∧
      q'.cfg = q.cfg ∧ q'.clock = q.clock ∧ q'.watch = q.watch ∧ q'.clockLosses = q.clockLosses ∧
      (q.primed = true → short → q'.shortFrames = bump q.shortFrames) ∧
      (q.primed = false ∨ ¬short → q'.shortFrames = q.shortFrames) ∧
      (dir = .input → q'.lanesOut = q.lanesOut ∧ ∀ (n : Nat) (c : Source), s.sources[n]? = some c → c.cfg.port = p →
        (q.primed = true → ¬short → c.state = .claiming ∨ c.state = .owned → c.cfg.firstLane + c.cfg.channels ≤ 8 →
          t.sources[n]? = some { c with
            collidedNow := false
            queue := [(List.range c.cfg.channels).map (fun j =>
              BitVec.ofNat 24 (natOf ((bits.drop (24 * (c.cfg.firstLane + j))).take 24)))] }) ∧
        (q.primed = false ∨ short ∨ (c.state ≠ .claiming ∧ c.state ≠ .owned) →
          t.sources[n]? = some { c with collidedNow := false })) ∧
      (dir = .output → (∀ x ∈ s.sinks, x.cfg.port ≠ p) → q'.lanesOut = List.replicate 8 0) ∧
      (dir = .output → ∀ (n : Nat) (c c' : Sink) (played : List Sample), s.sinks[n]? = some c → c.cfg.port = p →
        c.cfg.firstLane + c.cfg.channels ≤ 8 → played.length = c.cfg.channels →
        (∀ (m : Nat) (d : Sink), s.sinks[m]? = some d → d.cfg.port = p → m = n) → PlayRow false c played c' →
        let zeros := fun k => List.replicate k (0 : Sample)
        (c.state = .running → t.sinks[n]? = some c' ∧ q'.lanesOut = zeros c.cfg.firstLane ++
          ((if c.muted = true then zeros c.cfg.channels else played) ++
            zeros (8 - c.cfg.firstLane - c.cfg.channels))) ∧
        (c.state ≠ .running → t.sinks[n]? = some c ∧ q'.lanesOut = zeros 8))

/-! ### Marker reports -/

/-- The report in LISTEN: an empty one clears the record; a first edge within 8 ticks of the last adds one, another
begins anew; the third qualifying edge, of lead b, sets the tick count to 1023 + b and enters ACQUIRE with its counts clear
and the position kept, no further report being made in the jump frame, which ends at tick 2047 after 2048 - b ticks (R20;
log entry 11 for the record after the jump). -/
def Obligations.ListenReportsQualifyAndJump : Prop :=
  ∀ (line : OnLine LineTicks) (s : State), s.resetLow = false → s.sync.state = .listen → s.sync.jump = none →
    let recorded := fun (edges : Nat) (lead : Option Int) =>
      { s with sync := { s.sync with tick := 1023, qualEdges := edges, qualLead := lead } }
    (reportLeads line s = [] → exec (.markerReport line) s = .next (recorded 0 none)) ∧
    ∀ (b : Int) (later : List Int), reportLeads line s = b :: later →
      (s.sync.qualLead = none → exec (.markerReport line) s = .next (recorded 1 (some b))) ∧
      ∀ p : Int, s.sync.qualLead = some p →
        (b - p < -8 ∨ 8 < b - p → exec (.markerReport line) s = .next (recorded 1 (some b))) ∧
        (-8 ≤ b - p → b - p ≤ 8 → s.sync.qualEdges = 1 → exec (.markerReport line) s = .next (recorded 2 (some b))) ∧
        (-8 ≤ b - p → b - p ≤ 8 → s.sync.qualEdges = 2 → b ≤ 1024 →
          ∃ t, exec (.markerReport line) s = .next t ∧ t.sync.state = .acquire ∧ (t.sync.tick : Int) = 1023 + b ∧
            t.sync.advance = 0 ∧ t.sync.acquireCount = 0 ∧ t.sync.edgeMiss = 0 ∧
            t.sync.frameIndex = s.sync.frameIndex ∧ t.sync.superframe = s.sync.superframe ∧
            { t with sync := s.sync } = s ∧ (∀ again, exec (.markerReport again) t = .next t) ∧
            ∀ shifted, ∃ u, exec (.frameStart shifted) t = .next u ∧ (u.line.frameTicks : Int) = 2048 - b)

/-- The report in ACQUIRE, LEARN and MUTE: the first edge within 48 ticks is followed by at most 2 ticks; without one the
advance is 0 and the miss is counted, and the third miss returns ACQUIRE to LISTEN, tears LEARN down with MARKERS_LOST,
and leaves MUTE at 3 (R22; that the count goes on from ACQUIRE into LEARN is log entry 35). -/
def Obligations.SlewReportFollowsTheTrackingEdge : Prop :=
  ∀ (line : OnLine LineTicks) (leads : List Int) (s : State), s.resetLow = false → s.sync.jump = none →
    reportLeads line s = leads → (s.sync.state = .acquire ∨ s.sync.state = .learn ∨ s.sync.state = .mute) →
    (∀ (front later : List Int) (b : Int), leads = front ++ b :: later → (∀ a ∈ front, a < -48 ∨ 48 < a) → -48 ≤ b →
      b ≤ 48 → exec (.markerReport line) s = .next { s with sync := { s.sync with
        tick := 1023, edgeMiss := 0, advance := if b < -2 then -2 else if 2 < b then 2 else b } }) ∧
    ((∀ a ∈ leads, a < -48 ∨ 48 < a) →
      (s.sync.edgeMiss < 2 → exec (.markerReport line) s = .next { s with sync := { s.sync with
        tick := 1023, advance := 0, edgeMiss := s.sync.edgeMiss + 1 } }) ∧
      (s.sync.edgeMiss = 2 ∨ s.sync.edgeMiss = 3 →
        (s.sync.state = .acquire → ∃ t, exec (.edgeMissLimit line) s = .next t ∧ t.sync.state = .listen ∧
          t.sync.edgeMiss = 0 ∧ t.sync.listenCount = 0 ∧ { t with sync := s.sync } = s) ∧
        (s.sync.state = .learn → ∃ t, exec (.edgeMissLimit line) s = .next t ∧ TornDown s t ∧
          (s.mgmt.notices = [] → t.mgmt.notices.head? = some (.sync .markersLost .listen 0 0))) ∧
        (s.sync.state = .mute → exec (.edgeMissLimit line) s = .next { s with sync := { s.sync with
          tick := 1023, advance := 0, edgeMiss := 3 } })))

/-- The report while driving sets the leading flag, the advance and the two counts from its first edge, and counts its
foreign-later edges (R18, R28, R29, R30). -/
def Obligations.DriveReportTracksTheFirstEdge : Prop :=
  ∀ (line : OnLine LineTicks) (leads : List Int) (s : State), s.resetLow = false → s.sync.jump = none →
    s.sync.state.drives = true → reportLeads line s = leads →
    let counted := min (s.sync.counters.foreignLater + leads.countP (fun b => decide (b ≤ -49))) 65535
    (∀ (d : Int) (later : List Int), leads = d :: later → d < 49 → s.sync.foreignEarlier < 2 →
      exec (.markerReport line) s = .next { s with sync := { s.sync with
        tick := 1023, leading := decide (d = 0), edgeMiss := 0, foreignEarlier := 0,
        advance := if d < 0 then 0 else if d ≤ 2 then d else 2,
        counters := { s.sync.counters with foreignLater := counted } } }) ∧
    (∀ (d : Int) (later : List Int), leads = d :: later → 49 ≤ d → s.sync.foreignEarlier = 0 →
      exec (.markerReport line) s = .next { s with sync := { s.sync with
        tick := 1023, leading := false, edgeMiss := 0, foreignEarlier := 1, advance := 0,
        counters := { s.sync.counters with foreignLater := counted } } }) ∧
    (leads = [] → s.sync.edgeMiss < 3 → s.sync.counters.foreignLater ≤ 65535 →
      exec (.markerReport line) s = .next { s with sync := { s.sync with
        tick := 1023, leading := false, edgeMiss := s.sync.edgeMiss + 1, foreignEarlier := 0, advance := 0 } })

/-- The second foreign-earlier frame in a row yields: counted, full teardown, SYNC YIELDED. The fourth report in a row
without an edge while driving is a line fault: counted, full teardown, FAULT LINE_FAULT posted, and the FAULT line not
asserted for it (R28, R30, R39). -/
def Obligations.YieldAndLineFaultTearDown : Prop :=
  ∀ (line : OnLine LineTicks) (s : State), s.resetLow = false → s.sync.jump = none → s.sync.state.drives = true →
    (∀ (d : Int) (later : List Int), reportLeads line s = d :: later → 49 ≤ d → s.sync.foreignEarlier = 1 →
      ∃ t, exec (.yieldTrunk line) s = .next t ∧ TornDown s t ∧
        t.sync.counters.yields = bump s.sync.counters.yields ∧
        (s.mgmt.notices = [] → t.mgmt.notices.head? = some (.sync .yielded .listen 0 0))) ∧
    (reportLeads line s = [] → s.sync.edgeMiss = 3 → ∃ t, exec (.lineFault line) s = .next t ∧ TornDown s t ∧
      t.sync.counters.lineFaults = bump s.sync.counters.lineFaults ∧
      (s.mgmt.notices = [] → t.mgmt.notices.head? = some (.fault .lineFault)) ∧
      (t.faultHigh = true ↔ ∃ q ∈ s.ports, q.clock = some .lost))

/-- The marker edges of a report of a station that drives nothing in slot 32. With nothing else on a sound line it hears its
own marker, if it drives one, with lead 0, and on a failed line nothing; a foreign marker that begins `lead - before` ticks
ahead of the frame start is reported with that lead if it lies from -1023 to the range's end, and the own marker beside it
when a recessive tick parts them; when they meet they are one run, and its first tick is the edge, as it is for any number of
dominant ticks of others just ahead of the own marker. A word of the station's own ends recessive and leaves lead 0 (R3, R5,
R30, R189; that fewer than 32 ticks ahead of the own marker move its edge is log entry 41, that edges of lead 1025 and 1026
belong to the report log entry 29). -/
def Obligations.MarkersOnTheLineAreReported : Prop :=
  ∀ (lead before rest : Nat) (s : State), (∀ w ∈ s.line.handed, w.slot ≠ 32) →
    (∀ c ∈ s.sources, ∀ r, c.run = some r → r.first ≠ 32) →
    0 ≤ s.line.reportFrom → lead ≤ before + rest →
    let own : Driven := ⟨0, List.replicate 32 true⟩
    let quiet : LineTicks := ⟨lead, List.replicate (before + 32 + rest) false⟩
    let marked : LineTicks :=
      ⟨lead, List.replicate before false ++ (List.replicate 32 true ++ List.replicate rest false)⟩
    let b : Int := (lead : Int) - before
    let reported := fun edges : List Int => edges.filter (fun x => decide (-1023 ≤ x) && decide (x ≤ s.line.reportFrom))
    let stub := fun n : Nat => OnLine.sound (⟨lead + n,
      List.replicate lead false ++ (List.replicate n true ++ List.replicate (32 + rest) false)⟩ : LineTicks)
    reportLeads (.failed quiet) s = [] ∧ reportLeads (.failed marked) s = reported [b] ∧
    (s.line.driven = [] → reportLeads (.sound quiet) s = [] ∧ reportLeads (.sound marked) s = reported [b] ∧
      ∀ n, n < 32 → reportLeads (stub n) s = []) ∧
    (s.line.driven = [own] → reportLeads (.sound quiet) s = [0] ∧
      (33 ≤ b → reportLeads (.sound marked) s = reported [b, 0]) ∧
      (0 < b → b ≤ 32 → reportLeads (.sound marked) s = reported [b]) ∧
      (-32 ≤ b → b ≤ 0 → reportLeads (.sound marked) s = [0]) ∧
      (b ≤ -33 → reportLeads (.sound marked) s = reported [0, b]) ∧
      ∀ n : Nat, reportLeads (stub n) s = reported [(n : Int)]) ∧
    ∀ word : List Bool, word.length < 32 → s.line.driven = [⟨-(word.length + 1), word ++ [false]⟩, own] →
      reportLeads (.sound quiet) s = [0]

/-! ### Data slots -/

/-- The data word's layout and its check, the classification a receiver makes of it, and the marker (R9, R189). -/
def Obligations.DataWordsCarryTheirSlotCheck : Prop :=
  (∀ (t n : Nat) (rest : List Bool), 32 ≤ n →
    markerEdges t 0 (List.replicate n true ++ false :: rest) = t :: markerEdges (t + n + 1) 0 rest) ∧
  (∀ (t n : Nat) (rest : List Bool), n < 32 →
    markerEdges t 0 (List.replicate n true ++ false :: rest) = markerEdges (t + n + 1) 0 rest) ∧
  Drive.ticks .marker = List.replicate 32 true ∧
  (∀ (k n : Nat) (x : Sample) (v : Bool), 8 ≤ k → k ≤ 63 →
    let w := dataWord k x v
    let sum := (x.extractLsb' 16 8).toNat + (x.extractLsb' 8 8).toNat + (x.extractLsb' 0 8).toNat +
      (if v = true then 1 else 0) + k
    Drive.ticks (.data k n x v) = bitsOf 32 w.toNat ∧ w.extractLsb' 8 24 = x ∧ w.getLsbD 7 = v ∧
    (w.extractLsb' 0 7).toNat = 2 * (1 + sum % 63) ∧ 2 ≤ (w.extractLsb' 0 7).toNat ∧
    (w.extractLsb' 0 7).toNat ≤ 126 ∧ w ≠ 0 ∧ w.getLsbD 0 = false ∧ markerEdges 0 0 (bitsOf 32 w.toNat) = [] ∧
    (∀ u : SlotWindow, classifySlot k u = .good x v ↔ u = w) ∧
    (∀ j, 8 ≤ j → j ≤ 63 → j ≠ k → classifySlot j w = .damaged)) ∧
  (∀ (k : Nat) (u : SlotWindow), classifySlot k u = .silent ↔ u = 0) ∧
  (dataWord 40 (-1) true).extractLsb' 0 7 = 102

/-- The start of data slot k. An OWNED source whose run begins there makes its take by the first row that applies; its
first word is driven, with the valid flag clear for an underrun or a muted source, and the others wait for their slots
(R8, R120, R129, R130). A RESEEK that meets the take and is taken after it leaves the take as it is and its words undriven,
the source being RELEASING (R132; log entry 40 for how it is told). With no take, of the words that wait for slot k the one
whose source and slot are OWNED is driven while the state drives, any other is discarded, and with none the slot is left
recessive (R4, R8). -/
def Obligations.DataSlotStartTakesAndDrives : Prop :=
  ∀ (k : Nat) (s : State), s.resetLow = false → 8 ≤ k → k ≤ 63 →
    (∀ (n : Nat) (c c' : Source) (r : Run) (fr : Option (List Sample)), s.sync.state = .locked ∨ s.sync.state = .leaving →
      s.sources[n]? = some c → c.state = .owned → c.run = some r → r.first = k → 0 < r.count →
      (∃ h p, (s.slot k).use = .owned h c.cfg.tag p) → (∀ w ∈ s.line.handed, w.slot ≠ k) →
      (∀ (m : Nat) (d : Source) (q : Run), s.sources[m]? = some d → d.state = .owned → d.run = some q → q.first = k →
        m = n) → TakeRow (decide (s.clocking c.cfg.port = some .bridge)) c fr c' →
      let x := (fr.getD []).getD 0 0
      let valid := fr.isSome && !c.muted
      (∃ t, exec (.dataSlotStart ⟨k, none⟩) s = .next t ∧ t.sources = s.sources.set n c' ∧
        t.line = { s.line with
          drive := .data k n x valid
          driven := s.line.driven ++ [⟨32 * k, bitsOf 32 (dataWord k x valid).toNat⟩]
          handed := s.line.handed ++ (List.range (r.count - 1)).map (fun j =>
            ⟨k + (j + 1), n, (fr.getD []).getD (j + 1) 0, valid⟩) } ∧
        t.alloc = s.alloc ∧ t.sinks = s.sinks ∧ t.ports = s.ports ∧ t.tx = s.tx ∧ t.req = s.req ∧ t.mgmt = s.mgmt ∧
        t.peers = s.peers ∧ t.sync = { s.sync with tick := 32 * k }) ∧
      (∀ i : Byte, i.toNat = n → n ≤ 63 → ∃ t c'', exec (.dataSlotStart ⟨k, some (0x0A, i)⟩) s = .next t ∧
        t.line.drive = .nothing ∧ t.line.driven = s.line.driven ∧ t.sources[n]? = some c'' ∧ c''.state = .releasing ∧
        c''.queue = [] ∧ c''.run = some r ∧ c''.counters = c'.counters ∧
        t.mgmt.lmp = some ⟨[0x00, 0x00], .nothing⟩)) ∧
    ((∀ (m : Nat) (d : Source) (q : Run), s.sources[m]? = some d → d.run = some q → q.first = k → d.state ≠ .owned) →
      s.sync.state.timerRuns = true →
      let goes := fun w : HandedWord => w.slot = k ∧ s.sync.state.drives = true ∧ ∃ c : Source,
        s.sources[w.source]? = some c ∧ c.state = .owned ∧ ∃ h p, (s.slot k).use = .owned h c.cfg.tag p
      let left := s.line.handed.filter (fun w => w.slot != k)
      (∀ (front later : List HandedWord) (w : HandedWord), s.line.handed = front ++ w :: later →
        (∀ v ∈ front, ¬goes v) → goes w →
        exec (.dataSlotStart ⟨k, none⟩) s = .next { s with
          sync := { s.sync with tick := 32 * k }
          line := { s.line with
            drive := .data k w.source w.sample w.valid, handed := left
            driven := s.line.driven ++ [⟨32 * k, bitsOf 32 (dataWord k w.sample w.valid).toNat⟩] } }) ∧
      ((∀ w ∈ s.line.handed, ¬goes w) →
        exec (.dataSlotStart ⟨k, none⟩) s = .next { s with
          sync := { s.sync with tick := 32 * k }
          line := { s.line with drive := .nothing, handed := left } }))

/-- What data slot k receives and what its end does. On a sound line each tick is dominant if the others or the own word
drive it so, so that a driven slot is never SILENT; on a failed line only what is heard counts; the window is classified by
its check alone (R3, R9, R189; log entry 34 for a marker's tail that passes it). At its end carrier counts, in the states
that keep it, for any window that is not silent, whoever drove the slot, and for no other; slot 63 ends with its frame;
nothing is driven any more; a source whose word came back whole, or that drove nothing, is not touched (R12, R13, R16). -/
def Obligations.DataSlotReceivedCountsCarrier : Prop :=
  ∀ (k : Nat) (line : OnLine SlotWindow) (s : State), s.resetLow = false → 8 ≤ k → k ≤ 63 →
    let w := receivedSlot k line s
    let counts := s.sync.state.takesCells = true ∧ w ≠ 0
    (∀ heard, line = .failed heard → w = heard) ∧
    (∀ others, line = .sound others →
      (∀ n x v, s.line.drive = .data k n x v → w = others ||| dataWord k x v ∧ slotClass k line s ≠ .silent) ∧
      ((∀ n x v, s.line.drive ≠ .data k n x v) → w = others)) ∧
    slotClass k line s = classifySlot k w ∧
    (s.sync.state.timerRuns = true → s.alloc.slots.length = 56 →
      ∃ t, exec (.dataSlotReceived k line) s = .next t ∧ t.line = { s.line with drive := .nothing } ∧
      t.alloc.dir = s.alloc.dir ∧ t.alloc.counters = s.alloc.counters ∧ t.peers = s.peers ∧ t.ports = s.ports ∧
      t.rx = s.rx ∧ t.loader = s.loader ∧
      t.sync = { s.sync with tick := if k = 63 then (2047 - s.sync.advance).toNat else 32 * k + 31 } ∧
      (∀ (n : Nat) (c : Sink), s.sinks[n]? = some c → (∀ r, c.run = some r → inRun r.first r.count k = false) →
        t.sinks[n]? = some c) ∧
      (∀ j, 8 ≤ j → j ≤ 63 → j ≠ k → t.slot j = s.slot j) ∧ (t.slot k).use = (s.slot k).use ∧
      (counts → (t.slot k).carrier = min ((s.slot k).carrier + 1) 32) ∧
      (¬counts → (t.slot k).carrier = (s.slot k).carrier) ∧
      ((∀ j n x v, s.line.drive = .data j n x v → j = k → slotClass k line s = .good x v) →
        t.sources = s.sources ∧ t.tx = s.tx ∧ t.req = s.req))

/-- The readback of a driven word that came back otherwise than GOOD with its sample and flag: the first of a frame raises
the collision tally and counter, later ones change nothing, and a tally that reaches 16 forces a release, with the run
kept, the queue emptied, SOURCE COLLIDED reported and the RELEASE posted to a queue with room, or refused in LEAVING (R12,
R49, R121, R123, R127). That a window left SILENT by a line failure is one of these is the model's choice, log entry 33;
that the last sent frame and the slip guard count are kept, log entry 30; that SOURCE COLLIDED is the first notice of its slot's
end, ahead of the SINK notices of captures completed there, log entry 42. -/
def Obligations.DamagedReadbacksForceARelease : Prop :=
  ∀ (k n : Nat) (line : OnLine SlotWindow) (x : Sample) (v : Bool) (c : Source) (r : Run) (s : State),
    s.resetLow = false → 8 ≤ k → k ≤ 63 → s.sync.state = .locked ∨ s.sync.state = .leaving →
    s.line.drive = .data k n x v → slotClass k line s ≠ .good x v →
    s.sources[n]? = some c → c.state = .owned → c.run = some r →
    let collided := { c.counters with collisions := bump c.counters.collisions }
    let released := fun q : QueuedItem => s.sources.set n { c with
      state := .releasing, queue := [], tally := 0, refresh := 0, queuedItem := q, collidedNow := true,
      counters := collided }
    (c.collidedNow = true →
      ∃ t, exec (.dataSlotReceived k line) s = .next t ∧ t.sources = s.sources ∧ t.tx = s.tx) ∧
    (c.collidedNow = false → c.tally < 15 →
      ∃ t, exec (.dataSlotReceived k line) s = .next t ∧ t.tx = s.tx ∧ t.req = s.req ∧
        t.sources = s.sources.set n { c with collidedNow := true, tally := c.tally + 1, counters := collided }) ∧
    (c.collidedNow = false → 15 ≤ c.tally → ∃ t, exec (.forcedRelease k line) s = .next t ∧
      (s.mgmt.notices = [] → s.sync.state = .leaving ∨ s.tx.queue.length < 16 →
        t.mgmt.notices.head? = some (.source n c.cfg.tag (.collided r))) ∧
      (s.sync.state = .locked → s.tx.queue.length < 16 → t.sources = released .release ∧
        t.tx = { s.tx with queue := s.tx.queue ++ [.release n c.cfg.tag r false] } ∧ t.req = s.req) ∧
      (s.sync.state = .leaving → t.sources = released .nothing ∧ t.tx = s.tx ∧ t.req = s.req))

/-- The capture a sink completes at the last slot of its run, by the table: pushed in FILLING and RUNNING with the gap and
silence counts kept, ending FILLING at the target depth; starved at the 64th all-silent one in a row; in STARVED discarded
if all-silent, else resuming into FILLING at level 1. The channel of the slot is marked by its class, and DAMAGED if the
station drove the slot and its word did not come back whole (R12, R140 to R144, R153; log entry 33 for a driven slot that a
failed line leaves SILENT). -/
def Obligations.CapturesFollowTheTable : Prop :=
  ∀ (k n : Nat) (line : OnLine SlotWindow) (c : Sink) (r : Run) (front marks : List Mark) (last : Mark) (s : State),
    s.resetLow = false → 8 ≤ k → k ≤ 63 → s.sync.state.timerRuns = true → s.sinks[n]? = some c → s.sinks.length ≤ 8 → c.run = some r →
    0 < r.count → k + 1 = r.first + r.count → front.length + 1 = r.count → front = [] ∨ c.capture = some front →
    let returned := slotClass k line s
    let spoilt := ∃ m x v, s.line.drive = .data k m x v ∧ returned ≠ .good x v
    (spoilt → last = .damaged) → (¬spoilt → last = match returned with
      | .good x true => .good x
      | .good _ false => .invalid
      | .silent => .silent
      | .damaged => .damaged) →
    marks = front ++ [last] →
    let silent := ∀ m ∈ marks, m = .silent
    let gaps := if (∀ m ∈ marks, m.isGood = true) then c.counters.gaps else bump c.counters.gaps
    ((c.state = .filling ∨ c.state = .running) → ¬(silent ∧ 63 ≤ c.silentRun) →
      ∃ t c', exec (.dataSlotReceived k line) s = .next t ∧ t.sinks[n]? = some c' ∧ c'.run = c.run ∧ c'.capture = none ∧
        c'.queue = (if c.queue.length < 16 then c.queue ++ [marks] else c.queue.tail ++ [marks]) ∧
        (silent → c'.silentRun = c.silentRun + 1) ∧ (¬silent → c'.silentRun = 0) ∧ c'.lastGood = c.lastGood ∧
        c'.counters = { c.counters with
          gaps := gaps, overflows := if c.queue.length < 16 then c.counters.overflows else bump c.counters.overflows } ∧
        (c.state = .filling → c.cfg.target ≤ c'.queue.length → c'.state = .running ∧ c'.slipGuard = 0 ∧
          c'.lastOutput = none ∧
          (s.mgmt.notices = [] → .sink n c.cfg.tag (.running r c.cfg.target) ∈ t.mgmt.notices)) ∧
        (c.state = .running ∨ c'.queue.length < c.cfg.target → c'.state = c.state ∧ c'.slipGuard = c.slipGuard ∧
          c'.lastOutput = c.lastOutput)) ∧
    ((c.state = .filling ∨ c.state = .running) → silent → 63 ≤ c.silentRun →
      ∃ t, exec (.sinkStarved k line) s = .next t ∧
        t.sinks[n]? = some { c with
          state := .starved, capture := none, silentRun := 64, queue := [], lastOutput := none,
          counters := { c.counters with gaps := bump c.counters.gaps } } ∧
        (s.mgmt.notices = [] → .sink n c.cfg.tag (.starved r) ∈ t.mgmt.notices)) ∧
    (c.state = .starved → silent →
      ∃ t, exec (.dataSlotReceived k line) s = .next t ∧ t.sinks[n]? = some { c with capture := none }) ∧
    (c.state = .starved → ¬silent →
      ∃ t, exec (.dataSlotReceived k line) s = .next t ∧
        t.sinks[n]? = some { c with
          state := .filling, capture := none, queue := [marks], silentRun := 0, slipGuard := 0,
          lastGood := List.replicate c.cfg.channels 0, counters := { c.counters with gaps := gaps } } ∧
        (s.mgmt.notices = [] → .sink n c.cfg.tag (.resumed r) ∈ t.mgmt.notices))

/-! ### Cells -/

/-- The build in the own frame of a driving station: at most three items placed, all from the queue, in the cell the
header of which is the station's position; that cell is driven. A lone CLAIM takes the lowest run of FREE slots, and its
source is BLOCKED where none fits (R53 to R55, R118, R190). -/
def Obligations.BuildOwnCellPlacesFromTheQueue : Prop :=
  ∀ s : State, s.resetLow = false → s.sync.state.drives = true → s.sync.frameIndex = s.id →
    ∃ (t : State) (b : Built) (cell : Cell), exec .buildOwnCell s = .next t ∧ t.tx.built = some b ∧
      b.superframe = s.sync.superframe ∧ b.fresh = s.sync.freshPending ∧ b.placed.length ≤ 3 ∧
      cell.sender = s.id ∧ cell.superframe = s.sync.superframe ∧ cell.count = b.placed.length ∧
      cell.fresh = s.sync.freshPending ∧ cell.items.length = 3 ∧
      (∀ i, i < 3 → cell.item i = ((b.placed.map Placed.bits).getD i 0)) ∧
      t.line = { s.line with
        drive := .cell (encodeCell cell), ownCell := some cell
        driven := s.line.driven ++ [⟨32, bitsOf 224 (encodeCell cell).toNat⟩] } ∧
      (∀ p ∈ b.placed, p.item ∈ s.tx.queue) ∧ t.tx.queue.Sublist s.tx.queue ∧ t.tx.cellsSent = s.tx.cellsSent ∧
      t.sync = { s.sync with tick := 32 } ∧ t.alloc = s.alloc ∧ t.sinks = s.sinks ∧ t.req = s.req ∧ t.peers = s.peers ∧
      (∀ (n : Nat) (c : Source), s.tx.queue = [.claim n] → s.sources[n]? = some c → c.cfg.channels ≤ 8 →
        let free := fun f => ∀ k ∈ runSlots f c.cfg.channels, (s.slot k).use = .free
        (∀ f, 8 ≤ f → f + c.cfg.channels ≤ 64 → free f → (∀ g, 8 ≤ g → g < f → ¬free g) →
          b.placed = [⟨.claim n, some ⟨f, c.cfg.channels⟩, (Item.claim c.cfg.tag f c.cfg.channels c.cfg.priority).bits⟩] ∧
          t.tx.queue = [] ∧ t.sources = s.sources.set n { c with queuedItem := .nothing }) ∧
        ((∀ f, 8 ≤ f → f + c.cfg.channels ≤ 64 → ¬free f) →
          b.placed = [] ∧ t.tx.queue = [] ∧
          t.sources = s.sources.set n { c with state := .blocked, queuedItem := .nothing } ∧
          (s.mgmt.notices = [] → t.mgmt.notices = [.source n c.cfg.tag .blocked])))

/-- Which queued items a build places, and in what order. Outside LEAVING it goes class by class from 0 to 5, within a class
from the oldest: what it places stands in that order, what it does not reach stays queued, and with fewer than three placed
nothing stays. Items that all pass are placed until three are, whatever the queue holds; one that fails its check alone in
the queue is removed and takes no position. In LEAVING up to two of the oldest ANSWERs go ahead of the LEAVE. The classes
are those of R48's table (R48, R54, R56). -/
def Obligations.BuildsConsiderTheClassesInOrder : Prop :=
  (∀ (n h q x i tag : Nat) (st : AnswerStatus) (code : Code) (v : Payload) (run : Run) (stale : Bool) (sub : Subject)
    (a : Action),
    itemClass (.answer x q st code v) = 0 ∧ itemClass .leave = 1 ∧ itemClass (.offer n true) = 1 ∧
    itemClass (.release n tag run stale) = 2 ∧ itemClass (.probe h q x sub i) = 3 ∧ itemClass (.command h q x a i) = 3 ∧
    itemClass (.claim n) = 4 ∧ itemClass (.offer n false) = 5) ∧
  ∀ s : State, s.resetLow = false → s.sync.state.drives = true → s.sync.frameIndex = s.id →
    let order := (List.range 6).flatMap (fun c => s.tx.queue.filter (fun it => itemClass it == c))
    ∃ (t : State) (b : Built), exec .buildOwnCell s = .next t ∧ t.tx.built = some b ∧
      (.leave ∉ s.tx.queue →
        (b.placed.map Placed.item).Sublist order ∧
        (b.placed.length < 3 → t.tx.queue = []) ∧
        ((∀ it ∈ s.tx.queue, Placeable s it) →
          b.placed.map Placed.item = order.take 3 ∧ t.tx.queue.Perm (order.drop 3)) ∧
        (∀ it, s.tx.queue = [it] → ¬Placeable s it → (∀ n, it ≠ .claim n) → b.placed = [] ∧ t.tx.queue = [])) ∧
      (s.sync.state = .leaving → .leave ∈ s.tx.queue →
        b.placed.map Placed.item = (s.tx.queue.filter QItem.isAnswer).take 2 ++ [.leave])

/-- A new item and the outgoing queue. An OFFER of a source whose OFFER waits replaces it in its place, its objection flag
set if either sets it; any other item joins the tail of a queue with room; in a full one it takes the place of the newest item
of the worst class if its own is better, that item going back to its owner, and is itself dropped otherwise, the loss being
counted (R50, R51, R52, R59). -/
def Obligations.QueueReplacesEvictsAndDrops : Prop :=
  ∀ (it : QItem) (s : State), s.sync.state = .founding ∨ s.sync.state = .locked →
    let fresh := ∀ (n : Nat) (o : Bool), it = .offer n o → ∀ p, .offer n p ∉ s.tx.queue
    (∀ (n : Nat) (old flag : Bool) (front back : List QItem), it = .offer n flag →
      s.tx.queue = front ++ .offer n old :: back → (∀ p, .offer n p ∉ front ++ back) →
      post it s = { s with tx := { s.tx with queue := front ++ .offer n (old || flag) :: back } }) ∧
    (fresh → s.tx.queue.length < 16 → (post it s).tx = { s.tx with queue := s.tx.queue ++ [it] } ∧
      (post it s).req = s.req ∧ (post it s).mgmt = s.mgmt) ∧
    (∀ (front back : List QItem) (old : QItem), fresh → s.tx.queue = front ++ old :: back →
      s.tx.queue.length = 16 → old ≠ .leave → (∀ x ∈ s.tx.queue, itemClass x ≤ itemClass old) →
      (∀ x ∈ back, itemClass x < itemClass old ∨ x = .leave) → itemClass it < itemClass old →
      (post it s).tx.queue = front ++ back ++ [it] ∧
      (post it s).tx.fullQueueLosses = bump s.tx.fullQueueLosses ∧
      (post it s).tx.lostAnswers = s.tx.lostAnswers ∧
      (∀ (m : Nat) (c : Source), it.isAnswer = true → (old = .claim m ∨ ∃ tag r, old = .release m tag r false) →
        s.sources[m]? = some c → (post it s).sources = s.sources.set m { c with queuedItem := .nothing }) ∧
      (∀ (h q : Nat) (r : Relay), it.isAnswer = true →
        (∃ x sub i, old = .probe h q x sub i) ∨ (∃ x act i, old = .command h q x act i) → h < 4 →
        s.relay h = some r → r.reqNo = q → r.phase = .queued →
        (post it s).relay h = some { r with phase := .done none .dropped })) ∧
    (fresh → s.tx.queue.length = 16 → (∀ x ∈ s.tx.queue, itemClass x ≤ itemClass it) →
      (post it s).tx.queue = s.tx.queue ∧ (post it s).tx.fullQueueLosses = bump s.tx.fullQueueLosses ∧
      (post it s).tx.lostAnswers = (if it.isAnswer = true then bump s.tx.lostAnswers else s.tx.lostAnswers))

/-- The sent event, item by item: the cell is counted and a fresh cell clears fresh pending; a CLAIM makes its run PENDING
to the superframe two on and its source CLAIMING; a RELEASE frees the run and sends the source to BACKOFF; a relay's item
sets its entry AWAITING; the LEAVE ends LEAVING in full teardown with SYNC LEFT. A CLAIM whose tag a lower id holds is not
recorded and makes its source CLASHED, with FAULT high; two of one cell are reported in ascending source number, whatever
their order in the cell; a higher id's run of the tag is removed first (R37, R58, R76, R90, R104, R105, R117, R124, R125,
R134, R172; that a CLAIM is recorded over a run that stands FREE is log entry 31). -/
def Obligations.OwnCellSentTakesEffect : Prop :=
  ∀ (b : Built) (s : State), s.resetLow = false → s.tx.built = some b →
    let sentOver := fun (n : Nat) (c : Source) (r : Run) => s.sources[n]? = some c ∧ c.state = .seeking ∧ 8 ≤ r.first ∧
      0 < r.count ∧ r.first + r.count ≤ 64 ∧ ∀ k ∈ runSlots r.first r.count, (s.slot k).use = .free
    (b.placed = [] → exec .ownCellSent s = .next { s with
      sync := { s.sync with tick := 255, freshPending := s.sync.freshPending && !b.fresh }
      tx := { s.tx with built := none, cellsSent := bump s.tx.cellsSent } }) ∧
    (∀ (n : Nat) (c : Source) (r : Run) (bits : ItemBits), b.placed = [⟨.claim n, some r, bits⟩] →
      s.alloc.slots.length = 56 → sentOver n c r → (∀ e ∈ s.alloc.dir, e.tag ≠ c.cfg.tag) →
      ∃ t, exec .ownCellSent s = .next t ∧
        t.sources = s.sources.set n { c with state := .claiming, run := some r, queuedItem := .nothing } ∧
        (∀ k ∈ runSlots 8 56, t.slot k = if k ∈ runSlots r.first r.count then
          { s.slot k with use := .pending s.id c.cfg.tag c.cfg.priority (b.superframe + 2) } else s.slot k) ∧
        t.alloc.dir = s.alloc.dir ++ [⟨c.cfg.tag, s.id, r.first, r.count, c.cfg.priority, false, true⟩] ∧
        t.sinks = s.sinks ∧ t.mgmt = s.mgmt ∧ t.tx.cellsSent = bump s.tx.cellsSent ∧ t.tx.queue = s.tx.queue) ∧
    ((∀ (n : Nat) (c : Source) (r : Run) (bits : ItemBits) (e : DirEntry), b.placed = [⟨.claim n, some r, bits⟩] →
        sentOver n c r → findTag c.cfg.tag s.alloc.dir = some e →
        (e.station < s.id → ∃ t, exec .ownCellSent s = .next t ∧ t.sources = s.sources.set n (ClashedFrom c) ∧
          t.alloc = { s.alloc with counters := { s.alloc.counters with
            localClashes := bump s.alloc.counters.localClashes } } ∧ t.faultHigh = true ∧
          (s.mgmt.notices = [] → t.mgmt.notices = [.source n c.cfg.tag (.clashed c.run e.station)]) ∧
          t.sinks = s.sinks ∧ t.tx.cellsSent = bump s.tx.cellsSent) ∧
        (s.id < e.station → MapOk s → ∃ t, exec .ownCellSent s = .next t ∧
          t.sources = s.sources.set n { c with state := .claiming, run := some r, queuedItem := .nothing } ∧
          (∀ k ∈ runSlots 8 56, t.slot k = { s.slot k with
            use := if k ∈ runSlots r.first r.count then .pending s.id c.cfg.tag c.cfg.priority (b.superframe + 2)
              else if k ∈ runSlots e.first e.count then .free else (s.slot k).use }) ∧
          t.alloc.dir = s.alloc.dir.filter (fun d => d.tag != c.cfg.tag) ++
            [⟨c.cfg.tag, s.id, r.first, r.count, c.cfg.priority, false, true⟩] ∧
          t.alloc.counters = { s.alloc.counters with
            tagEntriesRemoved := bump s.alloc.counters.tagEntriesRemoved })) ∧
      ∀ (n m : Nat) (c d : Source) (r q : Run) (bits bits' : ItemBits) (e f : DirEntry),
        b.placed = [⟨.claim n, some r, bits⟩, ⟨.claim m, some q, bits'⟩] → sentOver n c r → sentOver m d q → n ≠ m →
        findTag c.cfg.tag s.alloc.dir = some e → e.station < s.id →
        findTag d.cfg.tag s.alloc.dir = some f → f.station < s.id → s.mgmt.notices = [] →
        let told : List Notice :=
          [.source n c.cfg.tag (.clashed c.run e.station), .source m d.cfg.tag (.clashed d.run f.station)]
        ∃ t, exec .ownCellSent s = .next t ∧ t.mgmt.notices = if n < m then told else told.reverse) ∧
    (∀ (n tag : Nat) (stale : Bool) (c : Source) (e : DirEntry) (r : Run) (bits : ItemBits),
      b.placed = [⟨.release n tag r stale, some r, bits⟩] → MapOk s → s.sources[n]? = some c →
      findTag tag s.alloc.dir = some e → e.station = s.id → e.active = true →
      ∃ t c', exec .ownCellSent s = .next t ∧ t.sources[n]? = some c' ∧ c'.state = .backoff ∧ c'.run = none ∧
        c'.queue = [] ∧ c'.backoff = 1 + s.id % 4 ∧ c'.counters = c.counters ∧ findTag tag t.alloc.dir = none ∧
        ∀ k ∈ runSlots e.first e.count, (t.slot k).use = .free) ∧
    (∀ (h q : Nat) (r : Relay) (it : QItem) (run : Option Run) (bits : ItemBits), b.placed = [⟨it, run, bits⟩] →
      (∃ x sub i, it = .probe h q x sub i) ∨ (∃ x act i, it = .command h q x act i) → h < 4 →
      s.relay h = some r → r.reqNo = q → r.phase = .queued →
      ∃ t, exec .ownCellSent s = .next t ∧ t.req = { s.req with
        table := s.req.table.set h (some { r with phase := .awaiting b.superframe }) } ∧ t.alloc = s.alloc ∧
        t.sources = s.sources ∧ t.mgmt = s.mgmt) ∧
    (∀ (run : Option Run) (bits : ItemBits), b.placed = [⟨.leave, run, bits⟩] → s.sync.state = .leaving →
      ∃ t, exec .ownCellSent s = .next t ∧ TornDown s t ∧
        (s.mgmt.notices = [] → t.mgmt.notices.head? = some (.sync .left .listen 0 0)))

/-- The readback of the own cell: in FOUNDING and LOCKED a MATCH clears the mismatch count and the second MISMATCH in a
row is a duplicate id, entering MUTE; in LEAVING it is not used. What is read back is the dominant combination of the cell
driven and of what the others drive, or what a failed line leaves (R3, R11, R31, R34). -/
def Obligations.ReadbackMismatchesEndInMute : Prop :=
  ∀ (line : OnLine CellWindow) (own : Cell) (s : State), s.resetLow = false → s.line.ownCell = some own → own.count ≤ 3 →
    let w := receivedCell line s
    let differs := ∀ c, classifyCell w = .good c → c.sender ≠ own.sender ∨ c.superframe ≠ own.superframe ∨
      c.count ≠ own.count ∨ c.fresh ≠ own.fresh ∨ ∃ i, i < own.count ∧ c.item i ≠ own.item i
    let read := fun m => { s with
      sync := { s.sync with tick := 255, mismatch := m }
      line := { s.line with drive := .nothing, ownCell := none } }
    (s.sync.state = .founding ∨ s.sync.state = .locked →
      (¬differs → exec (.ownCellReadback line) s = .next (read 0)) ∧
      (differs → s.sync.mismatch = 0 → exec (.ownCellReadback line) s = .next (read 1)) ∧
      (differs → s.sync.mismatch = 1 → DirOk s → ∃ t, exec (.duplicateIdMismatch line) s = .next t ∧ Muted s t ∧
        (s.mgmt.notices = [] → t.mgmt.notices.head? = some (.fault .duplicateId)))) ∧
    (s.sync.state = .leaving → exec (.ownCellReadback line) s = .next (read s.sync.mismatch)) ∧
    (∀ others window, line = .sound others → s.line.drive = .cell window → w = others ||| window) ∧
    (∀ heard, line = .failed heard → w = heard)

/-- A cell received, by the state that hears it: not taken in LISTEN; in ACQUIRE the first valid one sets the position and
enters LEARN; in LEARN the own id enters MUTE, later it is only counted; an agreeing cell is heard, a peer joining; a
disagreeing one is recorded and discarded, and confirmed by another sender it moves the station. A correction is the
difference of the trunk positions, modulo 2 097 152: added to the local position it gives the position the cell implies
(R23, R25, R32, R33, R41 to R44, R63; log entry 35 for the count that goes on from ACQUIRE into LEARN). -/
def Obligations.CellsAreTakenByState : Prop :=
  (∀ (line : OnLine CellWindow) (s : State), s.resetLow = false →
    let w := receivedCell line s
    let heard := { s with sync := { s.sync with tick := 255 }, line := { s.line with drive := .nothing } }
    (s.sync.state = .listen → exec (.cellReceived line) s = .next heard) ∧
    (∀ c : Cell, s.sync.state = .acquire → classifyCell w = .good c →
      (c.count ≤ 3 → exec (.cellReceived line) s = .next { heard with
        sync := { heard.sync with state := .learn, frameIndex := c.sender, superframe := c.superframe, learnCount := 0 }
        rx := { s.rx with disagreement := none } }) ∧
      (3 < c.count → exec (.cellReceived line) s = .next heard)) ∧
    (s.sync.state = .acquire → (∀ c, classifyCell w ≠ .good c) → exec (.cellReceived line) s = .next heard) ∧
    (∀ c : Cell, s.sync.state.takesCells = true → drivesOwnCell s = false → classifyCell w = .good c → c.count ≤ 3 →
      (c.sender = s.id → s.sync.state = .learn → DirOk s →
        ∃ t, exec (.cellReceived line) s = .next t ∧ Muted s t) ∧
      (c.sender = s.id → s.sync.state ≠ .learn → exec (.cellReceived line) s =
        .next { heard with rx := { s.rx with ownIdCells := bump s.rx.ownIdCells } }) ∧
      (∀ p : Peer, c.sender ≠ s.id → c.sender = s.sync.frameIndex → c.superframe = s.sync.superframe → c.count = 0 →
        s.peers[c.sender]? = some p → p.presence = .absent ∨ p.presence = .departed →
        ∃ t, exec (.cellReceived line) s = .next t ∧ t.rx = { s.rx with disagreement := none } ∧
          t.peers = s.peers.set c.sender ⟨.present, 0, some c.superframe, p.damagedCells⟩ ∧
          (s.mgmt.notices = [] → t.mgmt.notices = [.peer .joined c.sender c.superframe 0]) ∧ t.alloc = s.alloc ∧
          t.sync = heard.sync) ∧
      (c.sender ≠ s.id → c.sender ≠ s.sync.frameIndex ∨ c.superframe ≠ s.sync.superframe →
        (∀ d, s.rx.disagreement = some d → d.sender = c.sender ∨ d.correction ≠ correctionOf c s) →
        ∃ t, exec (.cellReceived line) s = .next t ∧
          t.rx = { s.rx with disagreement := some ⟨c.sender, correctionOf c s⟩ } ∧
          t.sync = { heard.sync with counters := { s.sync.counters with
            disagreeing := bump s.sync.counters.disagreeing } }) ∧
      (∀ (d : Disagreement) (p : Peer), c.sender ≠ s.id → c.sender ≠ s.sync.frameIndex ∨ c.superframe ≠ s.sync.superframe →
        s.rx.disagreement = some d → d.sender ≠ c.sender → d.correction = correctionOf c s → c.count = 0 →
        s.peers[c.sender]? = some p → c.fresh = false → ∃ t, exec (.cellReceived line) s = .next t ∧
          t.sync = { heard.sync with
            frameIndex := c.sender, superframe := c.superframe,
            counters := { s.sync.counters with resyncs := bump s.sync.counters.resyncs } } ∧
          t.rx = { s.rx with disagreement := none } ∧
          (s.mgmt.notices = [] → t.mgmt.notices.head? =
            some (.sync .resynced s.sync.state c.sender c.superframe))))) ∧
  ∀ (c : Cell) (s : State), c.sender < 32 → s.sync.frameIndex < 32 →
    correctionOf c s < 2097152 ∧
    (s.sync.superframe.toNat * 32 + s.sync.frameIndex + correctionOf c s) % 2097152 = c.superframe.toNat * 32 + c.sender ∧
    (correctionOf c s = 0 ↔ c.sender = s.sync.frameIndex ∧ c.superframe = s.sync.superframe)

/-- An agreeing cell, heard and dispatched. Its sender PRESENT is an ordinary turn, or with the fresh flag a rejoin that
frees its runs; then each item goes, in order, to the block that owns its matter, a malformed one only counted; nothing is
taken after a LEAVE, nor after a RESTART that tears the station down (log entry 17). A CLAIM, an OFFER and a RELEASE go to the
allocator, each one action, of which the sinks alone take signals; a PROBE, a COMMAND and an ANSWER for another station are
nothing to this one. A LEAVE departs its sender: missed count 0, every run of it FREE and out of the directory, its open
relays NO_PEER, PEER LEFT with the number of runs first (R44, R45, R46, R64, R65, R69, R91, R98, R103, R175; the order of
items that reach different blocks is log entry 37). -/
def Obligations.AgreeingCellsAreHeardAndDispatched : Prop :=
  ∀ (line : OnLine CellWindow) (c : Cell) (s : State), s.resetLow = false → s.sync.state.takesCells = true →
    classifyCell (receivedCell line s) = .good c → c.count ≤ 3 → c.sender ≠ s.id →
    c.sender = s.sync.frameIndex → c.superframe = s.sync.superframe →
    let heard := { s with
      sync := { s.sync with tick := 255 }, line := { s.line with drive := .nothing }
      rx := { s.rx with disagreement := none } }
    let turn := peerHeard c.sender c.superframe c.fresh heard
    let items := (c.items.take c.count).map decodeItem
    let take := fun (t : State) (it : Item) =>
      if it.malformed s.id = true then { t with rx := { t.rx with malformedItems := bump t.rx.malformedItems } }
      else dispatchItem c.sender it t
    let goesOn := fun it : Item => it ≠ .leave ∧
      (s.sync.state = .learn ∨ s.sync.state = .mute → ∀ q i, it = .command s.id q 14 i → s.admits c.sender = false)
    ((∀ it ∈ items, goesOn it) → exec (.cellReceived line) s = .next (items.foldl take turn)) ∧
    (∀ (front back : List Item), items = front ++ .leave :: back → (∀ it ∈ front, goesOn it) →
      exec (.cellReceived line) s = .next (dispatchItem c.sender .leave (front.foldl take turn))) ∧
    (∀ (front back : List Item) (q i : Nat), items = front ++ .command s.id q 14 i :: back →
      (∀ it ∈ front, goesOn it) → s.sync.state = .learn ∨ s.sync.state = .mute → s.admits c.sender = true →
      ∃ t, exec (.cellReceived line) s = .next t ∧ t = dispatchItem c.sender (.command s.id q 14 i) (front.foldl take turn) ∧
        t.sync.state = .listen) ∧
    (∀ (x tag first count priority : Nat) (flag : Bool) (u : State),
      dispatchItem x (.claim tag first count priority) u = action (heardClaim x tag first count priority) u ∧
      dispatchItem x (.offer tag first count priority flag) u = action (heardOffer x tag first count priority) u ∧
      dispatchItem x (.release tag first count) u = action (heardRelease x tag) u) ∧
    (∀ (f : State → State) (u : State), ∃ (sinks : List Sink) (mgmt : Mgmt),
      action f u = { f u with sinks := sinks, mgmt := mgmt }) ∧
    (∀ (x y q a i st : Nat) (v : Payload) (u : State), y ≠ u.id → dispatchItem x (.probe y q a i) u = u ∧
      dispatchItem x (.command y q a i) u = u ∧ dispatchItem x (.answer y q st a v) u = u) ∧
    (∀ (x : Nat) (p : Peer) (u : State), x ≠ u.id → u.peers[x]? = some p → MapOk u →
      let t := dispatchItem x .leave u
      t.peers = u.peers.set x { p with presence := .departed, missed := 0 } ∧
      t.alloc.dir = u.alloc.dir.filter (fun e => e.station != x) ∧
      (∀ e ∈ u.alloc.dir, e.station = x → ∀ k ∈ runSlots e.first e.count, (t.slot k).use = .free) ∧
      (∀ e ∈ u.alloc.dir, e.station ≠ x → ∀ k ∈ runSlots e.first e.count, t.slot k = u.slot k) ∧
      (∀ (h : Nat) (r : Relay), h < 4 → u.relay h = some r → t.relay h = some
        (if r.isOpen = true ∧ r.target = x then { r with phase := .done r.sent .noPeer } else r)) ∧
      t.sync = u.sync ∧ t.rx = u.rx ∧ t.sources = u.sources ∧
      (u.mgmt.notices = [] → t.mgmt.notices.head? = some (.peer .left x u.sync.superframe
        (u.alloc.dir.countP (fun e => e.station == x))))) ∧
    (∀ p : Peer, s.peers[c.sender]? = some p → p.presence = .present →
      turn.peers = s.peers.set c.sender ⟨.present, 0, some c.superframe, p.damagedCells⟩ ∧
      (c.fresh = false → turn.alloc = s.alloc ∧ turn.mgmt = s.mgmt) ∧
      (c.fresh = true → MapOk s → turn.alloc.dir = s.alloc.dir.filter (fun e => e.station != c.sender) ∧
        (∀ e ∈ s.alloc.dir, e.station = c.sender → ∀ k ∈ runSlots e.first e.count, (turn.slot k).use = .free) ∧
        (∀ e ∈ s.alloc.dir, e.station ≠ c.sender → ∀ k ∈ runSlots e.first e.count, turn.slot k = s.slot k) ∧
        (s.mgmt.notices = [] → turn.mgmt.notices.head? = some (.peer .rejoined c.sender c.superframe
          (s.alloc.dir.countP (fun e => e.station == c.sender))))))

/-- A missed turn: a SILENT cell, a DAMAGED one or one of an item count of 4 or more, or one discarded for disagreement.
Each is counted as its cause asks; the first three of a PRESENT peer only add to its missed count, and at the fourth the peer
departs, its runs turn STRAY and leave the directory, the relays that target it end NO_PEER; an ABSENT or DEPARTED id counts
its damaged cells alone (R32, R42, R44, R66, R67, R91, R175). -/
def Obligations.FourthMissedTurnDeparts : Prop :=
  ∀ (line : OnLine CellWindow) (p p' : Peer) (s missed : State), s.resetLow = false →
    s.sync.state.takesCells = true → s.sync.frameIndex ≠ s.id → s.peers[s.sync.frameIndex]? = some p →
    let w := receivedCell line s
    let heard := { s with sync := { s.sync with tick := 255 }, line := { s.line with drive := .nothing } }
    (w = 0 ∧ p' = p ∧ missed = heard) ∨
    (w ≠ 0 ∧ (∀ c, classifyCell w = .good c → 4 ≤ c.count) ∧ p' = { p with damagedCells := bump p.damagedCells } ∧
      missed = { heard with rx := { s.rx with damagedCells := bump s.rx.damagedCells } }) ∨
    (∃ c : Cell, classifyCell w = .good c ∧ c.count ≤ 3 ∧ c.sender ≠ s.id ∧
      (c.sender ≠ s.sync.frameIndex ∨ c.superframe ≠ s.sync.superframe) ∧
      (∀ d, s.rx.disagreement = some d → d.sender = c.sender ∨ d.correction ≠ correctionOf c s) ∧ p' = p ∧
      missed = { heard with
        sync := { heard.sync with counters := { s.sync.counters with
          disagreeing := bump s.sync.counters.disagreeing } }
        rx := { s.rx with disagreement := some ⟨c.sender, correctionOf c s⟩ } }) →
    (p.presence = .present → p.missed < 3 → exec (.cellReceived line) s = .next { missed with
      peers := s.peers.set s.sync.frameIndex { p' with missed := p.missed + 1 } }) ∧
    (p.presence = .absent ∨ p.presence = .departed → exec (.cellReceived line) s = .next { missed with
      peers := s.peers.set s.sync.frameIndex p' }) ∧
    (p.presence = .present → 3 ≤ p.missed → MapOk s → ∃ t, exec (.peerDeparture line) s = .next t ∧
      t.sync = missed.sync ∧ t.rx = missed.rx ∧
      t.peers = s.peers.set s.sync.frameIndex { p' with presence := .departed, missed := 4 } ∧
      t.alloc.dir = s.alloc.dir.filter (fun e => e.station != s.sync.frameIndex) ∧
      (∀ e ∈ s.alloc.dir, e.station = s.sync.frameIndex → ∀ k ∈ runSlots e.first e.count, (t.slot k).use = .stray) ∧
      (∀ e ∈ s.alloc.dir, e.station ≠ s.sync.frameIndex → ∀ k ∈ runSlots e.first e.count, t.slot k = s.slot k) ∧
      (∀ (h : Nat) (r : Relay), h < 4 → s.relay h = some r → t.relay h = some
        (if r.isOpen = true ∧ r.target = s.sync.frameIndex then { r with phase := .done r.sent .noPeer } else r)) ∧
      (s.mgmt.notices = [] → t.mgmt.notices.head? = some (.peer .departed s.sync.frameIndex s.sync.superframe
        (s.alloc.dir.countP (fun e => e.station == s.sync.frameIndex)))))

/-- A heard CLAIM of a new tag whose sender has no run in the way: over FREE slots it is installed PENDING to the
superframe two on; over a HELD, OWNED or STRAY slot it is ignored and counted, and a source OWNED there objects; over the claims of others it is installed in
their place if it precedes each of them, and ignored and counted otherwise. The CLAIMING sources whose runs it removes are
DEFEATED into BACKOFF, their notices in ascending source number (R79 to R82, R87, R99, R117, R133, R134; log entry 30 for
the fields BACKOFF keeps, log entry 18 for an objection that a full queue drops). -/
def Obligations.HeardClaimsFollowThePrecedence : Prop :=
  ∀ (x tag first count priority : Nat) (s : State), MapOk s → x ≠ s.id → 8 ≤ first → 0 < count →
    first + count ≤ 64 →
    (∀ e ∈ s.alloc.dir, e.tag ≠ tag) → (∀ e ∈ s.alloc.dir, e.station = x → e.meets first count = false) →
    let t := heardClaim x tag first count priority s
    let met := s.alloc.dir.filter (fun e => e.meets first count)
    let entry : DirEntry := ⟨tag, x, first, count, priority, false, false⟩
    ((∃ k ∈ runSlots first count, (s.slot k).use = .stray ∨ (∃ h g p l, (s.slot k).use = .held h g p l) ∨
        ∃ h g p, (s.slot k).use = .owned h g p) →
      t.alloc.slots = s.alloc.slots ∧ t.alloc.dir = s.alloc.dir ∧
      t.alloc.counters.claimsIgnored = bump s.alloc.counters.claimsIgnored) ∧
    (∀ (n : Nat) (c : Source) (e : DirEntry), SourcesOk s → s.sources[n]? = some c → e ∈ met → e.station = s.id →
      e.active = true → e.tag = c.cfg.tag → (∀ d ∈ met, d.station = s.id → d.active = true → d = e) →
      Objects n c s t) ∧
    ((∀ k ∈ runSlots first count, (s.slot k).use = .free ∨ ∃ h g p m, (s.slot k).use = .pending h g p m) →
      ((∀ e ∈ met, e.priority < priority ∨ (e.priority = priority ∧ x < e.station)) →
        (∀ k ∈ runSlots first count, (t.slot k).use = .pending x tag priority (s.sync.superframe + 2)) ∧
        t.alloc.dir = s.alloc.dir.filter (fun e => !e.meets first count) ++ [entry] ∧
        (s.alloc.counters.claimsOverridden + met.length ≤ 65535 →
          t.alloc.counters.claimsOverridden = s.alloc.counters.claimsOverridden + met.length) ∧
        (∀ e ∈ met, ∀ k ∈ runSlots e.first e.count, k ∉ runSlots first count → (t.slot k).use = .free) ∧
        DefeatsOwners x met s t) ∧
      ((∃ e ∈ met, ¬(e.priority < priority ∨ (e.priority = priority ∧ x < e.station))) →
        t = { s with alloc := { s.alloc with counters := { s.alloc.counters with
          claimsIgnored := bump s.alloc.counters.claimsIgnored } } }))

/-- A heard OFFER, a heard RELEASE, and the tag rule. An OFFER makes its run HELD with lease 24 and its entry ACTIVE where no
lower id holds a slot of it: the HELD and OWNED runs of higher ids there and every PENDING run of another are removed whole
and counted, and their local sources DEFEATED. Against a holder of lower id it changes no entry, and a source OWNED there
objects. A RELEASE frees the sender's run for the tag. A CLAIM or OFFER whose tag a lower id holds is ignored and counted,
and a source OWNED under the tag objects; one whose tag a higher id holds removes that entry, counted, and a local source
that carries it is CLASHED, counted and reported, with FAULT high (R78, R83 to R85, R87, R89, R104 to R106, R125; log entry
30 for the fields BACKOFF and CLASHED keep, log entry 18 for an objection that a full queue drops). -/
def Obligations.HeardOffersAndReleasesUpdateTheMap : Prop :=
  ∀ (x tag first count priority : Nat) (s : State), MapOk s → x ≠ s.id → 8 ≤ first → 0 < count →
    first + count ≤ 64 →
    let others := s.alloc.dir.filter (fun e => e.station != x && e.meets first count)
    let claimed := heardClaim x tag first count priority s
    let offered := heardOffer x tag first count priority s
    let held := fun (u : State) => (∀ k ∈ runSlots first count, (u.slot k).use = .held x tag priority 24) ∧
      findTag tag u.alloc.dir = some ⟨tag, x, first, count, priority, true, false⟩
    ((∀ e, findTag tag s.alloc.dir = some e → e.station = x) →
      ((∀ e ∈ others, e.active = true → x < e.station) →
        let resolved := s.alloc.counters.overlapsResolved + others.countP (fun e => e.active)
        let overridden := s.alloc.counters.claimsOverridden + others.countP (fun e => !e.active)
        held offered ∧
        (∀ e ∈ others, findTag e.tag offered.alloc.dir = none ∧
          ∀ k ∈ runSlots e.first e.count, k ∉ runSlots first count → (offered.slot k).use = .free) ∧
        (resolved ≤ 65535 → offered.alloc.counters.overlapsResolved = resolved) ∧
        (overridden ≤ 65535 → offered.alloc.counters.claimsOverridden = overridden) ∧
        DefeatsOwners x others s offered) ∧
      ((∀ e ∈ s.alloc.dir, e.station = x → e.tag ≠ tag ∧ e.meets first count = false) →
        (∃ e ∈ s.alloc.dir, e.meets first count = true ∧ e.active = true ∧ e.station < x) →
        offered.alloc.slots = s.alloc.slots ∧ offered.alloc.dir = s.alloc.dir) ∧
      (∀ (n : Nat) (c : Source) (e : DirEntry), SourcesOk s → s.id < x → s.sources[n]? = some c → e ∈ others →
        e.station = s.id → e.active = true → e.tag = c.cfg.tag →
        (∀ d ∈ others, d.station = s.id → d.active = true → d = e) → Objects n c s offered)) ∧
    (∀ e, findTag tag s.alloc.dir = some e →
      (e.station = x → (heardRelease x tag s).alloc.dir = s.alloc.dir.filter (fun d => d.tag != tag) ∧
        ∀ k ∈ runSlots e.first e.count, ((heardRelease x tag s).slot k).use = .free) ∧
      (e.station ≠ x → heardRelease x tag s = s) ∧
      (e.station < x → ∀ u, u = claimed ∨ u = offered →
        u.alloc.slots = s.alloc.slots ∧ u.alloc.dir = s.alloc.dir ∧
        u.alloc.counters.tagItemsIgnored = bump s.alloc.counters.tagItemsIgnored ∧
        ∀ (n : Nat) (c : Source), SourcesOk s → e.station = s.id → s.sources[n]? = some c → c.cfg.tag = tag →
          e.active = true ∨ c.state ≠ .owned → Objects n c s u) ∧
      (x < e.station → ∀ u, u = claimed ∨ u = offered →
        u.alloc.counters.tagEntriesRemoved = bump s.alloc.counters.tagEntriesRemoved ∧
        (∀ d ∈ u.alloc.dir, d.tag = tag → d.station = x) ∧
        (∀ k ∈ runSlots e.first e.count, k ∉ runSlots first count → (u.slot k).use = .free) ∧
        ∀ (n : Nat) (c : Source), SourcesOk s → e.station = s.id → s.sources[n]? = some c → c.cfg.tag = tag →
          c.state = .claiming ∨ c.state = .owned ∨ c.state = .releasing →
          (∀ d ∈ s.alloc.dir, d ≠ e → d.station = s.id → d.meets first count = false) →
          u.sources = s.sources.set n (ClashedFrom c) ∧ u.faultHigh = true ∧
          u.alloc.counters.localClashes = bump s.alloc.counters.localClashes ∧
          (s.mgmt.notices = [] → u.mgmt.notices = [.source n tag (.clashed c.run x)])))

/-- What a change of the directory does to a sink, by the net change of its tag's entry: none, nothing; CREATED or
ACTIVATED, an UNBOUND sink binds to an ACTIVE entry of its channel count, or is in MISMATCH with another count, and any other
sink stays; REMOVED, it leaves its binding; REPLACED, it leaves its binding and is evaluated anew; each with its notice. A
heard RELEASE of the tag's station is such a removal (R89, R103, R108, R109, R138, R139, R153). -/
def Obligations.SinksFollowTheDirectory : Prop :=
  (∀ (f : State → State) (n : Nat) (c : Sink) (s : State), (f s).sinks[n]? = some c →
    let t := action f s
    let was := findTag c.cfg.tag s.alloc.dir
    let is := findTag c.cfg.tag (f s).alloc.dir
    let told := fun e : SinkEvent => (f s).mgmt.notices.length + (f s).sinks.length ≤ 16 →
      .sink n c.cfg.tag e ∈ t.mgmt.notices
    let evaluated := fun (e : DirEntry) (d : Sink) =>
      (e.active = false → t.sinks[n]? = some d) ∧
      (e.active = true → d.cfg.channels = e.count → t.sinks[n]? = some (BoundTo e d) ∧
        told (.bound e.station ⟨e.first, e.count⟩)) ∧
      (e.active = true → d.cfg.channels ≠ e.count → t.sinks[n]? = some { d with state := .mismatch, run := none } ∧
        told (.mismatch e.station e.count))
    (is = was → t.sinks[n]? = some c) ∧
    (∀ e, was = none → is = some e →
      (c.state = .unbound → evaluated e c) ∧ (c.state ≠ .unbound → t.sinks[n]? = some c)) ∧
    (∀ b e, was = some b → is = some e →
      (b.station = e.station → b.first = e.first → b.count = e.count → b.active = e.active → t.sinks[n]? = some c) ∧
      (b.station = e.station → b.first = e.first → b.count = e.count → b.active = false → e.active = true →
        (c.state = .unbound → evaluated e c) ∧ (c.state ≠ .unbound → t.sinks[n]? = some c)) ∧
      (b.station ≠ e.station ∨ b.first ≠ e.first ∨ b.count ≠ e.count ∨ (b.active = true ∧ e.active = false) →
        evaluated e (Unbound c) ∧ (e.active = false → c.state ≠ .unbound → told .unbound))) ∧
    (∀ b, was = some b → is = none →
      t.sinks[n]? = some (Unbound c) ∧ (c.state ≠ .unbound → told .unbound))) ∧
  ∀ (x tag a b n : Nat) (e : DirEntry) (c : Sink) (s : State), findTag tag s.alloc.dir = some e → e.station = x →
    s.sinks[n]? = some c → c.cfg.tag = tag → (dispatchItem x (.release tag a b) s).sinks[n]? = some (Unbound c)

/-- Requests to this station: a PROBE is answered to its sender with its subject, DONE with the subject's payload or
NO_SUCH with none, and counted; a COMMAND of a sender the manager set holds, or of any with the set empty, is executed,
answered with its outcome and counted, one of another sender is REFUSED, with nothing executed; an ANSWER completes the
entry that awaits it, and is otherwise counted late (R36, R132, R150, R165 to R168, R174, R177). -/
def Obligations.RequestsAreServedAndAnswersMatched : Prop :=
  ∀ (x q i : Nat) (s : State), s.sync.state = .locked → s.tx.queue.length < 16 →
    let queued := fun (st : AnswerStatus) (code : Code) (payload : Payload) =>
      { s.tx with queue := s.tx.queue ++ [.answer x q st code payload] }
    (∀ (sub : Subject) (st : AnswerStatus) (payload : Payload), (st, payload) = (match sub with
        | .summary => (.done, summaryPayload s)
        | .peer => if i < 32 then (.done, peerPayload (s.peer i)) else (.noSuch, 0)
        | .slot => if 8 ≤ i then (.done, slotPayload (s.slot i).use) else (.noSuch, 0)
        | .source => match s.sources[i]? with
          | some c => (.done, sourcePayload c)
          | none => (.noSuch, 0)
        | .sink => match s.sinks[i]? with
          | some c => (.done, sinkPayload c)
          | none => (.noSuch, 0)) →
      dispatchItem x (.probe s.id q sub.code i) s = { s with
        tx := queued st (.subject sub) payload
        req := { s.req with counters := { s.req.counters with
          probesAnswered := bump s.req.counters.probesAnswered } } }) ∧
    (∀ im : Image, s.loader.image = some im → im.managers = [] ∨ x ∈ im.managers →
      let counted := { s.req with counters := { s.req.counters with
        commandsExecuted := bump s.req.counters.commandsExecuted } }
      (∀ p ∈ [(Action.muteSource, true), (.unmuteSource, false)],
        dispatchItem x (.command s.id q p.1.code i) s = { s with
          sources := s.sources.modify i (fun c => { c with muted := p.2 }), req := counted
          tx := queued (if i < s.sources.length then .done else .noSuch) (.action p.1) 0 }) ∧
      (∀ p ∈ [(Action.muteSink, true), (.unmuteSink, false)],
        dispatchItem x (.command s.id q p.1.code i) s = { s with
          sinks := s.sinks.modify i (fun c => { c with muted := p.2 }), req := counted
          tx := queued (if i < s.sinks.length then .done else .noSuch) (.action p.1) 0 }) ∧
      (s.sources.length ≤ i → dispatchItem x (.command s.id q Action.reseekSource.code i) s = { s with
        req := counted, tx := queued .noSuch (.action .reseekSource) 0 }) ∧
      (∀ c : Source, s.sources[i]? = some c → c.state ≠ .owned →
        dispatchItem x (.command s.id q Action.reseekSource.code i) s = { s with
          req := counted, tx := queued .notNow (.action .reseekSource) 0 }) ∧
      (∀ (c : Source) (r : Run), s.sources[i]? = some c → c.state = .owned → c.run = some r → s.tx.queue.length < 15 →
        ∃ t c', dispatchItem x (.command s.id q Action.reseekSource.code i) s = t ∧ t.sources[i]? = some c' ∧
          c'.state = .releasing ∧ c'.run = some r ∧ c'.queue = [] ∧ t.req = counted ∧
          t.tx.queue = s.tx.queue ++ [.release i c.cfg.tag r false, .answer x q .done (.action .reseekSource) 0]) ∧
      (s.tx.queue.length < 15 → ∃ t, dispatchItem x (.command s.id q Action.restart.code i) s = t ∧
        t.sync.state = .leaving ∧ .leave ∈ t.tx.queue ∧ .answer x q .done (.action .restart) 0 ∈ t.tx.queue ∧
        t.req.counters = counted.counters) ∧
      (∃ t, dispatchItem x (.command s.id q Action.clearCounters.code i) s = t ∧
        t.tx = ⟨s.tx.queue ++ [.answer x q .done (.action .clearCounters) 0], s.tx.built, 0, 0, 0⟩ ∧
        t.sync = { s.sync with counters := ⟨0, 0, 0, 0, 0⟩ } ∧ t.req.counters = ⟨0, 1, 0, 0, 0, 0⟩ ∧
        t.mgmt = s.mgmt)) ∧
    (∀ (a : Action) (im : Image), s.loader.image = some im → im.managers ≠ [] → x ∉ im.managers →
      dispatchItem x (.command s.id q a.code i) s = { s with
        tx := queued .refused (.action a) 0
        req := { s.req with counters := { s.req.counters with
          commandsRefused := bump s.req.counters.commandsRefused } } }) ∧
    (∀ (st : AnswerStatus) (c : Code) (payload : Payload),
      (∀ (h : Nat) (r : Relay) (sent : Superframe), RelaysOk s → h < 4 → s.relay h = some r → r.phase = .awaiting sent →
        r.target = x → r.reqNo = q → ∃ t, dispatchItem x (.answer s.id q st.code c.code payload) s = t ∧
          t.relay h = some { r with phase := .done (some sent) (.answered st c payload) } ∧
          t.req.counters = s.req.counters ∧ (s.mgmt.notices = [] →
            t.mgmt.notices = [.relay h q x (.answered st c payload)]) ∧ t.tx = s.tx ∧ t.alloc = s.alloc) ∧
      ((∀ (h : Nat) (r : Relay) (sent : Superframe), s.relay h = some r → r.phase = .awaiting sent →
        r.target = x → r.reqNo ≠ q) → dispatchItem x (.answer s.id q st.code c.code payload) s = { s with
          req := { s.req with counters := { s.req.counters with lateAnswers := bump s.req.counters.lateAnswers } } }))

/-! ### Strobes -/

/-- A strobe on a BRIDGE port: the watch count clears, a lost clock comes back with its notice, the port is primed, and a
primed port whose frame had fewer than 192 bit periods counts a short frame; an IN port pushes the lanes of a whole frame
into its CLAIMING and OWNED sources; the sink of an OUT port plays by the first row that applies (R128, R145 to R148, R158
to R161). -/
def Obligations.BridgeStrobeMakesAPortFrame : Prop :=
  ∀ (p periods : Nat) (bits : List Bool) (q : Port) (dir : Direction) (s : State), s.resetLow = false →
    s.sync.state.timerRuns = true → s.ports[p]? = some q → q.cfg = some ⟨dir, .bridge⟩ →
    ∃ (t : State) (q' : Port), exec (.bridgeStrobe p periods bits) s = .next t ∧ t.ports[p]? = some q' ∧
      q'.cfg = q.cfg ∧ q'.primed = true ∧ q'.watch = 0 ∧ q'.clock = some .active ∧ q'.clockLosses = q.clockLosses ∧
      q'.shortFrames = (if q.primed = true ∧ periods < 192 then bump q.shortFrames else q.shortFrames) ∧
      (q.clock ≠ some .lost → t.mgmt = s.mgmt) ∧
      (q.clock = some .lost → s.mgmt.notices = [] →
        t.mgmt.notices = [.fault (.clockRestored p s.sync.superframe)]) ∧
      (∀ j, j ≠ p → t.ports[j]? = s.ports[j]?) ∧ t.sync = s.sync ∧ t.line = s.line ∧ t.alloc = s.alloc ∧ t.tx = s.tx ∧
      (dir = .input → t.sinks = s.sinks ∧ q'.lanesOut = q.lanesOut ∧
        (¬(q.primed = true ∧ 192 ≤ periods) → t.sources = s.sources) ∧
        (q.primed = true → 192 ≤ periods → ∀ (n : Nat) (c : Source), s.sources[n]? = some c →
          let frame := (List.range c.cfg.channels).map (fun j => (lanesOf bits).getD (c.cfg.firstLane + j) 0)
          let full := decide (8 ≤ c.queue.length)
          (c.cfg.port = p → c.state = .claiming ∨ c.state = .owned → t.sources[n]? = some { c with
            queue := if full then c.queue.tail ++ [frame] else c.queue ++ [frame],
            counters := if full = true ∧ c.state = .owned then { c.counters with overflows := bump c.counters.overflows }
              else c.counters }) ∧
          (c.cfg.port ≠ p ∨ (c.state ≠ .claiming ∧ c.state ≠ .owned) → t.sources[n]? = some c))) ∧
      (dir = .output → t.sources = s.sources ∧
        (∀ (n : Nat) (c c' : Sink) (played : List Sample), s.sinks[n]? = some c → c.cfg.port = p →
          c.cfg.firstLane + c.cfg.channels ≤ 8 → played.length = c.cfg.channels →
          (∀ (m : Nat) (d : Sink), s.sinks[m]? = some d → d.cfg.port = p → m = n) → PlayRow true c played c' →
          let zeros := fun k => List.replicate k (0 : Sample)
          (c.state = .running → t.sinks = s.sinks.set n c' ∧ q'.lanesOut = zeros c.cfg.firstLane ++
            ((if c.muted = true then zeros c.cfg.channels else played) ++
              zeros (8 - c.cfg.firstLane - c.cfg.channels))) ∧
          (c.state ≠ .running → t.sinks = s.sinks ∧ q'.lanesOut = zeros 8)))

/-! ### The encodings of the trunk -/

/-- Every bit of a cell, an item and a port frame survives its coding: what a station drives for a cell, another reads back as
that cell; every item within its field widths is read back from the bits it is sent as; the lanes a port shifts out, lane 0
to lane 7 with the most significant bit first, are the lanes read from those bits, whatever bits follow (R7, R9, R155, R158,
R190). -/
def Obligations.CellsItemsAndLanesRoundTrip : Prop :=
  (∀ c : Cell, c.sender < 32 → c.count < 8 → c.items.length = 3 →
    decodeCell (encodeCell c) = some c ∧ classifyCell (encodeCell c) = .good c) ∧
  (∀ (a b c d e : Nat) (f : Bool) (x : Payload),
    (a < 4096 → b < 64 → c < 16 → d < 4 → decodeItem (Item.claim a b c d).bits = .claim a b c d ∧
      decodeItem (Item.offer a b c d f).bits = .offer a b c d f ∧ decodeItem (Item.release a b c).bits = .release a b c) ∧
    decodeItem Item.leave.bits = .leave ∧
    (a < 32 → b < 256 → c < 16 → d < 64 → decodeItem (Item.probe a b c d).bits = .probe a b c d ∧
      decodeItem (Item.command a b c d).bits = .command a b c d) ∧
    (a < 32 → b < 256 → d < 8 → e < 16 → decodeItem (Item.answer a b d e x).bits = .answer a b d e x) ∧
    (a = 0 ∨ 8 ≤ a → a < 16 → decodeItem (Item.unknown a).bits = .unknown a)) ∧
  ∀ (lanes : List Sample) (later : List Bool), lanes.length = 8 → (bitsOfLanes lanes).length = 192 ∧
    lanesOf (bitsOfLanes lanes ++ later) = lanes ∧
    ∀ i j, i < 8 → j < 24 → (bitsOfLanes lanes)[24 * i + j]? = (lanes[i]?).map (fun x => x.getLsbD (23 - j))

/-! ### Invariants every step keeps -/

/-- The notice queue and the lost count, and the outgoing queue, stay in their ranges and states through every step (R37,
R48, R49, R51, R185). -/
def Obligations.StepKeepsTheQueues : Prop :=
  ∀ s t : State, BootOk s → step s = .next t →
    BootOk t ∧ (NoticesOk s → NoticesOk t) ∧ (QueueOk s → QueueOk t)

/-- The slot map and the directory agree after every step, carrier counts and leases in range (R13, R73, R74, R101). -/
def Obligations.StepKeepsTheMap : Prop :=
  ∀ s t : State, step s = .next t → (MapOk s → MapOk t) ∧ (SlotsOk s → SlotsOk t)

/-- The relay table stays four entries with single open request numbers, and the sync controller stays in the ranges of
its state, through every step (R15, R16, R18, R164, R170). -/
def Obligations.StepKeepsRelaysAndSync : Prop :=
  ∀ s t : State, step s = .next t → (RelaysOk s → RelaysOk t) ∧ (BootOk s → SyncOk s → SyncOk t)

/-- Every source and sink stays in its ranges, with its tag single and no captures outside FILLING and RUNNING, through
every step (R114, R136, R142, R143, R180). -/
def Obligations.StepKeepsSourcesAndSinks : Prop :=
  ∀ s t : State, step s = .next t → (SourcesOk s → SourcesOk t) ∧ (SinksOk s → SinksOk t)

end Statements
end

