-- ==== Sys2Proof/Laws/Formats.lean ====
section
/-! SUPPORT. Bits and numbers: what writing a number in bits and reading it back give. -/

namespace Sys2Proof.Machine

@[simp] theorem bitsOf_length (w v : Nat) : (bitsOf w v).length = w := by
  induction w with
  | zero => rfl
  | succ w ih => simp [bitsOf, ih]

/-- The number of a list of bits with one more in front. -/
theorem foldl_bits (acc : Nat) (bits : List Bool) :
    bits.foldl (fun a b => 2 * a + cond b 1 0) acc = acc * 2 ^ bits.length + natOf bits := by
  induction bits generalizing acc with
  | nil => simp [natOf]
  | cons b rest ih =>
    have h1 := ih (2 * acc + cond b 1 0)
    have h2 := ih (cond b 1 0)
    simp only [List.foldl_cons, List.length_cons, natOf, Nat.mul_zero, Nat.zero_add] at h1 h2 ⊢
    rw [h1, h2, Nat.pow_succ]
    ring

/-- Two bit strings one after the other. -/
theorem natOf_append (a b : List Bool) : natOf (a ++ b) = natOf a * 2 ^ b.length + natOf b := by
  unfold natOf
  rw [List.foldl_append, foldl_bits]
  rfl

theorem natOf_lt (bits : List Bool) : natOf bits < 2 ^ bits.length := by
  induction bits with
  | nil => simp [natOf]
  | cons b rest ih =>
    have h := natOf_append [b] rest
    have hb : natOf [b] ≤ 1 := by cases b <;> simp [natOf]
    simp only [List.cons_append, List.nil_append] at h
    rw [h, List.length_cons, Nat.pow_succ]
    nlinarith

/-- Reading back the bits of a number gives its low bits. -/
theorem natOf_bitsOf (w v : Nat) : natOf (bitsOf w v) = v % 2 ^ w := by
  induction w with
  | zero => simp [bitsOf, natOf, Nat.mod_one]
  | succ w ih =>
    have h := natOf_append [v.testBit w] (bitsOf w v)
    simp only [List.cons_append, List.nil_append, bitsOf_length, ih] at h
    rw [bitsOf, h, Nat.mod_pow_succ, Nat.testBit_eq_decide_div_mod_eq]
    have hm : v / 2 ^ w % 2 < 2 := Nat.mod_lt _ (by omega)
    generalize v / 2 ^ w % 2 = m at hm ⊢
    interval_cases m <;> simp [natOf]
    all_goals ring

@[simp] theorem fieldBits_length (fs : List (Nat × Nat)) : (fieldBits fs).length = (fs.map Prod.fst).sum := by
  induction fs with
  | nil => rfl
  | cons f rest ih => obtain ⟨w, v⟩ := f; simp [fieldBits, ih]

/-- The field at the front of a string. -/
theorem field_here (w v : Nat) (rest : List Bool) : field 0 w (bitsOf w v ++ rest) = v % 2 ^ w := by
  simp only [field, List.drop_zero]
  rw [List.take_left' (bitsOf_length w v), natOf_bitsOf]

/-- A field behind a prefix of known length. -/
theorem field_after (off w : Nat) (front rest : List Bool) :
    field (front.length + off) w (front ++ rest) = field off w rest := by
  have h : List.drop (front.length + off) front = [] := List.drop_eq_nil_of_le (by omega)
  simp [field, List.drop_append, h]

@[simp] theorem padTo_length (n : Nat) (bits : List Bool) : (padTo n bits).length = n := by
  simp [padTo]

/-- Every byte of a response is its length field's worth: two bytes ahead of the body (R192). -/
@[simp] theorem responseFrame_length (st : LmpStatus) (body : List Byte) :
    (responseFrame st body).length = body.length + 2 := by
  simp [responseFrame, byte1]

/-- A notice record is 8 bytes (R192). -/
@[simp] theorem notice_bytes_length (n : Notice) : n.bytes.length = 8 := by
  cases n with
  | sync c st i sf => simp [Notice.bytes, byte1, byte2]
  | peer c id sf runs => simp [Notice.bytes, byte1, byte2]
  | source n t e =>
    cases e with
    | clashed r x => cases r <;> simp [Notice.bytes, sourceEventBytes, byte1, byte2, byte1?]
    | _ => simp [Notice.bytes, sourceEventBytes, byte1, byte2]
  | sink n t e => cases e <;> simp [Notice.bytes, sinkEventBytes, byte1, byte2]
  | relay h q x r => simp [Notice.bytes, byte1]
  | fault e => cases e <;> simp [Notice.bytes, faultEventBytes, byte1, byte2]
  | lost c => simp [Notice.bytes, byte1, byte2]

end Sys2Proof.Machine
end

