-- ==== Sys2Proof/Laws/State.lean ====
section
/-! SUPPORT. What each block update leaves in every field of the state: one lemma per field per update, true by
unfolding. -/

namespace Sys2Proof.Machine

variable (s : State)

/-! `modX` of the block `loader` -/

@[simp] theorem modLoader_pending (g : Loader → Loader) : (s.modLoader g).pending = s.pending := rfl
@[simp] theorem modLoader_resetLow (g : Loader → Loader) : (s.modLoader g).resetLow = s.resetLow := rfl
@[simp] theorem modLoader_loader (g : Loader → Loader) : (s.modLoader g).loader = g s.loader := rfl
@[simp] theorem modLoader_sync (g : Loader → Loader) : (s.modLoader g).sync = s.sync := rfl
@[simp] theorem modLoader_line (g : Loader → Loader) : (s.modLoader g).line = s.line := rfl
@[simp] theorem modLoader_rx (g : Loader → Loader) : (s.modLoader g).rx = s.rx := rfl
@[simp] theorem modLoader_tx (g : Loader → Loader) : (s.modLoader g).tx = s.tx := rfl
@[simp] theorem modLoader_peers (g : Loader → Loader) : (s.modLoader g).peers = s.peers := rfl
@[simp] theorem modLoader_alloc (g : Loader → Loader) : (s.modLoader g).alloc = s.alloc := rfl
@[simp] theorem modLoader_sources (g : Loader → Loader) : (s.modLoader g).sources = s.sources := rfl
@[simp] theorem modLoader_sinks (g : Loader → Loader) : (s.modLoader g).sinks = s.sinks := rfl
@[simp] theorem modLoader_ports (g : Loader → Loader) : (s.modLoader g).ports = s.ports := rfl
@[simp] theorem modLoader_req (g : Loader → Loader) : (s.modLoader g).req = s.req := rfl
@[simp] theorem modLoader_mgmt (g : Loader → Loader) : (s.modLoader g).mgmt = s.mgmt := rfl

/-! `modX` of the block `sync` -/

@[simp] theorem modSync_pending (g : Sync → Sync) : (s.modSync g).pending = s.pending := rfl
@[simp] theorem modSync_resetLow (g : Sync → Sync) : (s.modSync g).resetLow = s.resetLow := rfl
@[simp] theorem modSync_loader (g : Sync → Sync) : (s.modSync g).loader = s.loader := rfl
@[simp] theorem modSync_sync (g : Sync → Sync) : (s.modSync g).sync = g s.sync := rfl
@[simp] theorem modSync_line (g : Sync → Sync) : (s.modSync g).line = s.line := rfl
@[simp] theorem modSync_rx (g : Sync → Sync) : (s.modSync g).rx = s.rx := rfl
@[simp] theorem modSync_tx (g : Sync → Sync) : (s.modSync g).tx = s.tx := rfl
@[simp] theorem modSync_peers (g : Sync → Sync) : (s.modSync g).peers = s.peers := rfl
@[simp] theorem modSync_alloc (g : Sync → Sync) : (s.modSync g).alloc = s.alloc := rfl
@[simp] theorem modSync_sources (g : Sync → Sync) : (s.modSync g).sources = s.sources := rfl
@[simp] theorem modSync_sinks (g : Sync → Sync) : (s.modSync g).sinks = s.sinks := rfl
@[simp] theorem modSync_ports (g : Sync → Sync) : (s.modSync g).ports = s.ports := rfl
@[simp] theorem modSync_req (g : Sync → Sync) : (s.modSync g).req = s.req := rfl
@[simp] theorem modSync_mgmt (g : Sync → Sync) : (s.modSync g).mgmt = s.mgmt := rfl

/-! `modX` of the block `line` -/

@[simp] theorem modLine_pending (g : Line → Line) : (s.modLine g).pending = s.pending := rfl
@[simp] theorem modLine_resetLow (g : Line → Line) : (s.modLine g).resetLow = s.resetLow := rfl
@[simp] theorem modLine_loader (g : Line → Line) : (s.modLine g).loader = s.loader := rfl
@[simp] theorem modLine_sync (g : Line → Line) : (s.modLine g).sync = s.sync := rfl
@[simp] theorem modLine_line (g : Line → Line) : (s.modLine g).line = g s.line := rfl
@[simp] theorem modLine_rx (g : Line → Line) : (s.modLine g).rx = s.rx := rfl
@[simp] theorem modLine_tx (g : Line → Line) : (s.modLine g).tx = s.tx := rfl
@[simp] theorem modLine_peers (g : Line → Line) : (s.modLine g).peers = s.peers := rfl
@[simp] theorem modLine_alloc (g : Line → Line) : (s.modLine g).alloc = s.alloc := rfl
@[simp] theorem modLine_sources (g : Line → Line) : (s.modLine g).sources = s.sources := rfl
@[simp] theorem modLine_sinks (g : Line → Line) : (s.modLine g).sinks = s.sinks := rfl
@[simp] theorem modLine_ports (g : Line → Line) : (s.modLine g).ports = s.ports := rfl
@[simp] theorem modLine_req (g : Line → Line) : (s.modLine g).req = s.req := rfl
@[simp] theorem modLine_mgmt (g : Line → Line) : (s.modLine g).mgmt = s.mgmt := rfl

/-! `modX` of the block `rx` -/

@[simp] theorem modRx_pending (g : CellRx → CellRx) : (s.modRx g).pending = s.pending := rfl
@[simp] theorem modRx_resetLow (g : CellRx → CellRx) : (s.modRx g).resetLow = s.resetLow := rfl
@[simp] theorem modRx_loader (g : CellRx → CellRx) : (s.modRx g).loader = s.loader := rfl
@[simp] theorem modRx_sync (g : CellRx → CellRx) : (s.modRx g).sync = s.sync := rfl
@[simp] theorem modRx_line (g : CellRx → CellRx) : (s.modRx g).line = s.line := rfl
@[simp] theorem modRx_rx (g : CellRx → CellRx) : (s.modRx g).rx = g s.rx := rfl
@[simp] theorem modRx_tx (g : CellRx → CellRx) : (s.modRx g).tx = s.tx := rfl
@[simp] theorem modRx_peers (g : CellRx → CellRx) : (s.modRx g).peers = s.peers := rfl
@[simp] theorem modRx_alloc (g : CellRx → CellRx) : (s.modRx g).alloc = s.alloc := rfl
@[simp] theorem modRx_sources (g : CellRx → CellRx) : (s.modRx g).sources = s.sources := rfl
@[simp] theorem modRx_sinks (g : CellRx → CellRx) : (s.modRx g).sinks = s.sinks := rfl
@[simp] theorem modRx_ports (g : CellRx → CellRx) : (s.modRx g).ports = s.ports := rfl
@[simp] theorem modRx_req (g : CellRx → CellRx) : (s.modRx g).req = s.req := rfl
@[simp] theorem modRx_mgmt (g : CellRx → CellRx) : (s.modRx g).mgmt = s.mgmt := rfl

/-! `modX` of the block `tx` -/

@[simp] theorem modTx_pending (g : CellTx → CellTx) : (s.modTx g).pending = s.pending := rfl
@[simp] theorem modTx_resetLow (g : CellTx → CellTx) : (s.modTx g).resetLow = s.resetLow := rfl
@[simp] theorem modTx_loader (g : CellTx → CellTx) : (s.modTx g).loader = s.loader := rfl
@[simp] theorem modTx_sync (g : CellTx → CellTx) : (s.modTx g).sync = s.sync := rfl
@[simp] theorem modTx_line (g : CellTx → CellTx) : (s.modTx g).line = s.line := rfl
@[simp] theorem modTx_rx (g : CellTx → CellTx) : (s.modTx g).rx = s.rx := rfl
@[simp] theorem modTx_tx (g : CellTx → CellTx) : (s.modTx g).tx = g s.tx := rfl
@[simp] theorem modTx_peers (g : CellTx → CellTx) : (s.modTx g).peers = s.peers := rfl
@[simp] theorem modTx_alloc (g : CellTx → CellTx) : (s.modTx g).alloc = s.alloc := rfl
@[simp] theorem modTx_sources (g : CellTx → CellTx) : (s.modTx g).sources = s.sources := rfl
@[simp] theorem modTx_sinks (g : CellTx → CellTx) : (s.modTx g).sinks = s.sinks := rfl
@[simp] theorem modTx_ports (g : CellTx → CellTx) : (s.modTx g).ports = s.ports := rfl
@[simp] theorem modTx_req (g : CellTx → CellTx) : (s.modTx g).req = s.req := rfl
@[simp] theorem modTx_mgmt (g : CellTx → CellTx) : (s.modTx g).mgmt = s.mgmt := rfl

/-! `modX` of the block `peers` -/

@[simp] theorem modPeers_pending (g : List Peer → List Peer) : (s.modPeers g).pending = s.pending := rfl
@[simp] theorem modPeers_resetLow (g : List Peer → List Peer) : (s.modPeers g).resetLow = s.resetLow := rfl
@[simp] theorem modPeers_loader (g : List Peer → List Peer) : (s.modPeers g).loader = s.loader := rfl
@[simp] theorem modPeers_sync (g : List Peer → List Peer) : (s.modPeers g).sync = s.sync := rfl
@[simp] theorem modPeers_line (g : List Peer → List Peer) : (s.modPeers g).line = s.line := rfl
@[simp] theorem modPeers_rx (g : List Peer → List Peer) : (s.modPeers g).rx = s.rx := rfl
@[simp] theorem modPeers_tx (g : List Peer → List Peer) : (s.modPeers g).tx = s.tx := rfl
@[simp] theorem modPeers_peers (g : List Peer → List Peer) : (s.modPeers g).peers = g s.peers := rfl
@[simp] theorem modPeers_alloc (g : List Peer → List Peer) : (s.modPeers g).alloc = s.alloc := rfl
@[simp] theorem modPeers_sources (g : List Peer → List Peer) : (s.modPeers g).sources = s.sources := rfl
@[simp] theorem modPeers_sinks (g : List Peer → List Peer) : (s.modPeers g).sinks = s.sinks := rfl
@[simp] theorem modPeers_ports (g : List Peer → List Peer) : (s.modPeers g).ports = s.ports := rfl
@[simp] theorem modPeers_req (g : List Peer → List Peer) : (s.modPeers g).req = s.req := rfl
@[simp] theorem modPeers_mgmt (g : List Peer → List Peer) : (s.modPeers g).mgmt = s.mgmt := rfl

/-! `modX` of the block `alloc` -/

@[simp] theorem modAlloc_pending (g : Alloc → Alloc) : (s.modAlloc g).pending = s.pending := rfl
@[simp] theorem modAlloc_resetLow (g : Alloc → Alloc) : (s.modAlloc g).resetLow = s.resetLow := rfl
@[simp] theorem modAlloc_loader (g : Alloc → Alloc) : (s.modAlloc g).loader = s.loader := rfl
@[simp] theorem modAlloc_sync (g : Alloc → Alloc) : (s.modAlloc g).sync = s.sync := rfl
@[simp] theorem modAlloc_line (g : Alloc → Alloc) : (s.modAlloc g).line = s.line := rfl
@[simp] theorem modAlloc_rx (g : Alloc → Alloc) : (s.modAlloc g).rx = s.rx := rfl
@[simp] theorem modAlloc_tx (g : Alloc → Alloc) : (s.modAlloc g).tx = s.tx := rfl
@[simp] theorem modAlloc_peers (g : Alloc → Alloc) : (s.modAlloc g).peers = s.peers := rfl
@[simp] theorem modAlloc_alloc (g : Alloc → Alloc) : (s.modAlloc g).alloc = g s.alloc := rfl
@[simp] theorem modAlloc_sources (g : Alloc → Alloc) : (s.modAlloc g).sources = s.sources := rfl
@[simp] theorem modAlloc_sinks (g : Alloc → Alloc) : (s.modAlloc g).sinks = s.sinks := rfl
@[simp] theorem modAlloc_ports (g : Alloc → Alloc) : (s.modAlloc g).ports = s.ports := rfl
@[simp] theorem modAlloc_req (g : Alloc → Alloc) : (s.modAlloc g).req = s.req := rfl
@[simp] theorem modAlloc_mgmt (g : Alloc → Alloc) : (s.modAlloc g).mgmt = s.mgmt := rfl

/-! `modX` of the block `sources` -/

@[simp] theorem modSources_pending (g : List Source → List Source) : (s.modSources g).pending = s.pending := rfl
@[simp] theorem modSources_resetLow (g : List Source → List Source) : (s.modSources g).resetLow = s.resetLow := rfl
@[simp] theorem modSources_loader (g : List Source → List Source) : (s.modSources g).loader = s.loader := rfl
@[simp] theorem modSources_sync (g : List Source → List Source) : (s.modSources g).sync = s.sync := rfl
@[simp] theorem modSources_line (g : List Source → List Source) : (s.modSources g).line = s.line := rfl
@[simp] theorem modSources_rx (g : List Source → List Source) : (s.modSources g).rx = s.rx := rfl
@[simp] theorem modSources_tx (g : List Source → List Source) : (s.modSources g).tx = s.tx := rfl
@[simp] theorem modSources_peers (g : List Source → List Source) : (s.modSources g).peers = s.peers := rfl
@[simp] theorem modSources_alloc (g : List Source → List Source) : (s.modSources g).alloc = s.alloc := rfl
@[simp] theorem modSources_sources (g : List Source → List Source) : (s.modSources g).sources = g s.sources := rfl
@[simp] theorem modSources_sinks (g : List Source → List Source) : (s.modSources g).sinks = s.sinks := rfl
@[simp] theorem modSources_ports (g : List Source → List Source) : (s.modSources g).ports = s.ports := rfl
@[simp] theorem modSources_req (g : List Source → List Source) : (s.modSources g).req = s.req := rfl
@[simp] theorem modSources_mgmt (g : List Source → List Source) : (s.modSources g).mgmt = s.mgmt := rfl

/-! `modX` of the block `sinks` -/

@[simp] theorem modSinks_pending (g : List Sink → List Sink) : (s.modSinks g).pending = s.pending := rfl
@[simp] theorem modSinks_resetLow (g : List Sink → List Sink) : (s.modSinks g).resetLow = s.resetLow := rfl
@[simp] theorem modSinks_loader (g : List Sink → List Sink) : (s.modSinks g).loader = s.loader := rfl
@[simp] theorem modSinks_sync (g : List Sink → List Sink) : (s.modSinks g).sync = s.sync := rfl
@[simp] theorem modSinks_line (g : List Sink → List Sink) : (s.modSinks g).line = s.line := rfl
@[simp] theorem modSinks_rx (g : List Sink → List Sink) : (s.modSinks g).rx = s.rx := rfl
@[simp] theorem modSinks_tx (g : List Sink → List Sink) : (s.modSinks g).tx = s.tx := rfl
@[simp] theorem modSinks_peers (g : List Sink → List Sink) : (s.modSinks g).peers = s.peers := rfl
@[simp] theorem modSinks_alloc (g : List Sink → List Sink) : (s.modSinks g).alloc = s.alloc := rfl
@[simp] theorem modSinks_sources (g : List Sink → List Sink) : (s.modSinks g).sources = s.sources := rfl
@[simp] theorem modSinks_sinks (g : List Sink → List Sink) : (s.modSinks g).sinks = g s.sinks := rfl
@[simp] theorem modSinks_ports (g : List Sink → List Sink) : (s.modSinks g).ports = s.ports := rfl
@[simp] theorem modSinks_req (g : List Sink → List Sink) : (s.modSinks g).req = s.req := rfl
@[simp] theorem modSinks_mgmt (g : List Sink → List Sink) : (s.modSinks g).mgmt = s.mgmt := rfl

/-! `modX` of the block `ports` -/

@[simp] theorem modPorts_pending (g : List Port → List Port) : (s.modPorts g).pending = s.pending := rfl
@[simp] theorem modPorts_resetLow (g : List Port → List Port) : (s.modPorts g).resetLow = s.resetLow := rfl
@[simp] theorem modPorts_loader (g : List Port → List Port) : (s.modPorts g).loader = s.loader := rfl
@[simp] theorem modPorts_sync (g : List Port → List Port) : (s.modPorts g).sync = s.sync := rfl
@[simp] theorem modPorts_line (g : List Port → List Port) : (s.modPorts g).line = s.line := rfl
@[simp] theorem modPorts_rx (g : List Port → List Port) : (s.modPorts g).rx = s.rx := rfl
@[simp] theorem modPorts_tx (g : List Port → List Port) : (s.modPorts g).tx = s.tx := rfl
@[simp] theorem modPorts_peers (g : List Port → List Port) : (s.modPorts g).peers = s.peers := rfl
@[simp] theorem modPorts_alloc (g : List Port → List Port) : (s.modPorts g).alloc = s.alloc := rfl
@[simp] theorem modPorts_sources (g : List Port → List Port) : (s.modPorts g).sources = s.sources := rfl
@[simp] theorem modPorts_sinks (g : List Port → List Port) : (s.modPorts g).sinks = s.sinks := rfl
@[simp] theorem modPorts_ports (g : List Port → List Port) : (s.modPorts g).ports = g s.ports := rfl
@[simp] theorem modPorts_req (g : List Port → List Port) : (s.modPorts g).req = s.req := rfl
@[simp] theorem modPorts_mgmt (g : List Port → List Port) : (s.modPorts g).mgmt = s.mgmt := rfl

/-! `modX` of the block `req` -/

@[simp] theorem modReq_pending (g : ReqUnit → ReqUnit) : (s.modReq g).pending = s.pending := rfl
@[simp] theorem modReq_resetLow (g : ReqUnit → ReqUnit) : (s.modReq g).resetLow = s.resetLow := rfl
@[simp] theorem modReq_loader (g : ReqUnit → ReqUnit) : (s.modReq g).loader = s.loader := rfl
@[simp] theorem modReq_sync (g : ReqUnit → ReqUnit) : (s.modReq g).sync = s.sync := rfl
@[simp] theorem modReq_line (g : ReqUnit → ReqUnit) : (s.modReq g).line = s.line := rfl
@[simp] theorem modReq_rx (g : ReqUnit → ReqUnit) : (s.modReq g).rx = s.rx := rfl
@[simp] theorem modReq_tx (g : ReqUnit → ReqUnit) : (s.modReq g).tx = s.tx := rfl
@[simp] theorem modReq_peers (g : ReqUnit → ReqUnit) : (s.modReq g).peers = s.peers := rfl
@[simp] theorem modReq_alloc (g : ReqUnit → ReqUnit) : (s.modReq g).alloc = s.alloc := rfl
@[simp] theorem modReq_sources (g : ReqUnit → ReqUnit) : (s.modReq g).sources = s.sources := rfl
@[simp] theorem modReq_sinks (g : ReqUnit → ReqUnit) : (s.modReq g).sinks = s.sinks := rfl
@[simp] theorem modReq_ports (g : ReqUnit → ReqUnit) : (s.modReq g).ports = s.ports := rfl
@[simp] theorem modReq_req (g : ReqUnit → ReqUnit) : (s.modReq g).req = g s.req := rfl
@[simp] theorem modReq_mgmt (g : ReqUnit → ReqUnit) : (s.modReq g).mgmt = s.mgmt := rfl

/-! `modX` of the block `mgmt` -/

@[simp] theorem modMgmt_pending (g : Mgmt → Mgmt) : (s.modMgmt g).pending = s.pending := rfl
@[simp] theorem modMgmt_resetLow (g : Mgmt → Mgmt) : (s.modMgmt g).resetLow = s.resetLow := rfl
@[simp] theorem modMgmt_loader (g : Mgmt → Mgmt) : (s.modMgmt g).loader = s.loader := rfl
@[simp] theorem modMgmt_sync (g : Mgmt → Mgmt) : (s.modMgmt g).sync = s.sync := rfl
@[simp] theorem modMgmt_line (g : Mgmt → Mgmt) : (s.modMgmt g).line = s.line := rfl
@[simp] theorem modMgmt_rx (g : Mgmt → Mgmt) : (s.modMgmt g).rx = s.rx := rfl
@[simp] theorem modMgmt_tx (g : Mgmt → Mgmt) : (s.modMgmt g).tx = s.tx := rfl
@[simp] theorem modMgmt_peers (g : Mgmt → Mgmt) : (s.modMgmt g).peers = s.peers := rfl
@[simp] theorem modMgmt_alloc (g : Mgmt → Mgmt) : (s.modMgmt g).alloc = s.alloc := rfl
@[simp] theorem modMgmt_sources (g : Mgmt → Mgmt) : (s.modMgmt g).sources = s.sources := rfl
@[simp] theorem modMgmt_sinks (g : Mgmt → Mgmt) : (s.modMgmt g).sinks = s.sinks := rfl
@[simp] theorem modMgmt_ports (g : Mgmt → Mgmt) : (s.modMgmt g).ports = s.ports := rfl
@[simp] theorem modMgmt_req (g : Mgmt → Mgmt) : (s.modMgmt g).req = s.req := rfl
@[simp] theorem modMgmt_mgmt (g : Mgmt → Mgmt) : (s.modMgmt g).mgmt = g s.mgmt := rfl

/-! `modSource` of one member of `sources` -/

@[simp] theorem modSource_pending (n : Nat) (g : Source → Source) : (s.modSource n g).pending = s.pending := rfl
@[simp] theorem modSource_resetLow (n : Nat) (g : Source → Source) : (s.modSource n g).resetLow = s.resetLow := rfl
@[simp] theorem modSource_loader (n : Nat) (g : Source → Source) : (s.modSource n g).loader = s.loader := rfl
@[simp] theorem modSource_sync (n : Nat) (g : Source → Source) : (s.modSource n g).sync = s.sync := rfl
@[simp] theorem modSource_line (n : Nat) (g : Source → Source) : (s.modSource n g).line = s.line := rfl
@[simp] theorem modSource_rx (n : Nat) (g : Source → Source) : (s.modSource n g).rx = s.rx := rfl
@[simp] theorem modSource_tx (n : Nat) (g : Source → Source) : (s.modSource n g).tx = s.tx := rfl
@[simp] theorem modSource_peers (n : Nat) (g : Source → Source) : (s.modSource n g).peers = s.peers := rfl
@[simp] theorem modSource_alloc (n : Nat) (g : Source → Source) : (s.modSource n g).alloc = s.alloc := rfl
@[simp] theorem modSource_sources (n : Nat) (g : Source → Source) :
    (s.modSource n g).sources = s.sources.modify n g := rfl
@[simp] theorem modSource_sinks (n : Nat) (g : Source → Source) : (s.modSource n g).sinks = s.sinks := rfl
@[simp] theorem modSource_ports (n : Nat) (g : Source → Source) : (s.modSource n g).ports = s.ports := rfl
@[simp] theorem modSource_req (n : Nat) (g : Source → Source) : (s.modSource n g).req = s.req := rfl
@[simp] theorem modSource_mgmt (n : Nat) (g : Source → Source) : (s.modSource n g).mgmt = s.mgmt := rfl

/-! `modSink` of one member of `sinks` -/

@[simp] theorem modSink_pending (n : Nat) (g : Sink → Sink) : (s.modSink n g).pending = s.pending := rfl
@[simp] theorem modSink_resetLow (n : Nat) (g : Sink → Sink) : (s.modSink n g).resetLow = s.resetLow := rfl
@[simp] theorem modSink_loader (n : Nat) (g : Sink → Sink) : (s.modSink n g).loader = s.loader := rfl
@[simp] theorem modSink_sync (n : Nat) (g : Sink → Sink) : (s.modSink n g).sync = s.sync := rfl
@[simp] theorem modSink_line (n : Nat) (g : Sink → Sink) : (s.modSink n g).line = s.line := rfl
@[simp] theorem modSink_rx (n : Nat) (g : Sink → Sink) : (s.modSink n g).rx = s.rx := rfl
@[simp] theorem modSink_tx (n : Nat) (g : Sink → Sink) : (s.modSink n g).tx = s.tx := rfl
@[simp] theorem modSink_peers (n : Nat) (g : Sink → Sink) : (s.modSink n g).peers = s.peers := rfl
@[simp] theorem modSink_alloc (n : Nat) (g : Sink → Sink) : (s.modSink n g).alloc = s.alloc := rfl
@[simp] theorem modSink_sources (n : Nat) (g : Sink → Sink) : (s.modSink n g).sources = s.sources := rfl
@[simp] theorem modSink_sinks (n : Nat) (g : Sink → Sink) : (s.modSink n g).sinks = s.sinks.modify n g := rfl
@[simp] theorem modSink_ports (n : Nat) (g : Sink → Sink) : (s.modSink n g).ports = s.ports := rfl
@[simp] theorem modSink_req (n : Nat) (g : Sink → Sink) : (s.modSink n g).req = s.req := rfl
@[simp] theorem modSink_mgmt (n : Nat) (g : Sink → Sink) : (s.modSink n g).mgmt = s.mgmt := rfl

/-! `modPort` of one member of `ports` -/

@[simp] theorem modPort_pending (n : Nat) (g : Port → Port) : (s.modPort n g).pending = s.pending := rfl
@[simp] theorem modPort_resetLow (n : Nat) (g : Port → Port) : (s.modPort n g).resetLow = s.resetLow := rfl
@[simp] theorem modPort_loader (n : Nat) (g : Port → Port) : (s.modPort n g).loader = s.loader := rfl
@[simp] theorem modPort_sync (n : Nat) (g : Port → Port) : (s.modPort n g).sync = s.sync := rfl
@[simp] theorem modPort_line (n : Nat) (g : Port → Port) : (s.modPort n g).line = s.line := rfl
@[simp] theorem modPort_rx (n : Nat) (g : Port → Port) : (s.modPort n g).rx = s.rx := rfl
@[simp] theorem modPort_tx (n : Nat) (g : Port → Port) : (s.modPort n g).tx = s.tx := rfl
@[simp] theorem modPort_peers (n : Nat) (g : Port → Port) : (s.modPort n g).peers = s.peers := rfl
@[simp] theorem modPort_alloc (n : Nat) (g : Port → Port) : (s.modPort n g).alloc = s.alloc := rfl
@[simp] theorem modPort_sources (n : Nat) (g : Port → Port) : (s.modPort n g).sources = s.sources := rfl
@[simp] theorem modPort_sinks (n : Nat) (g : Port → Port) : (s.modPort n g).sinks = s.sinks := rfl
@[simp] theorem modPort_ports (n : Nat) (g : Port → Port) : (s.modPort n g).ports = s.ports.modify n g := rfl
@[simp] theorem modPort_req (n : Nat) (g : Port → Port) : (s.modPort n g).req = s.req := rfl
@[simp] theorem modPort_mgmt (n : Nat) (g : Port → Port) : (s.modPort n g).mgmt = s.mgmt := rfl

/-! `modPeer` of one member of `peers` -/

@[simp] theorem modPeer_pending (n : Nat) (g : Peer → Peer) : (s.modPeer n g).pending = s.pending := rfl
@[simp] theorem modPeer_resetLow (n : Nat) (g : Peer → Peer) : (s.modPeer n g).resetLow = s.resetLow := rfl
@[simp] theorem modPeer_loader (n : Nat) (g : Peer → Peer) : (s.modPeer n g).loader = s.loader := rfl
@[simp] theorem modPeer_sync (n : Nat) (g : Peer → Peer) : (s.modPeer n g).sync = s.sync := rfl
@[simp] theorem modPeer_line (n : Nat) (g : Peer → Peer) : (s.modPeer n g).line = s.line := rfl
@[simp] theorem modPeer_rx (n : Nat) (g : Peer → Peer) : (s.modPeer n g).rx = s.rx := rfl
@[simp] theorem modPeer_tx (n : Nat) (g : Peer → Peer) : (s.modPeer n g).tx = s.tx := rfl
@[simp] theorem modPeer_peers (n : Nat) (g : Peer → Peer) : (s.modPeer n g).peers = s.peers.modify n g := rfl
@[simp] theorem modPeer_alloc (n : Nat) (g : Peer → Peer) : (s.modPeer n g).alloc = s.alloc := rfl
@[simp] theorem modPeer_sources (n : Nat) (g : Peer → Peer) : (s.modPeer n g).sources = s.sources := rfl
@[simp] theorem modPeer_sinks (n : Nat) (g : Peer → Peer) : (s.modPeer n g).sinks = s.sinks := rfl
@[simp] theorem modPeer_ports (n : Nat) (g : Peer → Peer) : (s.modPeer n g).ports = s.ports := rfl
@[simp] theorem modPeer_req (n : Nat) (g : Peer → Peer) : (s.modPeer n g).req = s.req := rfl
@[simp] theorem modPeer_mgmt (n : Nat) (g : Peer → Peer) : (s.modPeer n g).mgmt = s.mgmt := rfl

/-! `countSync` -/

@[simp] theorem countSync_pending (g : SyncCounters → SyncCounters) : (countSync g s).pending = s.pending := rfl
@[simp] theorem countSync_resetLow (g : SyncCounters → SyncCounters) : (countSync g s).resetLow = s.resetLow := rfl
@[simp] theorem countSync_loader (g : SyncCounters → SyncCounters) : (countSync g s).loader = s.loader := rfl
@[simp] theorem countSync_sync (g : SyncCounters → SyncCounters) :
    (countSync g s).sync = { s.sync with counters := g s.sync.counters } := rfl
@[simp] theorem countSync_line (g : SyncCounters → SyncCounters) : (countSync g s).line = s.line := rfl
@[simp] theorem countSync_rx (g : SyncCounters → SyncCounters) : (countSync g s).rx = s.rx := rfl
@[simp] theorem countSync_tx (g : SyncCounters → SyncCounters) : (countSync g s).tx = s.tx := rfl
@[simp] theorem countSync_peers (g : SyncCounters → SyncCounters) : (countSync g s).peers = s.peers := rfl
@[simp] theorem countSync_alloc (g : SyncCounters → SyncCounters) : (countSync g s).alloc = s.alloc := rfl
@[simp] theorem countSync_sources (g : SyncCounters → SyncCounters) : (countSync g s).sources = s.sources := rfl
@[simp] theorem countSync_sinks (g : SyncCounters → SyncCounters) : (countSync g s).sinks = s.sinks := rfl
@[simp] theorem countSync_ports (g : SyncCounters → SyncCounters) : (countSync g s).ports = s.ports := rfl
@[simp] theorem countSync_req (g : SyncCounters → SyncCounters) : (countSync g s).req = s.req := rfl
@[simp] theorem countSync_mgmt (g : SyncCounters → SyncCounters) : (countSync g s).mgmt = s.mgmt := rfl

/-! `countAlloc` -/

@[simp] theorem countAlloc_pending (g : AllocCounters → AllocCounters) : (countAlloc g s).pending = s.pending := rfl
@[simp] theorem countAlloc_resetLow (g : AllocCounters → AllocCounters) :
    (countAlloc g s).resetLow = s.resetLow := rfl
@[simp] theorem countAlloc_loader (g : AllocCounters → AllocCounters) : (countAlloc g s).loader = s.loader := rfl
@[simp] theorem countAlloc_sync (g : AllocCounters → AllocCounters) : (countAlloc g s).sync = s.sync := rfl
@[simp] theorem countAlloc_line (g : AllocCounters → AllocCounters) : (countAlloc g s).line = s.line := rfl
@[simp] theorem countAlloc_rx (g : AllocCounters → AllocCounters) : (countAlloc g s).rx = s.rx := rfl
@[simp] theorem countAlloc_tx (g : AllocCounters → AllocCounters) : (countAlloc g s).tx = s.tx := rfl
@[simp] theorem countAlloc_peers (g : AllocCounters → AllocCounters) : (countAlloc g s).peers = s.peers := rfl
@[simp] theorem countAlloc_alloc (g : AllocCounters → AllocCounters) :
    (countAlloc g s).alloc = { s.alloc with counters := g s.alloc.counters } := rfl
@[simp] theorem countAlloc_sources (g : AllocCounters → AllocCounters) : (countAlloc g s).sources = s.sources := rfl
@[simp] theorem countAlloc_sinks (g : AllocCounters → AllocCounters) : (countAlloc g s).sinks = s.sinks := rfl
@[simp] theorem countAlloc_ports (g : AllocCounters → AllocCounters) : (countAlloc g s).ports = s.ports := rfl
@[simp] theorem countAlloc_req (g : AllocCounters → AllocCounters) : (countAlloc g s).req = s.req := rfl
@[simp] theorem countAlloc_mgmt (g : AllocCounters → AllocCounters) : (countAlloc g s).mgmt = s.mgmt := rfl

/-! `countReq` -/

@[simp] theorem countReq_pending (g : ReqCounters → ReqCounters) : (countReq g s).pending = s.pending := rfl
@[simp] theorem countReq_resetLow (g : ReqCounters → ReqCounters) : (countReq g s).resetLow = s.resetLow := rfl
@[simp] theorem countReq_loader (g : ReqCounters → ReqCounters) : (countReq g s).loader = s.loader := rfl
@[simp] theorem countReq_sync (g : ReqCounters → ReqCounters) : (countReq g s).sync = s.sync := rfl
@[simp] theorem countReq_line (g : ReqCounters → ReqCounters) : (countReq g s).line = s.line := rfl
@[simp] theorem countReq_rx (g : ReqCounters → ReqCounters) : (countReq g s).rx = s.rx := rfl
@[simp] theorem countReq_tx (g : ReqCounters → ReqCounters) : (countReq g s).tx = s.tx := rfl
@[simp] theorem countReq_peers (g : ReqCounters → ReqCounters) : (countReq g s).peers = s.peers := rfl
@[simp] theorem countReq_alloc (g : ReqCounters → ReqCounters) : (countReq g s).alloc = s.alloc := rfl
@[simp] theorem countReq_sources (g : ReqCounters → ReqCounters) : (countReq g s).sources = s.sources := rfl
@[simp] theorem countReq_sinks (g : ReqCounters → ReqCounters) : (countReq g s).sinks = s.sinks := rfl
@[simp] theorem countReq_ports (g : ReqCounters → ReqCounters) : (countReq g s).ports = s.ports := rfl
@[simp] theorem countReq_req (g : ReqCounters → ReqCounters) :
    (countReq g s).req = { s.req with counters := g s.req.counters } := rfl
@[simp] theorem countReq_mgmt (g : ReqCounters → ReqCounters) : (countReq g s).mgmt = s.mgmt := rfl

/-! `atTick` -/

@[simp] theorem atTick_pending (t : Nat) : (atTick t s).pending = s.pending := rfl
@[simp] theorem atTick_resetLow (t : Nat) : (atTick t s).resetLow = s.resetLow := rfl
@[simp] theorem atTick_loader (t : Nat) : (atTick t s).loader = s.loader := rfl
@[simp] theorem atTick_sync (t : Nat) : (atTick t s).sync = { s.sync with tick := t } := rfl
@[simp] theorem atTick_line (t : Nat) : (atTick t s).line = s.line := rfl
@[simp] theorem atTick_rx (t : Nat) : (atTick t s).rx = s.rx := rfl
@[simp] theorem atTick_tx (t : Nat) : (atTick t s).tx = s.tx := rfl
@[simp] theorem atTick_peers (t : Nat) : (atTick t s).peers = s.peers := rfl
@[simp] theorem atTick_alloc (t : Nat) : (atTick t s).alloc = s.alloc := rfl
@[simp] theorem atTick_sources (t : Nat) : (atTick t s).sources = s.sources := rfl
@[simp] theorem atTick_sinks (t : Nat) : (atTick t s).sinks = s.sinks := rfl
@[simp] theorem atTick_ports (t : Nat) : (atTick t s).ports = s.ports := rfl
@[simp] theorem atTick_req (t : Nat) : (atTick t s).req = s.req := rfl
@[simp] theorem atTick_mgmt (t : Nat) : (atTick t s).mgmt = s.mgmt := rfl

/-! `modQueue` -/

@[simp] theorem modQueue_pending (g : List QItem → List QItem) : (modQueue g s).pending = s.pending := rfl
@[simp] theorem modQueue_resetLow (g : List QItem → List QItem) : (modQueue g s).resetLow = s.resetLow := rfl
@[simp] theorem modQueue_loader (g : List QItem → List QItem) : (modQueue g s).loader = s.loader := rfl
@[simp] theorem modQueue_sync (g : List QItem → List QItem) : (modQueue g s).sync = s.sync := rfl
@[simp] theorem modQueue_line (g : List QItem → List QItem) : (modQueue g s).line = s.line := rfl
@[simp] theorem modQueue_rx (g : List QItem → List QItem) : (modQueue g s).rx = s.rx := rfl
@[simp] theorem modQueue_tx (g : List QItem → List QItem) :
    (modQueue g s).tx = { s.tx with queue := g s.tx.queue } := rfl
@[simp] theorem modQueue_peers (g : List QItem → List QItem) : (modQueue g s).peers = s.peers := rfl
@[simp] theorem modQueue_alloc (g : List QItem → List QItem) : (modQueue g s).alloc = s.alloc := rfl
@[simp] theorem modQueue_sources (g : List QItem → List QItem) : (modQueue g s).sources = s.sources := rfl
@[simp] theorem modQueue_sinks (g : List QItem → List QItem) : (modQueue g s).sinks = s.sinks := rfl
@[simp] theorem modQueue_ports (g : List QItem → List QItem) : (modQueue g s).ports = s.ports := rfl
@[simp] theorem modQueue_req (g : List QItem → List QItem) : (modQueue g s).req = s.req := rfl
@[simp] theorem modQueue_mgmt (g : List QItem → List QItem) : (modQueue g s).mgmt = s.mgmt := rfl

/-! `setQueued` -/

@[simp] theorem setQueued_pending (n : Nat) (q : QueuedItem) : (setQueued n q s).pending = s.pending := rfl
@[simp] theorem setQueued_resetLow (n : Nat) (q : QueuedItem) : (setQueued n q s).resetLow = s.resetLow := rfl
@[simp] theorem setQueued_loader (n : Nat) (q : QueuedItem) : (setQueued n q s).loader = s.loader := rfl
@[simp] theorem setQueued_sync (n : Nat) (q : QueuedItem) : (setQueued n q s).sync = s.sync := rfl
@[simp] theorem setQueued_line (n : Nat) (q : QueuedItem) : (setQueued n q s).line = s.line := rfl
@[simp] theorem setQueued_rx (n : Nat) (q : QueuedItem) : (setQueued n q s).rx = s.rx := rfl
@[simp] theorem setQueued_tx (n : Nat) (q : QueuedItem) : (setQueued n q s).tx = s.tx := rfl
@[simp] theorem setQueued_peers (n : Nat) (q : QueuedItem) : (setQueued n q s).peers = s.peers := rfl
@[simp] theorem setQueued_alloc (n : Nat) (q : QueuedItem) : (setQueued n q s).alloc = s.alloc := rfl
@[simp] theorem setQueued_sources (n : Nat) (q : QueuedItem) :
    (setQueued n q s).sources = s.sources.modify n (fun c => { c with queuedItem := q }) := rfl
@[simp] theorem setQueued_sinks (n : Nat) (q : QueuedItem) : (setQueued n q s).sinks = s.sinks := rfl
@[simp] theorem setQueued_ports (n : Nat) (q : QueuedItem) : (setQueued n q s).ports = s.ports := rfl
@[simp] theorem setQueued_req (n : Nat) (q : QueuedItem) : (setQueued n q s).req = s.req := rfl
@[simp] theorem setQueued_mgmt (n : Nat) (q : QueuedItem) : (setQueued n q s).mgmt = s.mgmt := rfl

/-! `setRelay` -/

@[simp] theorem setRelay_pending (h : Nat) (r : Option Relay) : (setRelay h r s).pending = s.pending := rfl
@[simp] theorem setRelay_resetLow (h : Nat) (r : Option Relay) : (setRelay h r s).resetLow = s.resetLow := rfl
@[simp] theorem setRelay_loader (h : Nat) (r : Option Relay) : (setRelay h r s).loader = s.loader := rfl
@[simp] theorem setRelay_sync (h : Nat) (r : Option Relay) : (setRelay h r s).sync = s.sync := rfl
@[simp] theorem setRelay_line (h : Nat) (r : Option Relay) : (setRelay h r s).line = s.line := rfl
@[simp] theorem setRelay_rx (h : Nat) (r : Option Relay) : (setRelay h r s).rx = s.rx := rfl
@[simp] theorem setRelay_tx (h : Nat) (r : Option Relay) : (setRelay h r s).tx = s.tx := rfl
@[simp] theorem setRelay_peers (h : Nat) (r : Option Relay) : (setRelay h r s).peers = s.peers := rfl
@[simp] theorem setRelay_alloc (h : Nat) (r : Option Relay) : (setRelay h r s).alloc = s.alloc := rfl
@[simp] theorem setRelay_sources (h : Nat) (r : Option Relay) : (setRelay h r s).sources = s.sources := rfl
@[simp] theorem setRelay_sinks (h : Nat) (r : Option Relay) : (setRelay h r s).sinks = s.sinks := rfl
@[simp] theorem setRelay_ports (h : Nat) (r : Option Relay) : (setRelay h r s).ports = s.ports := rfl
@[simp] theorem setRelay_req (h : Nat) (r : Option Relay) :
    (setRelay h r s).req = { s.req with table := s.req.table.set h r } := rfl
@[simp] theorem setRelay_mgmt (h : Nat) (r : Option Relay) : (setRelay h r s).mgmt = s.mgmt := rfl

/-! `countLoss` -/

@[simp] theorem countLoss_pending : (countLoss s).pending = s.pending := rfl
@[simp] theorem countLoss_resetLow : (countLoss s).resetLow = s.resetLow := rfl
@[simp] theorem countLoss_loader : (countLoss s).loader = s.loader := rfl
@[simp] theorem countLoss_sync : (countLoss s).sync = s.sync := rfl
@[simp] theorem countLoss_line : (countLoss s).line = s.line := rfl
@[simp] theorem countLoss_rx : (countLoss s).rx = s.rx := rfl
@[simp] theorem countLoss_tx : (countLoss s).tx = { s.tx with fullQueueLosses := bump s.tx.fullQueueLosses } := rfl
@[simp] theorem countLoss_peers : (countLoss s).peers = s.peers := rfl
@[simp] theorem countLoss_alloc : (countLoss s).alloc = s.alloc := rfl
@[simp] theorem countLoss_sources : (countLoss s).sources = s.sources := rfl
@[simp] theorem countLoss_sinks : (countLoss s).sinks = s.sinks := rfl
@[simp] theorem countLoss_ports : (countLoss s).ports = s.ports := rfl
@[simp] theorem countLoss_req : (countLoss s).req = s.req := rfl
@[simp] theorem countLoss_mgmt : (countLoss s).mgmt = s.mgmt := rfl

/-! `enterListen` -/

@[simp] theorem enterListen_pending : (enterListen s).pending = s.pending := rfl
@[simp] theorem enterListen_resetLow : (enterListen s).resetLow = s.resetLow := rfl
@[simp] theorem enterListen_loader : (enterListen s).loader = s.loader := rfl
@[simp] theorem enterListen_sync : (enterListen s).sync = s.sync.toListen := rfl
@[simp] theorem enterListen_line : (enterListen s).line = s.line := rfl
@[simp] theorem enterListen_rx : (enterListen s).rx = s.rx := rfl
@[simp] theorem enterListen_tx : (enterListen s).tx = s.tx := rfl
@[simp] theorem enterListen_peers : (enterListen s).peers = s.peers := rfl
@[simp] theorem enterListen_alloc : (enterListen s).alloc = s.alloc := rfl
@[simp] theorem enterListen_sources : (enterListen s).sources = s.sources := rfl
@[simp] theorem enterListen_sinks : (enterListen s).sinks = s.sinks := rfl
@[simp] theorem enterListen_ports : (enterListen s).ports = s.ports := rfl
@[simp] theorem enterListen_req : (enterListen s).req = s.req := rfl
@[simp] theorem enterListen_mgmt : (enterListen s).mgmt = s.mgmt := rfl

/-! `installRun` -/

@[simp] theorem installRun_pending (use : SlotUse) (e : DirEntry) : (installRun use e s).pending = s.pending := rfl
@[simp] theorem installRun_resetLow (use : SlotUse) (e : DirEntry) : (installRun use e s).resetLow = s.resetLow := rfl
@[simp] theorem installRun_loader (use : SlotUse) (e : DirEntry) : (installRun use e s).loader = s.loader := rfl
@[simp] theorem installRun_sync (use : SlotUse) (e : DirEntry) : (installRun use e s).sync = s.sync := rfl
@[simp] theorem installRun_line (use : SlotUse) (e : DirEntry) : (installRun use e s).line = s.line := rfl
@[simp] theorem installRun_rx (use : SlotUse) (e : DirEntry) : (installRun use e s).rx = s.rx := rfl
@[simp] theorem installRun_tx (use : SlotUse) (e : DirEntry) : (installRun use e s).tx = s.tx := rfl
@[simp] theorem installRun_peers (use : SlotUse) (e : DirEntry) : (installRun use e s).peers = s.peers := rfl
@[simp] theorem installRun_alloc (use : SlotUse) (e : DirEntry) :
    (installRun use e s).alloc = { s.alloc with slots := setRun e.first e.count use s.alloc.slots, dir := withEntry e s.alloc.dir } := rfl
@[simp] theorem installRun_sources (use : SlotUse) (e : DirEntry) : (installRun use e s).sources = s.sources := rfl
@[simp] theorem installRun_sinks (use : SlotUse) (e : DirEntry) : (installRun use e s).sinks = s.sinks := rfl
@[simp] theorem installRun_ports (use : SlotUse) (e : DirEntry) : (installRun use e s).ports = s.ports := rfl
@[simp] theorem installRun_req (use : SlotUse) (e : DirEntry) : (installRun use e s).req = s.req := rfl
@[simp] theorem installRun_mgmt (use : SlotUse) (e : DirEntry) : (installRun use e s).mgmt = s.mgmt := rfl

/-! `removeRun` -/

@[simp] theorem removeRun_pending (use : SlotUse) (e : DirEntry) : (removeRun use e s).pending = s.pending := rfl
@[simp] theorem removeRun_resetLow (use : SlotUse) (e : DirEntry) : (removeRun use e s).resetLow = s.resetLow := rfl
@[simp] theorem removeRun_loader (use : SlotUse) (e : DirEntry) : (removeRun use e s).loader = s.loader := rfl
@[simp] theorem removeRun_sync (use : SlotUse) (e : DirEntry) : (removeRun use e s).sync = s.sync := rfl
@[simp] theorem removeRun_line (use : SlotUse) (e : DirEntry) : (removeRun use e s).line = s.line := rfl
@[simp] theorem removeRun_rx (use : SlotUse) (e : DirEntry) : (removeRun use e s).rx = s.rx := rfl
@[simp] theorem removeRun_tx (use : SlotUse) (e : DirEntry) : (removeRun use e s).tx = s.tx := rfl
@[simp] theorem removeRun_peers (use : SlotUse) (e : DirEntry) : (removeRun use e s).peers = s.peers := rfl
@[simp] theorem removeRun_alloc (use : SlotUse) (e : DirEntry) :
    (removeRun use e s).alloc = { s.alloc with slots := setRun e.first e.count use s.alloc.slots, dir := withoutTag e.tag s.alloc.dir } := rfl
@[simp] theorem removeRun_sources (use : SlotUse) (e : DirEntry) : (removeRun use e s).sources = s.sources := rfl
@[simp] theorem removeRun_sinks (use : SlotUse) (e : DirEntry) : (removeRun use e s).sinks = s.sinks := rfl
@[simp] theorem removeRun_ports (use : SlotUse) (e : DirEntry) : (removeRun use e s).ports = s.ports := rfl
@[simp] theorem removeRun_req (use : SlotUse) (e : DirEntry) : (removeRun use e s).req = s.req := rfl
@[simp] theorem removeRun_mgmt (use : SlotUse) (e : DirEntry) : (removeRun use e s).mgmt = s.mgmt := rfl

end Sys2Proof.Machine
end

