-- ==== Sys2Proof/Laws/Ops.lean ====
section
/-! SUPPORT. What the shared operations do: counters, loops, notices, runs in the slot map and the directory. -/

namespace Sys2Proof.Machine

/-! ### Counters -/

theorem bump_le (n : Nat) : bump n ≤ 65535 := by unfold bump; omega

theorem bump_of_lt {n : Nat} (h : n < 65535) : bump n = n + 1 := by unfold bump; omega

theorem bumpBy_le (k n : Nat) : bumpBy k n ≤ 65535 := by unfold bumpBy; omega

/-! ### Loops -/

/-- A property every round keeps holds after a fold. -/
theorem foldl_inv {α : Type} (P : State → Prop) (f : State → α → State) (l : List α) (s : State)
    (h0 : P s) (h : ∀ t x, P t → P (f t x)) : P (l.foldl f s) := by
  induction l generalizing s with
  | nil => exact h0
  | cons x rest ih => exact ih _ (h _ _ h0)

/-- A property every round keeps holds after a loop. -/
theorem forEach_inv (P : State → Prop) (n : Nat) (f : Nat → State → State) (s : State)
    (h0 : P s) (h : ∀ i t, P t → P (f i t)) : P (forEach n f s) :=
  foldl_inv P _ _ _ h0 (fun t i => h i t)

@[simp] theorem forEach_zero (f : Nat → State → State) (s : State) : forEach 0 f s = s := rfl

theorem forEach_succ (n : Nat) (f : Nat → State → State) (s : State) :
    forEach (n + 1) f s = f n (forEach n f s) := by
  simp [forEach, List.range_succ]

/-! ### Notices -/

/-- Posting a notice: it joins the tail, or the queue is full and the loss is counted (R185). -/
theorem notify_mgmt (n : Notice) (s : State) :
    (notify n s).mgmt = if s.mgmt.notices.length < 16 then { s.mgmt with notices := s.mgmt.notices ++ [n] }
      else { s.mgmt with lost := bump s.mgmt.lost } := rfl

@[simp] theorem notify_frame (n : Notice) (s : State) :
    (notify n s).pending = s.pending ∧ (notify n s).resetLow = s.resetLow ∧ (notify n s).loader = s.loader ∧
    (notify n s).sync = s.sync ∧ (notify n s).line = s.line ∧ (notify n s).rx = s.rx ∧ (notify n s).tx = s.tx ∧
    (notify n s).peers = s.peers ∧ (notify n s).alloc = s.alloc ∧ (notify n s).sources = s.sources ∧
    (notify n s).sinks = s.sinks ∧ (notify n s).ports = s.ports ∧ (notify n s).req = s.req :=
  ⟨rfl, rfl, rfl, rfl, rfl, rfl, rfl, rfl, rfl, rfl, rfl, rfl, rfl⟩

/-- Removing the head of a full queue with losses places a LOST notice (R185). -/
theorem removeNotice_full {m : Mgmt} (h : 16 ≤ m.notices.length) (hl : 0 < m.lost) :
    removeNotice m = { m with notices := m.notices.tail ++ [.lost m.lost], lost := 0 } := by
  simp [removeNotice, h, hl]

/-- Removing the head otherwise places nothing (R185). -/
theorem removeNotice_else {m : Mgmt} (h : ¬(16 ≤ m.notices.length ∧ 0 < m.lost)) :
    removeNotice m = { m with notices := m.notices.tail } := by
  simp only [removeNotice, if_neg h]

/-! ### The slot map -/

@[simp] theorem mapSlots_length (f : Nat → Slot → Slot) (k : Nat) (l : List Slot) :
    (mapSlots f k l).length = l.length := by
  induction l generalizing k with
  | nil => rfl
  | cons x rest ih => simp [mapSlots, ih]

/-- Each entry is changed by the function of its own slot number. -/
theorem mapSlots_getElem? (f : Nat → Slot → Slot) (k i : Nat) (l : List Slot) :
    (mapSlots f k l)[i]? = (l[i]?).map (f (k + i)) := by
  induction l generalizing k i with
  | nil => simp [mapSlots]
  | cons x rest ih =>
    cases i with
    | zero => simp [mapSlots]
    | succ j => simp [mapSlots, ih, Nat.add_right_comm, Nat.add_assoc]

@[simp] theorem setRun_length (first count : Nat) (use : SlotUse) (l : List Slot) :
    (setRun first count use l).length = l.length := by simp [setRun]

/-- The entry of a data slot after a run is set: `use` inside the run, the carrier count kept, all else unchanged. -/
theorem setRun_slot (first count k : Nat) (use : SlotUse) (l : List Slot) (hk : 8 ≤ k) (hl : k - 8 < l.length) :
    (setRun first count use l).getD (k - 8) .cold =
      if inRun first count k then { l.getD (k - 8) .cold with use := use } else l.getD (k - 8) .cold := by
  have e : 8 + (k - 8) = k := by omega
  simp [setRun, List.getD_eq_getElem?_getD, mapSlots_getElem?, List.getElem?_eq_getElem hl, e]

/-- Installing a run sets its slots and leaves every other one (R74). -/
theorem installRun_slot (use : SlotUse) (e : DirEntry) (s : State) (k : Nat) (hk : 8 ≤ k)
    (hl : k - 8 < s.alloc.slots.length) :
    (installRun use e s).slot k = if inRun e.first e.count k then { s.slot k with use := use } else s.slot k := by
  simpa [State.slot] using setRun_slot e.first e.count k use s.alloc.slots hk hl

/-- Removing a run sets its slots and leaves every other one (R74). -/
theorem removeRun_slot (use : SlotUse) (e : DirEntry) (s : State) (k : Nat) (hk : 8 ≤ k)
    (hl : k - 8 < s.alloc.slots.length) :
    (removeRun use e s).slot k = if inRun e.first e.count k then { s.slot k with use := use } else s.slot k := by
  simpa [State.slot] using setRun_slot e.first e.count k use s.alloc.slots hk hl

/-! ### The directory -/

theorem findTag_withoutTag_self (tag : Nat) (dir : List DirEntry) : findTag tag (withoutTag tag dir) = none := by
  simp [findTag, withoutTag, List.find?_eq_none]

theorem findTag_withoutTag_of_ne {tag other : Nat} (h : other ≠ tag) (dir : List DirEntry) :
    findTag other (withoutTag tag dir) = findTag other dir := by
  induction dir with
  | nil => rfl
  | cons e rest ih =>
    unfold findTag withoutTag at *
    by_cases h1 : e.tag = tag
    · have h2 : ¬ (e.tag = other) := by omega
      simp [h1, ih, Ne.symm h]
    · by_cases h2 : e.tag = other
      · subst h2; simp [h1]
      · simp [h1, h2, ih]

/-- The entry of a tag after an entry is put in: the new one for its own tag, the old one for any other (R102). -/
theorem findTag_withEntry (e : DirEntry) (tag : Nat) (dir : List DirEntry) :
    findTag tag (withEntry e dir) = if e.tag = tag then some e else findTag tag dir := by
  unfold withEntry
  by_cases h : e.tag = tag
  · subst h
    have h0 : List.find? (fun x => x.tag == e.tag) (withoutTag e.tag dir) = none := findTag_withoutTag_self e.tag dir
    simp [findTag, List.find?_append, h0]
  · have h0 := findTag_withoutTag_of_ne (Ne.symm h) dir
    unfold findTag at h0 ⊢
    simp [List.find?_append, h, h0]

/-- The directory after an entry is taken out: nothing for its tag, every other tag as before (R102). -/
theorem findTag_withoutTag (tag other : Nat) (dir : List DirEntry) :
    findTag other (withoutTag tag dir) = if other = tag then none else findTag other dir := by
  by_cases h : other = tag
  · subst h; simp [findTag_withoutTag_self]
  · simp [h, findTag_withoutTag_of_ne h]

theorem tags_withoutTag_nodup {dir : List DirEntry} (tag : Nat) (h : (dir.map DirEntry.tag).Nodup) :
    ((withoutTag tag dir).map DirEntry.tag).Nodup :=
  h.sublist (List.Sublist.map _ List.filter_sublist)

/-- Putting an entry in keeps one entry per tag (R101). -/
theorem tags_withEntry_nodup {dir : List DirEntry} (e : DirEntry) (h : (dir.map DirEntry.tag).Nodup) :
    ((withEntry e dir).map DirEntry.tag).Nodup := by
  unfold withEntry
  rw [List.map_append, List.nodup_append]
  refine ⟨tags_withoutTag_nodup e.tag h, by simp, ?_⟩
  intro a ha b hb
  simp only [List.map_cons, List.map_nil, List.mem_singleton] at hb
  subst hb
  simp only [List.mem_map, withoutTag, List.mem_filter] at ha
  obtain ⟨x, ⟨_, hx⟩, rfl⟩ := ha
  simpa using hx

end Sys2Proof.Machine
end

