-- ==== Sys2Proof/Laws/Frames.lean ====
section
/-! SUPPORT. The frame of each shared operation: every block of the state it cannot touch. -/

namespace Sys2Proof.Machine

/-- `notifySync` touches at most: mgmt. -/
@[simp] theorem notifySync_frame (c : SyncCause) (s : State) :
    (notifySync c s).pending = s.pending ∧ (notifySync c s).resetLow = s.resetLow ∧
    (notifySync c s).loader = s.loader ∧ (notifySync c s).sync = s.sync ∧ (notifySync c s).line = s.line ∧
    (notifySync c s).rx = s.rx ∧ (notifySync c s).tx = s.tx ∧ (notifySync c s).peers = s.peers ∧
    (notifySync c s).alloc = s.alloc ∧ (notifySync c s).sources = s.sources ∧ (notifySync c s).sinks = s.sinks ∧
    (notifySync c s).ports = s.ports ∧ (notifySync c s).req = s.req := by
  simp [notifySync]

/-- `completeRelay` touches at most: req, mgmt. -/
@[simp] theorem completeRelay_frame (h : Nat) (r : RelayOutcome) (s : State) :
    (completeRelay h r s).pending = s.pending ∧ (completeRelay h r s).resetLow = s.resetLow ∧
    (completeRelay h r s).loader = s.loader ∧ (completeRelay h r s).sync = s.sync ∧
    (completeRelay h r s).line = s.line ∧ (completeRelay h r s).rx = s.rx ∧ (completeRelay h r s).tx = s.tx ∧
    (completeRelay h r s).peers = s.peers ∧ (completeRelay h r s).alloc = s.alloc ∧
    (completeRelay h r s).sources = s.sources ∧ (completeRelay h r s).sinks = s.sinks ∧
    (completeRelay h r s).ports = s.ports := by
  unfold completeRelay
  repeat' split
  all_goals simp

/-- `completeWhere` touches at most: req, mgmt. -/
@[simp] theorem completeWhere_frame (p : Relay → Bool) (r : RelayOutcome) (s : State) :
    (completeWhere p r s).pending = s.pending ∧ (completeWhere p r s).resetLow = s.resetLow ∧
    (completeWhere p r s).loader = s.loader ∧ (completeWhere p r s).sync = s.sync ∧
    (completeWhere p r s).line = s.line ∧ (completeWhere p r s).rx = s.rx ∧ (completeWhere p r s).tx = s.tx ∧
    (completeWhere p r s).peers = s.peers ∧ (completeWhere p r s).alloc = s.alloc ∧
    (completeWhere p r s).sources = s.sources ∧ (completeWhere p r s).sinks = s.sinks ∧
    (completeWhere p r s).ports = s.ports := by
  unfold completeWhere
  refine forEach_inv (fun t : State =>
        t.pending = s.pending ∧ t.resetLow = s.resetLow ∧ t.loader = s.loader ∧ t.sync = s.sync ∧ t.line = s.line ∧
        t.rx = s.rx ∧ t.tx = s.tx ∧ t.peers = s.peers ∧ t.alloc = s.alloc ∧ t.sources = s.sources ∧
        t.sinks = s.sinks ∧ t.ports = s.ports) _ _ _ (by simp) ?_
  intro i t h
  repeat' split
  all_goals simp_all

/-- `dropRelay` touches at most: req, mgmt. -/
@[simp] theorem dropRelay_frame (h q : Nat) (s : State) :
    (dropRelay h q s).pending = s.pending ∧ (dropRelay h q s).resetLow = s.resetLow ∧
    (dropRelay h q s).loader = s.loader ∧ (dropRelay h q s).sync = s.sync ∧ (dropRelay h q s).line = s.line ∧
    (dropRelay h q s).rx = s.rx ∧ (dropRelay h q s).tx = s.tx ∧ (dropRelay h q s).peers = s.peers ∧
    (dropRelay h q s).alloc = s.alloc ∧ (dropRelay h q s).sources = s.sources ∧
    (dropRelay h q s).sinks = s.sinks ∧ (dropRelay h q s).ports = s.ports := by
  unfold dropRelay
  repeat' split
  all_goals simp

/-- `returnItem` touches at most: tx, sources, req, mgmt. -/
@[simp] theorem returnItem_frame (it : QItem) (s : State) :
    (returnItem it s).pending = s.pending ∧ (returnItem it s).resetLow = s.resetLow ∧
    (returnItem it s).loader = s.loader ∧ (returnItem it s).sync = s.sync ∧ (returnItem it s).line = s.line ∧
    (returnItem it s).rx = s.rx ∧ (returnItem it s).peers = s.peers ∧ (returnItem it s).alloc = s.alloc ∧
    (returnItem it s).sinks = s.sinks ∧ (returnItem it s).ports = s.ports := by
  unfold returnItem
  repeat' split
  all_goals simp

/-- `refuseItem` touches at most: tx, sources, req, mgmt. -/
@[simp] theorem refuseItem_frame (it : QItem) (s : State) :
    (refuseItem it s).pending = s.pending ∧ (refuseItem it s).resetLow = s.resetLow ∧
    (refuseItem it s).loader = s.loader ∧ (refuseItem it s).sync = s.sync ∧ (refuseItem it s).line = s.line ∧
    (refuseItem it s).rx = s.rx ∧ (refuseItem it s).peers = s.peers ∧ (refuseItem it s).alloc = s.alloc ∧
    (refuseItem it s).sinks = s.sinks ∧ (refuseItem it s).ports = s.ports := by
  unfold refuseItem
  repeat' split
  all_goals simp

/-- `noteQueued` touches at most: sources. -/
@[simp] theorem noteQueued_frame (it : QItem) (s : State) :
    (noteQueued it s).pending = s.pending ∧ (noteQueued it s).resetLow = s.resetLow ∧
    (noteQueued it s).loader = s.loader ∧ (noteQueued it s).sync = s.sync ∧ (noteQueued it s).line = s.line ∧
    (noteQueued it s).rx = s.rx ∧ (noteQueued it s).tx = s.tx ∧ (noteQueued it s).peers = s.peers ∧
    (noteQueued it s).alloc = s.alloc ∧ (noteQueued it s).sinks = s.sinks ∧ (noteQueued it s).ports = s.ports ∧
    (noteQueued it s).req = s.req ∧ (noteQueued it s).mgmt = s.mgmt := by
  unfold noteQueued
  repeat' split
  all_goals simp

/-- `enqueue` touches at most: tx, sources, req, mgmt. -/
@[simp] theorem enqueue_frame (it : QItem) (s : State) :
    (enqueue it s).pending = s.pending ∧ (enqueue it s).resetLow = s.resetLow ∧
    (enqueue it s).loader = s.loader ∧ (enqueue it s).sync = s.sync ∧ (enqueue it s).line = s.line ∧
    (enqueue it s).rx = s.rx ∧ (enqueue it s).peers = s.peers ∧ (enqueue it s).alloc = s.alloc ∧
    (enqueue it s).sinks = s.sinks ∧ (enqueue it s).ports = s.ports := by
  unfold enqueue
  repeat' split
  all_goals simp

/-- `post` touches at most: tx, sources, req, mgmt. -/
@[simp] theorem post_frame (it : QItem) (s : State) :
    (post it s).pending = s.pending ∧ (post it s).resetLow = s.resetLow ∧ (post it s).loader = s.loader ∧
    (post it s).sync = s.sync ∧ (post it s).line = s.line ∧ (post it s).rx = s.rx ∧
    (post it s).peers = s.peers ∧ (post it s).alloc = s.alloc ∧ (post it s).sinks = s.sinks ∧
    (post it s).ports = s.ports := by
  unfold post
  repeat' split
  all_goals simp

/-- `markStale` touches at most: tx. -/
@[simp] theorem markStale_frame (n : Nat) (s : State) :
    (markStale n s).pending = s.pending ∧ (markStale n s).resetLow = s.resetLow ∧
    (markStale n s).loader = s.loader ∧ (markStale n s).sync = s.sync ∧ (markStale n s).line = s.line ∧
    (markStale n s).rx = s.rx ∧ (markStale n s).peers = s.peers ∧ (markStale n s).alloc = s.alloc ∧
    (markStale n s).sources = s.sources ∧ (markStale n s).sinks = s.sinks ∧ (markStale n s).ports = s.ports ∧
    (markStale n s).req = s.req ∧ (markStale n s).mgmt = s.mgmt := by
  simp [markStale]

/-- `queueLeave` touches at most: tx. -/
@[simp] theorem queueLeave_frame (s : State) :
    (queueLeave s).pending = s.pending ∧ (queueLeave s).resetLow = s.resetLow ∧
    (queueLeave s).loader = s.loader ∧ (queueLeave s).sync = s.sync ∧ (queueLeave s).line = s.line ∧
    (queueLeave s).rx = s.rx ∧ (queueLeave s).peers = s.peers ∧ (queueLeave s).alloc = s.alloc ∧
    (queueLeave s).sources = s.sources ∧ (queueLeave s).sinks = s.sinks ∧ (queueLeave s).ports = s.ports ∧
    (queueLeave s).req = s.req ∧ (queueLeave s).mgmt = s.mgmt := by
  unfold queueLeave
  repeat' split
  all_goals simp

/-- `purgeQueue` touches at most: tx, sources, req, mgmt. -/
@[simp] theorem purgeQueue_frame (s : State) :
    (purgeQueue s).pending = s.pending ∧ (purgeQueue s).resetLow = s.resetLow ∧
    (purgeQueue s).loader = s.loader ∧ (purgeQueue s).sync = s.sync ∧ (purgeQueue s).line = s.line ∧
    (purgeQueue s).rx = s.rx ∧ (purgeQueue s).peers = s.peers ∧ (purgeQueue s).alloc = s.alloc ∧
    (purgeQueue s).sinks = s.sinks ∧ (purgeQueue s).ports = s.ports := by
  unfold purgeQueue
  refine forEach_inv (fun t : State =>
        t.pending = s.pending ∧ t.resetLow = s.resetLow ∧ t.loader = s.loader ∧ t.sync = s.sync ∧ t.line = s.line ∧
        t.rx = s.rx ∧ t.peers = s.peers ∧ t.alloc = s.alloc ∧ t.sinks = s.sinks ∧ t.ports = s.ports) _ _ _ ?_ ?_
  · refine foldl_inv (fun t : State =>
        t.pending = s.pending ∧ t.resetLow = s.resetLow ∧ t.loader = s.loader ∧ t.sync = s.sync ∧ t.line = s.line ∧
        t.rx = s.rx ∧ t.peers = s.peers ∧ t.alloc = s.alloc ∧ t.sinks = s.sinks ∧ t.ports = s.ports) _ _ _ (by simp) ?_
    intro t x h
    simp_all
  · intro i t h
    refine foldl_inv (fun t : State =>
        t.pending = s.pending ∧ t.resetLow = s.resetLow ∧ t.loader = s.loader ∧ t.sync = s.sync ∧ t.line = s.line ∧
        t.rx = s.rx ∧ t.peers = s.peers ∧ t.alloc = s.alloc ∧ t.sinks = s.sinks ∧ t.ports = s.ports) _ _ _ h ?_
    intro u x hu
    repeat' split
    all_goals simp_all

/-- `notifySink` touches at most: mgmt. -/
@[simp] theorem notifySink_frame (n : Nat) (c : Sink) (e : SinkEvent) (s : State) :
    (notifySink n c e s).pending = s.pending ∧ (notifySink n c e s).resetLow = s.resetLow ∧
    (notifySink n c e s).loader = s.loader ∧ (notifySink n c e s).sync = s.sync ∧
    (notifySink n c e s).line = s.line ∧ (notifySink n c e s).rx = s.rx ∧ (notifySink n c e s).tx = s.tx ∧
    (notifySink n c e s).peers = s.peers ∧ (notifySink n c e s).alloc = s.alloc ∧
    (notifySink n c e s).sources = s.sources ∧ (notifySink n c e s).sinks = s.sinks ∧
    (notifySink n c e s).ports = s.ports ∧ (notifySink n c e s).req = s.req := by
  simp [notifySink]

/-- `evaluateSink` touches at most: sinks, mgmt. -/
@[simp] theorem evaluateSink_frame (n : Nat) (c : Sink) (e : DirEntry) (s : State) :
    (evaluateSink n c e s).pending = s.pending ∧ (evaluateSink n c e s).resetLow = s.resetLow ∧
    (evaluateSink n c e s).loader = s.loader ∧ (evaluateSink n c e s).sync = s.sync ∧
    (evaluateSink n c e s).line = s.line ∧ (evaluateSink n c e s).rx = s.rx ∧ (evaluateSink n c e s).tx = s.tx ∧
    (evaluateSink n c e s).peers = s.peers ∧ (evaluateSink n c e s).alloc = s.alloc ∧
    (evaluateSink n c e s).sources = s.sources ∧ (evaluateSink n c e s).ports = s.ports ∧
    (evaluateSink n c e s).req = s.req := by
  unfold evaluateSink
  repeat' split
  all_goals simp

/-- `signalSink` touches at most: sinks, mgmt. -/
@[simp] theorem signalSink_frame (n : Nat) (c : Sink) (ch : Change) (s : State) :
    (signalSink n c ch s).pending = s.pending ∧ (signalSink n c ch s).resetLow = s.resetLow ∧
    (signalSink n c ch s).loader = s.loader ∧ (signalSink n c ch s).sync = s.sync ∧
    (signalSink n c ch s).line = s.line ∧ (signalSink n c ch s).rx = s.rx ∧ (signalSink n c ch s).tx = s.tx ∧
    (signalSink n c ch s).peers = s.peers ∧ (signalSink n c ch s).alloc = s.alloc ∧
    (signalSink n c ch s).sources = s.sources ∧ (signalSink n c ch s).ports = s.ports ∧
    (signalSink n c ch s).req = s.req := by
  unfold signalSink
  dsimp only
  repeat' split
  all_goals simp

/-- `deliverSignals` touches at most: sinks, mgmt. -/
@[simp] theorem deliverSignals_frame (b a : List DirEntry) (s : State) :
    (deliverSignals b a s).pending = s.pending ∧ (deliverSignals b a s).resetLow = s.resetLow ∧
    (deliverSignals b a s).loader = s.loader ∧ (deliverSignals b a s).sync = s.sync ∧
    (deliverSignals b a s).line = s.line ∧ (deliverSignals b a s).rx = s.rx ∧ (deliverSignals b a s).tx = s.tx ∧
    (deliverSignals b a s).peers = s.peers ∧ (deliverSignals b a s).alloc = s.alloc ∧
    (deliverSignals b a s).sources = s.sources ∧ (deliverSignals b a s).ports = s.ports ∧
    (deliverSignals b a s).req = s.req := by
  unfold deliverSignals
  refine forEach_inv (fun t : State =>
        t.pending = s.pending ∧ t.resetLow = s.resetLow ∧ t.loader = s.loader ∧ t.sync = s.sync ∧ t.line = s.line ∧
        t.rx = s.rx ∧ t.tx = s.tx ∧ t.peers = s.peers ∧ t.alloc = s.alloc ∧ t.sources = s.sources ∧
        t.ports = s.ports ∧ t.req = s.req) _ _ _ (by simp) ?_
  intro i t h
  repeat' split
  all_goals simp_all

/-- `pushSink` touches at most: sinks, mgmt. -/
@[simp] theorem pushSink_frame (n : Nat) (c : Sink) (m : List Mark) (s : State) :
    (pushSink n c m s).pending = s.pending ∧ (pushSink n c m s).resetLow = s.resetLow ∧
    (pushSink n c m s).loader = s.loader ∧ (pushSink n c m s).sync = s.sync ∧ (pushSink n c m s).line = s.line ∧
    (pushSink n c m s).rx = s.rx ∧ (pushSink n c m s).tx = s.tx ∧ (pushSink n c m s).peers = s.peers ∧
    (pushSink n c m s).alloc = s.alloc ∧ (pushSink n c m s).sources = s.sources ∧
    (pushSink n c m s).ports = s.ports ∧ (pushSink n c m s).req = s.req := by
  unfold pushSink countSink
  dsimp only
  repeat' split
  all_goals simp

/-- `completeCapture` touches at most: sinks, mgmt. -/
@[simp] theorem completeCapture_frame (n : Nat) (c : Sink) (m : List Mark) (s : State) :
    (completeCapture n c m s).pending = s.pending ∧ (completeCapture n c m s).resetLow = s.resetLow ∧
    (completeCapture n c m s).loader = s.loader ∧ (completeCapture n c m s).sync = s.sync ∧
    (completeCapture n c m s).line = s.line ∧ (completeCapture n c m s).rx = s.rx ∧
    (completeCapture n c m s).tx = s.tx ∧ (completeCapture n c m s).peers = s.peers ∧
    (completeCapture n c m s).alloc = s.alloc ∧ (completeCapture n c m s).sources = s.sources ∧
    (completeCapture n c m s).ports = s.ports ∧ (completeCapture n c m s).req = s.req := by
  unfold completeCapture countGap countSink
  dsimp only
  repeat' split
  all_goals simp

/-- `captureSlot` touches at most: sinks, mgmt. -/
@[simp] theorem captureSlot_frame (k : Nat) (m : Mark) (n : Nat) (s : State) :
    (captureSlot k m n s).pending = s.pending ∧ (captureSlot k m n s).resetLow = s.resetLow ∧
    (captureSlot k m n s).loader = s.loader ∧ (captureSlot k m n s).sync = s.sync ∧
    (captureSlot k m n s).line = s.line ∧ (captureSlot k m n s).rx = s.rx ∧ (captureSlot k m n s).tx = s.tx ∧
    (captureSlot k m n s).peers = s.peers ∧ (captureSlot k m n s).alloc = s.alloc ∧
    (captureSlot k m n s).sources = s.sources ∧ (captureSlot k m n s).ports = s.ports ∧
    (captureSlot k m n s).req = s.req := by
  unfold captureSlot
  repeat' split
  all_goals simp

/-- `playSink` touches at most: sinks, ports. -/
@[simp] theorem playSink_frame (p : Nat) (b : Bool) (n : Nat) (s : State) :
    (playSink p b n s).pending = s.pending ∧ (playSink p b n s).resetLow = s.resetLow ∧
    (playSink p b n s).loader = s.loader ∧ (playSink p b n s).sync = s.sync ∧ (playSink p b n s).line = s.line ∧
    (playSink p b n s).rx = s.rx ∧ (playSink p b n s).tx = s.tx ∧ (playSink p b n s).peers = s.peers ∧
    (playSink p b n s).alloc = s.alloc ∧ (playSink p b n s).sources = s.sources ∧
    (playSink p b n s).req = s.req ∧ (playSink p b n s).mgmt = s.mgmt := by
  unfold playSink
  dsimp only
  repeat' split
  all_goals simp

/-- `fillLanes` touches at most: sinks, ports. -/
@[simp] theorem fillLanes_frame (p : Nat) (b : Bool) (s : State) :
    (fillLanes p b s).pending = s.pending ∧ (fillLanes p b s).resetLow = s.resetLow ∧
    (fillLanes p b s).loader = s.loader ∧ (fillLanes p b s).sync = s.sync ∧ (fillLanes p b s).line = s.line ∧
    (fillLanes p b s).rx = s.rx ∧ (fillLanes p b s).tx = s.tx ∧ (fillLanes p b s).peers = s.peers ∧
    (fillLanes p b s).alloc = s.alloc ∧ (fillLanes p b s).sources = s.sources ∧ (fillLanes p b s).req = s.req ∧
    (fillLanes p b s).mgmt = s.mgmt := by
  unfold fillLanes
  refine forEach_inv (fun t : State =>
        t.pending = s.pending ∧ t.resetLow = s.resetLow ∧ t.loader = s.loader ∧ t.sync = s.sync ∧ t.line = s.line ∧
        t.rx = s.rx ∧ t.tx = s.tx ∧ t.peers = s.peers ∧ t.alloc = s.alloc ∧ t.sources = s.sources ∧ t.req = s.req ∧
        t.mgmt = s.mgmt) _ _ _ (by simp) ?_
  intro i t h
  all_goals simp_all

/-- `notifySource` touches at most: mgmt. -/
@[simp] theorem notifySource_frame (n : Nat) (e : SourceEvent) (s : State) :
    (notifySource n e s).pending = s.pending ∧ (notifySource n e s).resetLow = s.resetLow ∧
    (notifySource n e s).loader = s.loader ∧ (notifySource n e s).sync = s.sync ∧
    (notifySource n e s).line = s.line ∧ (notifySource n e s).rx = s.rx ∧ (notifySource n e s).tx = s.tx ∧
    (notifySource n e s).peers = s.peers ∧ (notifySource n e s).alloc = s.alloc ∧
    (notifySource n e s).sources = s.sources ∧ (notifySource n e s).sinks = s.sinks ∧
    (notifySource n e s).ports = s.ports ∧ (notifySource n e s).req = s.req := by
  unfold notifySource
  repeat' split
  all_goals simp

/-- `seek` touches at most: tx, sources, req, mgmt. -/
@[simp] theorem seek_frame (n : Nat) (s : State) :
    (seek n s).pending = s.pending ∧ (seek n s).resetLow = s.resetLow ∧ (seek n s).loader = s.loader ∧
    (seek n s).sync = s.sync ∧ (seek n s).line = s.line ∧ (seek n s).rx = s.rx ∧ (seek n s).peers = s.peers ∧
    (seek n s).alloc = s.alloc ∧ (seek n s).sinks = s.sinks ∧ (seek n s).ports = s.ports := by
  simp [seek, postClaim]

/-- `sourcesSeek` touches at most: tx, sources, req, mgmt. -/
@[simp] theorem sourcesSeek_frame (s : State) :
    (sourcesSeek s).pending = s.pending ∧ (sourcesSeek s).resetLow = s.resetLow ∧
    (sourcesSeek s).loader = s.loader ∧ (sourcesSeek s).sync = s.sync ∧ (sourcesSeek s).line = s.line ∧
    (sourcesSeek s).rx = s.rx ∧ (sourcesSeek s).peers = s.peers ∧ (sourcesSeek s).alloc = s.alloc ∧
    (sourcesSeek s).sinks = s.sinks ∧ (sourcesSeek s).ports = s.ports := by
  unfold sourcesSeek
  refine forEach_inv (fun t : State =>
        t.pending = s.pending ∧ t.resetLow = s.resetLow ∧ t.loader = s.loader ∧ t.sync = s.sync ∧ t.line = s.line ∧
        t.rx = s.rx ∧ t.peers = s.peers ∧ t.alloc = s.alloc ∧ t.sinks = s.sinks ∧ t.ports = s.ports) _ _ _ (by simp) ?_
  intro i t h
  repeat' split
  all_goals simp_all

/-- `enterBackoff` touches at most: sources, tx. -/
@[simp] theorem enterBackoff_frame (n : Nat) (s : State) :
    (enterBackoff n s).pending = s.pending ∧ (enterBackoff n s).resetLow = s.resetLow ∧
    (enterBackoff n s).loader = s.loader ∧ (enterBackoff n s).sync = s.sync ∧ (enterBackoff n s).line = s.line ∧
    (enterBackoff n s).rx = s.rx ∧ (enterBackoff n s).peers = s.peers ∧ (enterBackoff n s).alloc = s.alloc ∧
    (enterBackoff n s).sinks = s.sinks ∧ (enterBackoff n s).ports = s.ports ∧ (enterBackoff n s).req = s.req ∧
    (enterBackoff n s).mgmt = s.mgmt := by
  simp [enterBackoff]

/-- `tellDefeated` touches at most: sources, tx, mgmt. -/
@[simp] theorem tellDefeated_frame (n x : Nat) (s : State) :
    (tellDefeated n x s).pending = s.pending ∧ (tellDefeated n x s).resetLow = s.resetLow ∧
    (tellDefeated n x s).loader = s.loader ∧ (tellDefeated n x s).sync = s.sync ∧
    (tellDefeated n x s).line = s.line ∧ (tellDefeated n x s).rx = s.rx ∧ (tellDefeated n x s).peers = s.peers ∧
    (tellDefeated n x s).alloc = s.alloc ∧ (tellDefeated n x s).sinks = s.sinks ∧
    (tellDefeated n x s).ports = s.ports ∧ (tellDefeated n x s).req = s.req := by
  unfold tellDefeated countSource
  repeat' split
  all_goals simp

/-- `tellClashed` touches at most: alloc, sources, tx, mgmt. -/
@[simp] theorem tellClashed_frame (n x : Nat) (s : State) :
    (tellClashed n x s).pending = s.pending ∧ (tellClashed n x s).resetLow = s.resetLow ∧
    (tellClashed n x s).loader = s.loader ∧ (tellClashed n x s).sync = s.sync ∧
    (tellClashed n x s).line = s.line ∧ (tellClashed n x s).rx = s.rx ∧ (tellClashed n x s).peers = s.peers ∧
    (tellClashed n x s).sinks = s.sinks ∧ (tellClashed n x s).ports = s.ports ∧ (tellClashed n x s).req = s.req := by
  unfold tellClashed
  repeat' split
  all_goals simp

/-- `postRelease` touches at most: tx, sources, req, mgmt. -/
@[simp] theorem postRelease_frame (n : Nat) (s : State) :
    (postRelease n s).pending = s.pending ∧ (postRelease n s).resetLow = s.resetLow ∧
    (postRelease n s).loader = s.loader ∧ (postRelease n s).sync = s.sync ∧ (postRelease n s).line = s.line ∧
    (postRelease n s).rx = s.rx ∧ (postRelease n s).peers = s.peers ∧ (postRelease n s).alloc = s.alloc ∧
    (postRelease n s).sinks = s.sinks ∧ (postRelease n s).ports = s.ports := by
  unfold postRelease
  repeat' split
  all_goals simp

/-- `enterReleasing` touches at most: tx, sources, req, mgmt. -/
@[simp] theorem enterReleasing_frame (n : Nat) (s : State) :
    (enterReleasing n s).pending = s.pending ∧ (enterReleasing n s).resetLow = s.resetLow ∧
    (enterReleasing n s).loader = s.loader ∧ (enterReleasing n s).sync = s.sync ∧
    (enterReleasing n s).line = s.line ∧ (enterReleasing n s).rx = s.rx ∧ (enterReleasing n s).peers = s.peers ∧
    (enterReleasing n s).alloc = s.alloc ∧ (enterReleasing n s).sinks = s.sinks ∧
    (enterReleasing n s).ports = s.ports := by
  simp [enterReleasing]

/-- `enterBlocked` touches at most: sources, mgmt. -/
@[simp] theorem enterBlocked_frame (n : Nat) (s : State) :
    (enterBlocked n s).pending = s.pending ∧ (enterBlocked n s).resetLow = s.resetLow ∧
    (enterBlocked n s).loader = s.loader ∧ (enterBlocked n s).sync = s.sync ∧ (enterBlocked n s).line = s.line ∧
    (enterBlocked n s).rx = s.rx ∧ (enterBlocked n s).tx = s.tx ∧ (enterBlocked n s).peers = s.peers ∧
    (enterBlocked n s).alloc = s.alloc ∧ (enterBlocked n s).sinks = s.sinks ∧
    (enterBlocked n s).ports = s.ports ∧ (enterBlocked n s).req = s.req := by
  simp [enterBlocked]

/-- `enterOwned` touches at most: sources, mgmt. -/
@[simp] theorem enterOwned_frame (n : Nat) (r : Run) (s : State) :
    (enterOwned n r s).pending = s.pending ∧ (enterOwned n r s).resetLow = s.resetLow ∧
    (enterOwned n r s).loader = s.loader ∧ (enterOwned n r s).sync = s.sync ∧ (enterOwned n r s).line = s.line ∧
    (enterOwned n r s).rx = s.rx ∧ (enterOwned n r s).tx = s.tx ∧ (enterOwned n r s).peers = s.peers ∧
    (enterOwned n r s).alloc = s.alloc ∧ (enterOwned n r s).sinks = s.sinks ∧
    (enterOwned n r s).ports = s.ports ∧ (enterOwned n r s).req = s.req := by
  unfold enterOwned
  repeat' split
  all_goals simp

/-- `sourceBoundary` touches at most: tx, sources, req, mgmt. -/
@[simp] theorem sourceBoundary_frame (n : Nat) (s : State) :
    (sourceBoundary n s).pending = s.pending ∧ (sourceBoundary n s).resetLow = s.resetLow ∧
    (sourceBoundary n s).loader = s.loader ∧ (sourceBoundary n s).sync = s.sync ∧
    (sourceBoundary n s).line = s.line ∧ (sourceBoundary n s).rx = s.rx ∧ (sourceBoundary n s).peers = s.peers ∧
    (sourceBoundary n s).alloc = s.alloc ∧ (sourceBoundary n s).sinks = s.sinks ∧
    (sourceBoundary n s).ports = s.ports := by
  unfold sourceBoundary postClaim
  repeat' split
  all_goals simp

/-- `sourcesBoundary` touches at most: tx, sources, req, mgmt. -/
@[simp] theorem sourcesBoundary_frame (s : State) :
    (sourcesBoundary s).pending = s.pending ∧ (sourcesBoundary s).resetLow = s.resetLow ∧
    (sourcesBoundary s).loader = s.loader ∧ (sourcesBoundary s).sync = s.sync ∧
    (sourcesBoundary s).line = s.line ∧ (sourcesBoundary s).rx = s.rx ∧ (sourcesBoundary s).peers = s.peers ∧
    (sourcesBoundary s).alloc = s.alloc ∧ (sourcesBoundary s).sinks = s.sinks ∧
    (sourcesBoundary s).ports = s.ports := by
  unfold sourcesBoundary
  refine forEach_inv (fun t : State =>
        t.pending = s.pending ∧ t.resetLow = s.resetLow ∧ t.loader = s.loader ∧ t.sync = s.sync ∧ t.line = s.line ∧
        t.rx = s.rx ∧ t.peers = s.peers ∧ t.alloc = s.alloc ∧ t.sinks = s.sinks ∧ t.ports = s.ports) _ _ _ (by simp) ?_
  intro i t h
  all_goals simp_all

/-- `deliverLanes` touches at most: sources. -/
@[simp] theorem deliverLanes_frame (p : Nat) (b : Bool) (l : List Sample) (s : State) :
    (deliverLanes p b l s).pending = s.pending ∧ (deliverLanes p b l s).resetLow = s.resetLow ∧
    (deliverLanes p b l s).loader = s.loader ∧ (deliverLanes p b l s).sync = s.sync ∧
    (deliverLanes p b l s).line = s.line ∧ (deliverLanes p b l s).rx = s.rx ∧ (deliverLanes p b l s).tx = s.tx ∧
    (deliverLanes p b l s).peers = s.peers ∧ (deliverLanes p b l s).alloc = s.alloc ∧
    (deliverLanes p b l s).sinks = s.sinks ∧ (deliverLanes p b l s).ports = s.ports ∧
    (deliverLanes p b l s).req = s.req ∧ (deliverLanes p b l s).mgmt = s.mgmt := by
  simp [deliverLanes]

/-- `takeAt` touches at most: line, sources. -/
@[simp] theorem takeAt_frame (k n : Nat) (s : State) :
    (takeAt k n s).pending = s.pending ∧ (takeAt k n s).resetLow = s.resetLow ∧
    (takeAt k n s).loader = s.loader ∧ (takeAt k n s).sync = s.sync ∧ (takeAt k n s).rx = s.rx ∧
    (takeAt k n s).tx = s.tx ∧ (takeAt k n s).peers = s.peers ∧ (takeAt k n s).alloc = s.alloc ∧
    (takeAt k n s).sinks = s.sinks ∧ (takeAt k n s).ports = s.ports ∧ (takeAt k n s).req = s.req ∧
    (takeAt k n s).mgmt = s.mgmt := by
  unfold takeAt
  dsimp only
  repeat' split
  all_goals simp

/-- `damagedReadback` touches at most: tx, sources, req, mgmt. -/
@[simp] theorem damagedReadback_frame (n : Nat) (s : State) :
    (damagedReadback n s).pending = s.pending ∧ (damagedReadback n s).resetLow = s.resetLow ∧
    (damagedReadback n s).loader = s.loader ∧ (damagedReadback n s).sync = s.sync ∧
    (damagedReadback n s).line = s.line ∧ (damagedReadback n s).rx = s.rx ∧
    (damagedReadback n s).peers = s.peers ∧ (damagedReadback n s).alloc = s.alloc ∧
    (damagedReadback n s).sinks = s.sinks ∧ (damagedReadback n s).ports = s.ports := by
  unfold damagedReadback
  dsimp only
  repeat' split
  all_goals simp

/-- `object` touches at most: tx, sources, req, mgmt, alloc. -/
@[simp] theorem object_frame (n : Nat) (s : State) :
    (object n s).pending = s.pending ∧ (object n s).resetLow = s.resetLow ∧ (object n s).loader = s.loader ∧
    (object n s).sync = s.sync ∧ (object n s).line = s.line ∧ (object n s).rx = s.rx ∧
    (object n s).peers = s.peers ∧ (object n s).sinks = s.sinks ∧ (object n s).ports = s.ports := by
  unfold object
  repeat' split
  all_goals simp

/-- `relayDeadlines` touches at most: req, mgmt. -/
@[simp] theorem relayDeadlines_frame (s : State) :
    (relayDeadlines s).pending = s.pending ∧ (relayDeadlines s).resetLow = s.resetLow ∧
    (relayDeadlines s).loader = s.loader ∧ (relayDeadlines s).sync = s.sync ∧ (relayDeadlines s).line = s.line ∧
    (relayDeadlines s).rx = s.rx ∧ (relayDeadlines s).tx = s.tx ∧ (relayDeadlines s).peers = s.peers ∧
    (relayDeadlines s).alloc = s.alloc ∧ (relayDeadlines s).sources = s.sources ∧
    (relayDeadlines s).sinks = s.sinks ∧ (relayDeadlines s).ports = s.ports := by
  unfold relayDeadlines
  refine forEach_inv (fun t : State =>
        t.pending = s.pending ∧ t.resetLow = s.resetLow ∧ t.loader = s.loader ∧ t.sync = s.sync ∧ t.line = s.line ∧
        t.rx = s.rx ∧ t.tx = s.tx ∧ t.peers = s.peers ∧ t.alloc = s.alloc ∧ t.sources = s.sources ∧
        t.sinks = s.sinks ∧ t.ports = s.ports) _ _ _ (by simp) ?_
  intro i t h
  repeat' split
  all_goals simp_all

/-- `relaySent` touches at most: req. -/
@[simp] theorem relaySent_frame (sf : Superframe) (h q : Nat) (s : State) :
    (relaySent sf h q s).pending = s.pending ∧ (relaySent sf h q s).resetLow = s.resetLow ∧
    (relaySent sf h q s).loader = s.loader ∧ (relaySent sf h q s).sync = s.sync ∧
    (relaySent sf h q s).line = s.line ∧ (relaySent sf h q s).rx = s.rx ∧ (relaySent sf h q s).tx = s.tx ∧
    (relaySent sf h q s).peers = s.peers ∧ (relaySent sf h q s).alloc = s.alloc ∧
    (relaySent sf h q s).sources = s.sources ∧ (relaySent sf h q s).sinks = s.sinks ∧
    (relaySent sf h q s).ports = s.ports ∧ (relaySent sf h q s).mgmt = s.mgmt := by
  unfold relaySent
  repeat' split
  all_goals simp

/-- `portFrame` touches at most: sources, sinks, ports. -/
@[simp] theorem portFrame_frame (p : Nat) (b w : Bool) (l : List Sample) (s : State) :
    (portFrame p b w l s).pending = s.pending ∧ (portFrame p b w l s).resetLow = s.resetLow ∧
    (portFrame p b w l s).loader = s.loader ∧ (portFrame p b w l s).sync = s.sync ∧
    (portFrame p b w l s).line = s.line ∧ (portFrame p b w l s).rx = s.rx ∧ (portFrame p b w l s).tx = s.tx ∧
    (portFrame p b w l s).peers = s.peers ∧ (portFrame p b w l s).alloc = s.alloc ∧
    (portFrame p b w l s).req = s.req ∧ (portFrame p b w l s).mgmt = s.mgmt := by
  unfold portFrame
  repeat' split
  all_goals simp

/-- `countShort` touches at most: ports. -/
@[simp] theorem countShort_frame (p : Nat) (s : State) :
    (countShort p s).pending = s.pending ∧ (countShort p s).resetLow = s.resetLow ∧
    (countShort p s).loader = s.loader ∧ (countShort p s).sync = s.sync ∧ (countShort p s).line = s.line ∧
    (countShort p s).rx = s.rx ∧ (countShort p s).tx = s.tx ∧ (countShort p s).peers = s.peers ∧
    (countShort p s).alloc = s.alloc ∧ (countShort p s).sources = s.sources ∧ (countShort p s).sinks = s.sinks ∧
    (countShort p s).req = s.req ∧ (countShort p s).mgmt = s.mgmt := by
  simp [countShort]

/-- `prime` touches at most: ports. -/
@[simp] theorem prime_frame (p : Nat) (s : State) :
    (prime p s).pending = s.pending ∧ (prime p s).resetLow = s.resetLow ∧ (prime p s).loader = s.loader ∧
    (prime p s).sync = s.sync ∧ (prime p s).line = s.line ∧ (prime p s).rx = s.rx ∧ (prime p s).tx = s.tx ∧
    (prime p s).peers = s.peers ∧ (prime p s).alloc = s.alloc ∧ (prime p s).sources = s.sources ∧
    (prime p s).sinks = s.sinks ∧ (prime p s).req = s.req ∧ (prime p s).mgmt = s.mgmt := by
  simp [prime]

/-- `followFrame` touches at most: sources, sinks, ports. -/
@[simp] theorem followFrame_frame (sh : Bool) (p : Nat) (l : List Bool) (s : State) :
    (followFrame sh p l s).pending = s.pending ∧ (followFrame sh p l s).resetLow = s.resetLow ∧
    (followFrame sh p l s).loader = s.loader ∧ (followFrame sh p l s).sync = s.sync ∧
    (followFrame sh p l s).line = s.line ∧ (followFrame sh p l s).rx = s.rx ∧ (followFrame sh p l s).tx = s.tx ∧
    (followFrame sh p l s).peers = s.peers ∧ (followFrame sh p l s).alloc = s.alloc ∧
    (followFrame sh p l s).req = s.req ∧ (followFrame sh p l s).mgmt = s.mgmt := by
  unfold followFrame
  repeat' split
  all_goals simp

/-- `watchClock` touches at most: ports, mgmt. -/
@[simp] theorem watchClock_frame (p : Nat) (s : State) :
    (watchClock p s).pending = s.pending ∧ (watchClock p s).resetLow = s.resetLow ∧
    (watchClock p s).loader = s.loader ∧ (watchClock p s).sync = s.sync ∧ (watchClock p s).line = s.line ∧
    (watchClock p s).rx = s.rx ∧ (watchClock p s).tx = s.tx ∧ (watchClock p s).peers = s.peers ∧
    (watchClock p s).alloc = s.alloc ∧ (watchClock p s).sources = s.sources ∧ (watchClock p s).sinks = s.sinks ∧
    (watchClock p s).req = s.req := by
  unfold watchClock
  repeat' split
  all_goals simp

/-- `portAtFrameStart` touches at most: sources, sinks, ports, mgmt. -/
@[simp] theorem portAtFrameStart_frame (sh : Bool) (l : List (List Bool)) (p : Nat) (s : State) :
    (portAtFrameStart sh l p s).pending = s.pending ∧ (portAtFrameStart sh l p s).resetLow = s.resetLow ∧
    (portAtFrameStart sh l p s).loader = s.loader ∧ (portAtFrameStart sh l p s).sync = s.sync ∧
    (portAtFrameStart sh l p s).line = s.line ∧ (portAtFrameStart sh l p s).rx = s.rx ∧
    (portAtFrameStart sh l p s).tx = s.tx ∧ (portAtFrameStart sh l p s).peers = s.peers ∧
    (portAtFrameStart sh l p s).alloc = s.alloc ∧ (portAtFrameStart sh l p s).req = s.req := by
  unfold portAtFrameStart
  repeat' split
  all_goals simp

/-- `portsAtFrameStart` touches at most: sources, sinks, ports, mgmt. -/
@[simp] theorem portsAtFrameStart_frame (sh : Bool) (l : List (List Bool)) (s : State) :
    (portsAtFrameStart sh l s).pending = s.pending ∧ (portsAtFrameStart sh l s).resetLow = s.resetLow ∧
    (portsAtFrameStart sh l s).loader = s.loader ∧ (portsAtFrameStart sh l s).sync = s.sync ∧
    (portsAtFrameStart sh l s).line = s.line ∧ (portsAtFrameStart sh l s).rx = s.rx ∧
    (portsAtFrameStart sh l s).tx = s.tx ∧ (portsAtFrameStart sh l s).peers = s.peers ∧
    (portsAtFrameStart sh l s).alloc = s.alloc ∧ (portsAtFrameStart sh l s).req = s.req := by
  unfold portsAtFrameStart
  refine forEach_inv (fun t : State =>
        t.pending = s.pending ∧ t.resetLow = s.resetLow ∧ t.loader = s.loader ∧ t.sync = s.sync ∧ t.line = s.line ∧
        t.rx = s.rx ∧ t.tx = s.tx ∧ t.peers = s.peers ∧ t.alloc = s.alloc ∧ t.req = s.req) _ _ _ (by simp) ?_
  intro i t h
  all_goals simp_all

/-- `restoreClock` touches at most: ports, mgmt. -/
@[simp] theorem restoreClock_frame (p : Nat) (s : State) :
    (restoreClock p s).pending = s.pending ∧ (restoreClock p s).resetLow = s.resetLow ∧
    (restoreClock p s).loader = s.loader ∧ (restoreClock p s).sync = s.sync ∧ (restoreClock p s).line = s.line ∧
    (restoreClock p s).rx = s.rx ∧ (restoreClock p s).tx = s.tx ∧ (restoreClock p s).peers = s.peers ∧
    (restoreClock p s).alloc = s.alloc ∧ (restoreClock p s).sources = s.sources ∧
    (restoreClock p s).sinks = s.sinks ∧ (restoreClock p s).req = s.req := by
  unfold restoreClock
  dsimp only
  repeat' split
  all_goals simp

/-- `strobe` touches at most: sources, sinks, ports, mgmt. -/
@[simp] theorem strobe_frame (p k : Nat) (b : List Bool) (s : State) :
    (strobe p k b s).pending = s.pending ∧ (strobe p k b s).resetLow = s.resetLow ∧
    (strobe p k b s).loader = s.loader ∧ (strobe p k b s).sync = s.sync ∧ (strobe p k b s).line = s.line ∧
    (strobe p k b s).rx = s.rx ∧ (strobe p k b s).tx = s.tx ∧ (strobe p k b s).peers = s.peers ∧
    (strobe p k b s).alloc = s.alloc ∧ (strobe p k b s).req = s.req := by
  unfold strobe
  dsimp only
  repeat' split
  all_goals simp

/-- `respondThen` touches at most: mgmt. -/
@[simp] theorem respondThen_frame (st : LmpStatus) (b : List Byte) (c : OnComplete) (s : State) :
    (respondThen st b c s).pending = s.pending ∧ (respondThen st b c s).resetLow = s.resetLow ∧
    (respondThen st b c s).loader = s.loader ∧ (respondThen st b c s).sync = s.sync ∧
    (respondThen st b c s).line = s.line ∧ (respondThen st b c s).rx = s.rx ∧ (respondThen st b c s).tx = s.tx ∧
    (respondThen st b c s).peers = s.peers ∧ (respondThen st b c s).alloc = s.alloc ∧
    (respondThen st b c s).sources = s.sources ∧ (respondThen st b c s).sinks = s.sinks ∧
    (respondThen st b c s).ports = s.ports ∧ (respondThen st b c s).req = s.req := by
  simp [respondThen]

/-- `respond` touches at most: mgmt. -/
@[simp] theorem respond_frame (st : LmpStatus) (b : List Byte) (s : State) :
    (respond st b s).pending = s.pending ∧ (respond st b s).resetLow = s.resetLow ∧
    (respond st b s).loader = s.loader ∧ (respond st b s).sync = s.sync ∧ (respond st b s).line = s.line ∧
    (respond st b s).rx = s.rx ∧ (respond st b s).tx = s.tx ∧ (respond st b s).peers = s.peers ∧
    (respond st b s).alloc = s.alloc ∧ (respond st b s).sources = s.sources ∧ (respond st b s).sinks = s.sinks ∧
    (respond st b s).ports = s.ports ∧ (respond st b s).req = s.req := by
  simp [respond]

/-- `completeLmp` touches at most: req, mgmt. -/
@[simp] theorem completeLmp_frame (c : OnComplete) (s : State) :
    (completeLmp c s).pending = s.pending ∧ (completeLmp c s).resetLow = s.resetLow ∧
    (completeLmp c s).loader = s.loader ∧ (completeLmp c s).sync = s.sync ∧ (completeLmp c s).line = s.line ∧
    (completeLmp c s).rx = s.rx ∧ (completeLmp c s).tx = s.tx ∧ (completeLmp c s).peers = s.peers ∧
    (completeLmp c s).alloc = s.alloc ∧ (completeLmp c s).sources = s.sources ∧
    (completeLmp c s).sinks = s.sinks ∧ (completeLmp c s).ports = s.ports := by
  unfold completeLmp
  repeat' split
  all_goals simp

/-- `endTransaction` touches at most: req, mgmt. -/
@[simp] theorem endTransaction_frame (n : Nat) (s : State) :
    (endTransaction n s).pending = s.pending ∧ (endTransaction n s).resetLow = s.resetLow ∧
    (endTransaction n s).loader = s.loader ∧ (endTransaction n s).sync = s.sync ∧
    (endTransaction n s).line = s.line ∧ (endTransaction n s).rx = s.rx ∧ (endTransaction n s).tx = s.tx ∧
    (endTransaction n s).peers = s.peers ∧ (endTransaction n s).alloc = s.alloc ∧
    (endTransaction n s).sources = s.sources ∧ (endTransaction n s).sinks = s.sinks ∧
    (endTransaction n s).ports = s.ports := by
  unfold endTransaction
  dsimp only
  repeat' split
  all_goals simp

/-- `driveMarker` touches at most: line. -/
@[simp] theorem driveMarker_frame (s : State) :
    (driveMarker s).pending = s.pending ∧ (driveMarker s).resetLow = s.resetLow ∧
    (driveMarker s).loader = s.loader ∧ (driveMarker s).sync = s.sync ∧ (driveMarker s).rx = s.rx ∧
    (driveMarker s).tx = s.tx ∧ (driveMarker s).peers = s.peers ∧ (driveMarker s).alloc = s.alloc ∧
    (driveMarker s).sources = s.sources ∧ (driveMarker s).sinks = s.sinks ∧ (driveMarker s).ports = s.ports ∧
    (driveMarker s).req = s.req ∧ (driveMarker s).mgmt = s.mgmt := by
  simp [driveMarker]

/-- `endFrame` touches at most: line, sync, sources. -/
@[simp] theorem endFrame_frame (s : State) :
    (endFrame s).pending = s.pending ∧ (endFrame s).resetLow = s.resetLow ∧ (endFrame s).loader = s.loader ∧
    (endFrame s).rx = s.rx ∧ (endFrame s).tx = s.tx ∧ (endFrame s).peers = s.peers ∧
    (endFrame s).alloc = s.alloc ∧ (endFrame s).sinks = s.sinks ∧ (endFrame s).ports = s.ports ∧
    (endFrame s).req = s.req ∧ (endFrame s).mgmt = s.mgmt := by
  simp [endFrame]

/-- `decideSlot` touches at most: line. -/
@[simp] theorem decideSlot_frame (k : Nat) (s : State) :
    (decideSlot k s).pending = s.pending ∧ (decideSlot k s).resetLow = s.resetLow ∧
    (decideSlot k s).loader = s.loader ∧ (decideSlot k s).sync = s.sync ∧ (decideSlot k s).rx = s.rx ∧
    (decideSlot k s).tx = s.tx ∧ (decideSlot k s).peers = s.peers ∧ (decideSlot k s).alloc = s.alloc ∧
    (decideSlot k s).sources = s.sources ∧ (decideSlot k s).sinks = s.sinks ∧ (decideSlot k s).ports = s.ports ∧
    (decideSlot k s).req = s.req ∧ (decideSlot k s).mgmt = s.mgmt := by
  simp [decideSlot]

/-- `slotStarted` with no action meeting it touches at most: line, sources, sync. -/
@[simp] theorem slotStarted_frame (k : Nat) (s : State) :
    (slotStarted k (meetingAct none) s).pending = s.pending ∧ (slotStarted k (meetingAct none) s).resetLow = s.resetLow ∧
    (slotStarted k (meetingAct none) s).loader = s.loader ∧ (slotStarted k (meetingAct none) s).rx = s.rx ∧ (slotStarted k (meetingAct none) s).tx = s.tx ∧
    (slotStarted k (meetingAct none) s).peers = s.peers ∧ (slotStarted k (meetingAct none) s).alloc = s.alloc ∧ (slotStarted k (meetingAct none) s).sinks = s.sinks ∧
    (slotStarted k (meetingAct none) s).ports = s.ports ∧ (slotStarted k (meetingAct none) s).req = s.req ∧ (slotStarted k (meetingAct none) s).mgmt = s.mgmt := by
  unfold slotStarted
  simp only [decideSlot_frame, meetingAct]
  refine forEach_inv (fun t : State =>
        t.pending = s.pending ∧ t.resetLow = s.resetLow ∧ t.loader = s.loader ∧ t.rx = s.rx ∧ t.tx = s.tx ∧
        t.peers = s.peers ∧ t.alloc = s.alloc ∧ t.sinks = s.sinks ∧ t.ports = s.ports ∧ t.req = s.req ∧
        t.mgmt = s.mgmt) _ _ _ (by simp) ?_
  intro i t h
  simp_all

/-- `slotReadback` touches at most: tx, sources, req, mgmt. -/
@[simp] theorem slotReadback_frame (k : Nat) (c : SlotClass) (s : State) :
    (slotReadback k c s).pending = s.pending ∧ (slotReadback k c s).resetLow = s.resetLow ∧
    (slotReadback k c s).loader = s.loader ∧ (slotReadback k c s).sync = s.sync ∧
    (slotReadback k c s).line = s.line ∧ (slotReadback k c s).rx = s.rx ∧ (slotReadback k c s).peers = s.peers ∧
    (slotReadback k c s).alloc = s.alloc ∧ (slotReadback k c s).sinks = s.sinks ∧
    (slotReadback k c s).ports = s.ports := by
  unfold slotReadback
  repeat' split
  all_goals simp

/-- `countCarrier` touches at most: alloc. -/
@[simp] theorem countCarrier_frame (k : Nat) (c : SlotClass) (s : State) :
    (countCarrier k c s).pending = s.pending ∧ (countCarrier k c s).resetLow = s.resetLow ∧
    (countCarrier k c s).loader = s.loader ∧ (countCarrier k c s).sync = s.sync ∧
    (countCarrier k c s).line = s.line ∧ (countCarrier k c s).rx = s.rx ∧ (countCarrier k c s).tx = s.tx ∧
    (countCarrier k c s).peers = s.peers ∧ (countCarrier k c s).sources = s.sources ∧
    (countCarrier k c s).sinks = s.sinks ∧ (countCarrier k c s).ports = s.ports ∧
    (countCarrier k c s).req = s.req ∧ (countCarrier k c s).mgmt = s.mgmt := by
  unfold countCarrier
  repeat' split
  all_goals simp

/-- `slotClassified` touches at most: tx, sources, req, mgmt, alloc, line, sinks, sync. -/
@[simp] theorem slotClassified_frame (k : Nat) (c : SlotClass) (s : State) :
    (slotClassified k c s).pending = s.pending ∧ (slotClassified k c s).resetLow = s.resetLow ∧
    (slotClassified k c s).loader = s.loader ∧ (slotClassified k c s).rx = s.rx ∧
    (slotClassified k c s).peers = s.peers ∧ (slotClassified k c s).ports = s.ports := by
  unfold slotClassified
  refine forEach_inv (fun t : State =>
        t.pending = s.pending ∧ t.resetLow = s.resetLow ∧ t.loader = s.loader ∧ t.rx = s.rx ∧ t.peers = s.peers ∧
        t.ports = s.ports) _ _ _ (by simp) ?_
  intro i t h
  simp_all

/-- An action changes what `f` changes; its signals touch the sinks and the notices alone. -/
@[simp] theorem action_frame (f : State → State) (s : State) :
    (action f s).pending = (f s).pending ∧ (action f s).resetLow = (f s).resetLow ∧
    (action f s).loader = (f s).loader ∧ (action f s).sync = (f s).sync ∧ (action f s).line = (f s).line ∧
    (action f s).rx = (f s).rx ∧ (action f s).tx = (f s).tx ∧ (action f s).peers = (f s).peers ∧
    (action f s).alloc = (f s).alloc ∧ (action f s).sources = (f s).sources ∧ (action f s).ports = (f s).ports ∧
    (action f s).req = (f s).req := by
  simp [action]

/-- `objectRuns` touches at most: tx, sources, req, mgmt, alloc. -/
@[simp] theorem objectRuns_frame (a b : Nat) (s : State) :
    (objectRuns a b s).pending = s.pending ∧ (objectRuns a b s).resetLow = s.resetLow ∧
    (objectRuns a b s).loader = s.loader ∧ (objectRuns a b s).sync = s.sync ∧ (objectRuns a b s).line = s.line ∧
    (objectRuns a b s).rx = s.rx ∧ (objectRuns a b s).peers = s.peers ∧ (objectRuns a b s).sinks = s.sinks ∧
    (objectRuns a b s).ports = s.ports := by
  unfold objectRuns
  refine forEach_inv (fun t : State =>
        t.pending = s.pending ∧ t.resetLow = s.resetLow ∧ t.loader = s.loader ∧ t.sync = s.sync ∧ t.line = s.line ∧
        t.rx = s.rx ∧ t.peers = s.peers ∧ t.sinks = s.sinks ∧ t.ports = s.ports) _ _ _ (by simp) ?_
  intro i t h
  repeat' split
  all_goals simp_all

/-- Telling a source CLASHED changes no run (R105). -/
theorem tellClashed_tables (n x : Nat) (s : State) :
    (tellClashed n x s).alloc.slots = s.alloc.slots ∧ (tellClashed n x s).alloc.dir = s.alloc.dir := by
  unfold tellClashed
  repeat' split
  all_goals simp [notifySource]
  all_goals (split <;> simp)

/-- `tellLosses` touches at most: tx, sources, mgmt, the allocator's counters. -/
@[simp] theorem tellLosses_frame (x g : Nat) (d : List DirEntry) (s : State) :
    (tellLosses x g d s).pending = s.pending ∧ (tellLosses x g d s).resetLow = s.resetLow ∧
    (tellLosses x g d s).loader = s.loader ∧ (tellLosses x g d s).sync = s.sync ∧
    (tellLosses x g d s).line = s.line ∧ (tellLosses x g d s).rx = s.rx ∧ (tellLosses x g d s).peers = s.peers ∧
    (tellLosses x g d s).sinks = s.sinks ∧ (tellLosses x g d s).ports = s.ports ∧
    (tellLosses x g d s).req = s.req ∧ (tellLosses x g d s).alloc.slots = s.alloc.slots ∧
    (tellLosses x g d s).alloc.dir = s.alloc.dir := by
  unfold tellLosses
  refine forEach_inv (fun t : State =>
        t.pending = s.pending ∧ t.resetLow = s.resetLow ∧ t.loader = s.loader ∧ t.sync = s.sync ∧ t.line = s.line ∧
        t.rx = s.rx ∧ t.peers = s.peers ∧ t.sinks = s.sinks ∧ t.ports = s.ports ∧ t.req = s.req ∧
        t.alloc.slots = s.alloc.slots ∧ t.alloc.dir = s.alloc.dir) _ _ _ (by simp) ?_
  intro i t h
  have hc := tellClashed_tables i x t
  repeat' split
  all_goals simp_all

/-- `removeWhere` touches at most: alloc. -/
@[simp] theorem removeWhere_frame (p : DirEntry → Bool) (s : State) :
    (removeWhere p s).pending = s.pending ∧ (removeWhere p s).resetLow = s.resetLow ∧
    (removeWhere p s).loader = s.loader ∧ (removeWhere p s).sync = s.sync ∧ (removeWhere p s).line = s.line ∧
    (removeWhere p s).rx = s.rx ∧ (removeWhere p s).tx = s.tx ∧ (removeWhere p s).peers = s.peers ∧
    (removeWhere p s).sources = s.sources ∧ (removeWhere p s).sinks = s.sinks ∧
    (removeWhere p s).ports = s.ports ∧ (removeWhere p s).req = s.req ∧ (removeWhere p s).mgmt = s.mgmt := by
  unfold removeWhere
  refine foldl_inv (fun t : State =>
        t.pending = s.pending ∧ t.resetLow = s.resetLow ∧ t.loader = s.loader ∧ t.sync = s.sync ∧ t.line = s.line ∧
        t.rx = s.rx ∧ t.tx = s.tx ∧ t.peers = s.peers ∧ t.sources = s.sources ∧ t.sinks = s.sinks ∧
        t.ports = s.ports ∧ t.req = s.req ∧ t.mgmt = s.mgmt) _ _ _ (by simp) ?_
  intro t x h
  simp_all

/-- `overrideClaims` touches at most: alloc. -/
@[simp] theorem overrideClaims_frame (x a b : Nat) (s : State) :
    (overrideClaims x a b s).pending = s.pending ∧ (overrideClaims x a b s).resetLow = s.resetLow ∧
    (overrideClaims x a b s).loader = s.loader ∧ (overrideClaims x a b s).sync = s.sync ∧
    (overrideClaims x a b s).line = s.line ∧ (overrideClaims x a b s).rx = s.rx ∧
    (overrideClaims x a b s).peers = s.peers ∧ (overrideClaims x a b s).sinks = s.sinks ∧
    (overrideClaims x a b s).ports = s.ports ∧ (overrideClaims x a b s).tx = s.tx ∧
    (overrideClaims x a b s).sources = s.sources ∧ (overrideClaims x a b s).req = s.req ∧
    (overrideClaims x a b s).mgmt = s.mgmt := by
  unfold overrideClaims
  refine foldl_inv (fun t : State =>
        t.pending = s.pending ∧ t.resetLow = s.resetLow ∧ t.loader = s.loader ∧ t.sync = s.sync ∧ t.line = s.line ∧
        t.rx = s.rx ∧ t.peers = s.peers ∧ t.sinks = s.sinks ∧ t.ports = s.ports ∧
        t.tx = s.tx ∧ t.sources = s.sources ∧ t.req = s.req ∧ t.mgmt = s.mgmt) _ _ _ (by simp) ?_
  intro t e h
  simp_all

/-- `resolveOverlaps` touches at most: alloc. -/
@[simp] theorem resolveOverlaps_frame (x a b : Nat) (s : State) :
    (resolveOverlaps x a b s).pending = s.pending ∧ (resolveOverlaps x a b s).resetLow = s.resetLow ∧
    (resolveOverlaps x a b s).loader = s.loader ∧ (resolveOverlaps x a b s).sync = s.sync ∧
    (resolveOverlaps x a b s).line = s.line ∧ (resolveOverlaps x a b s).rx = s.rx ∧
    (resolveOverlaps x a b s).peers = s.peers ∧ (resolveOverlaps x a b s).sinks = s.sinks ∧
    (resolveOverlaps x a b s).ports = s.ports ∧ (resolveOverlaps x a b s).tx = s.tx ∧
    (resolveOverlaps x a b s).sources = s.sources ∧ (resolveOverlaps x a b s).req = s.req ∧
    (resolveOverlaps x a b s).mgmt = s.mgmt := by
  unfold resolveOverlaps
  refine foldl_inv (fun t : State =>
        t.pending = s.pending ∧ t.resetLow = s.resetLow ∧ t.loader = s.loader ∧ t.sync = s.sync ∧ t.line = s.line ∧
        t.rx = s.rx ∧ t.peers = s.peers ∧ t.sinks = s.sinks ∧ t.ports = s.ports ∧
        t.tx = s.tx ∧ t.sources = s.sources ∧ t.req = s.req ∧ t.mgmt = s.mgmt) _ _ _ (by simp) ?_
  intro t e h
  simp_all

/-- `ignoreClaim` touches at most: alloc. -/
@[simp] theorem ignoreClaim_frame (s : State) :
    (ignoreClaim s).pending = s.pending ∧ (ignoreClaim s).resetLow = s.resetLow ∧
    (ignoreClaim s).loader = s.loader ∧ (ignoreClaim s).sync = s.sync ∧ (ignoreClaim s).line = s.line ∧
    (ignoreClaim s).rx = s.rx ∧ (ignoreClaim s).tx = s.tx ∧ (ignoreClaim s).peers = s.peers ∧
    (ignoreClaim s).sources = s.sources ∧ (ignoreClaim s).sinks = s.sinks ∧ (ignoreClaim s).ports = s.ports ∧
    (ignoreClaim s).req = s.req ∧ (ignoreClaim s).mgmt = s.mgmt := by
  simp [ignoreClaim]

/-- `installClaim` touches at most: alloc. -/
@[simp] theorem installClaim_frame (sf : Superframe) (x g a b p : Nat) (s : State) :
    (installClaim sf x g a b p s).pending = s.pending ∧ (installClaim sf x g a b p s).resetLow = s.resetLow ∧
    (installClaim sf x g a b p s).loader = s.loader ∧ (installClaim sf x g a b p s).sync = s.sync ∧
    (installClaim sf x g a b p s).line = s.line ∧ (installClaim sf x g a b p s).rx = s.rx ∧
    (installClaim sf x g a b p s).tx = s.tx ∧ (installClaim sf x g a b p s).peers = s.peers ∧
    (installClaim sf x g a b p s).sources = s.sources ∧ (installClaim sf x g a b p s).sinks = s.sinks ∧
    (installClaim sf x g a b p s).ports = s.ports ∧ (installClaim sf x g a b p s).req = s.req ∧
    (installClaim sf x g a b p s).mgmt = s.mgmt := by
  simp [installClaim]

/-- `installOffer` touches at most: alloc. -/
@[simp] theorem installOffer_frame (x g a b p : Nat) (s : State) :
    (installOffer x g a b p s).pending = s.pending ∧ (installOffer x g a b p s).resetLow = s.resetLow ∧
    (installOffer x g a b p s).loader = s.loader ∧ (installOffer x g a b p s).sync = s.sync ∧
    (installOffer x g a b p s).line = s.line ∧ (installOffer x g a b p s).rx = s.rx ∧
    (installOffer x g a b p s).peers = s.peers ∧ (installOffer x g a b p s).sinks = s.sinks ∧
    (installOffer x g a b p s).ports = s.ports ∧ (installOffer x g a b p s).tx = s.tx ∧
    (installOffer x g a b p s).sources = s.sources ∧ (installOffer x g a b p s).req = s.req ∧
    (installOffer x g a b p s).mgmt = s.mgmt := by
  simp [installOffer]

/-- `claimSteps` touches at most: tx, sources, req, mgmt, alloc. -/
@[simp] theorem claimSteps_frame (x g a b p : Nat) (s : State) :
    (claimSteps x g a b p s).pending = s.pending ∧ (claimSteps x g a b p s).resetLow = s.resetLow ∧
    (claimSteps x g a b p s).loader = s.loader ∧ (claimSteps x g a b p s).sync = s.sync ∧
    (claimSteps x g a b p s).line = s.line ∧ (claimSteps x g a b p s).rx = s.rx ∧
    (claimSteps x g a b p s).peers = s.peers ∧ (claimSteps x g a b p s).sinks = s.sinks ∧
    (claimSteps x g a b p s).ports = s.ports := by
  unfold claimSteps
  dsimp only
  repeat' split
  all_goals simp

/-- `offerSteps` touches at most: tx, sources, req, mgmt, alloc. -/
@[simp] theorem offerSteps_frame (x g a b p : Nat) (s : State) :
    (offerSteps x g a b p s).pending = s.pending ∧ (offerSteps x g a b p s).resetLow = s.resetLow ∧
    (offerSteps x g a b p s).loader = s.loader ∧ (offerSteps x g a b p s).sync = s.sync ∧
    (offerSteps x g a b p s).line = s.line ∧ (offerSteps x g a b p s).rx = s.rx ∧
    (offerSteps x g a b p s).peers = s.peers ∧ (offerSteps x g a b p s).sinks = s.sinks ∧
    (offerSteps x g a b p s).ports = s.ports := by
  unfold offerSteps
  dsimp only
  repeat' split
  all_goals simp

/-- The tag rule touches at most: alloc, tx, sources, req, mgmt. -/
@[simp] theorem tagRule_frame (x g : Nat) (s : State) :
    (tagRule x g s).2.pending = s.pending ∧ (tagRule x g s).2.resetLow = s.resetLow ∧
    (tagRule x g s).2.loader = s.loader ∧ (tagRule x g s).2.sync = s.sync ∧ (tagRule x g s).2.line = s.line ∧
    (tagRule x g s).2.rx = s.rx ∧ (tagRule x g s).2.peers = s.peers ∧ (tagRule x g s).2.sinks = s.sinks ∧
    (tagRule x g s).2.ports = s.ports := by
  unfold tagRule tellOwner
  repeat' split
  all_goals simp

/-- `heardClaim` touches at most: tx, sources, req, mgmt, alloc. -/
@[simp] theorem heardClaim_frame (x g a b p : Nat) (s : State) :
    (heardClaim x g a b p s).pending = s.pending ∧ (heardClaim x g a b p s).resetLow = s.resetLow ∧
    (heardClaim x g a b p s).loader = s.loader ∧ (heardClaim x g a b p s).sync = s.sync ∧
    (heardClaim x g a b p s).line = s.line ∧ (heardClaim x g a b p s).rx = s.rx ∧
    (heardClaim x g a b p s).peers = s.peers ∧ (heardClaim x g a b p s).sinks = s.sinks ∧
    (heardClaim x g a b p s).ports = s.ports := by
  have h := tagRule_frame x g s
  unfold heardClaim
  split
  all_goals (rename_i e; rw [e] at h; simp_all)

/-- `heardOffer` touches at most: tx, sources, req, mgmt, alloc. -/
@[simp] theorem heardOffer_frame (x g a b p : Nat) (s : State) :
    (heardOffer x g a b p s).pending = s.pending ∧ (heardOffer x g a b p s).resetLow = s.resetLow ∧
    (heardOffer x g a b p s).loader = s.loader ∧ (heardOffer x g a b p s).sync = s.sync ∧
    (heardOffer x g a b p s).line = s.line ∧ (heardOffer x g a b p s).rx = s.rx ∧
    (heardOffer x g a b p s).peers = s.peers ∧ (heardOffer x g a b p s).sinks = s.sinks ∧
    (heardOffer x g a b p s).ports = s.ports := by
  have h := tagRule_frame x g s
  unfold heardOffer
  split
  all_goals (rename_i e; rw [e] at h; simp_all)

/-- `heardRelease` touches at most: alloc. -/
@[simp] theorem heardRelease_frame (x g : Nat) (s : State) :
    (heardRelease x g s).pending = s.pending ∧ (heardRelease x g s).resetLow = s.resetLow ∧
    (heardRelease x g s).loader = s.loader ∧ (heardRelease x g s).sync = s.sync ∧
    (heardRelease x g s).line = s.line ∧ (heardRelease x g s).rx = s.rx ∧ (heardRelease x g s).tx = s.tx ∧
    (heardRelease x g s).peers = s.peers ∧ (heardRelease x g s).sources = s.sources ∧
    (heardRelease x g s).sinks = s.sinks ∧ (heardRelease x g s).ports = s.ports ∧
    (heardRelease x g s).req = s.req ∧ (heardRelease x g s).mgmt = s.mgmt := by
  unfold heardRelease
  repeat' split
  all_goals simp

/-- `purgeHolder` touches at most: alloc. -/
@[simp] theorem purgeHolder_frame (u : SlotUse) (x : Nat) (s : State) :
    (purgeHolder u x s).pending = s.pending ∧ (purgeHolder u x s).resetLow = s.resetLow ∧
    (purgeHolder u x s).loader = s.loader ∧ (purgeHolder u x s).sync = s.sync ∧
    (purgeHolder u x s).line = s.line ∧ (purgeHolder u x s).rx = s.rx ∧ (purgeHolder u x s).tx = s.tx ∧
    (purgeHolder u x s).peers = s.peers ∧ (purgeHolder u x s).sources = s.sources ∧
    (purgeHolder u x s).sinks = s.sinks ∧ (purgeHolder u x s).ports = s.ports ∧
    (purgeHolder u x s).req = s.req ∧ (purgeHolder u x s).mgmt = s.mgmt := by
  unfold purgeHolder
  refine foldl_inv (fun t : State =>
        t.pending = s.pending ∧ t.resetLow = s.resetLow ∧ t.loader = s.loader ∧ t.sync = s.sync ∧ t.line = s.line ∧
        t.rx = s.rx ∧ t.tx = s.tx ∧ t.peers = s.peers ∧ t.sources = s.sources ∧ t.sinks = s.sinks ∧
        t.ports = s.ports ∧ t.req = s.req ∧ t.mgmt = s.mgmt) _ _ _ (by simp) ?_
  intro t e h
  simp_all

/-- `recordClaim` touches at most: alloc, sources. -/
@[simp] theorem recordClaim_frame (sf : Superframe) (n : Nat) (c : Source) (r : Run) (s : State) :
    (recordClaim sf n c r s).pending = s.pending ∧ (recordClaim sf n c r s).resetLow = s.resetLow ∧
    (recordClaim sf n c r s).loader = s.loader ∧ (recordClaim sf n c r s).sync = s.sync ∧
    (recordClaim sf n c r s).line = s.line ∧ (recordClaim sf n c r s).rx = s.rx ∧
    (recordClaim sf n c r s).tx = s.tx ∧ (recordClaim sf n c r s).peers = s.peers ∧
    (recordClaim sf n c r s).sinks = s.sinks ∧ (recordClaim sf n c r s).ports = s.ports ∧
    (recordClaim sf n c r s).req = s.req ∧ (recordClaim sf n c r s).mgmt = s.mgmt := by
  simp [recordClaim, enterClaiming]

/-- `tellKept` touches at most: tx, sources, mgmt, the allocator's counters. -/
@[simp] theorem tellKept_frame (l : List (Nat × Run)) (s : State) :
    (tellKept l s).pending = s.pending ∧ (tellKept l s).resetLow = s.resetLow ∧ (tellKept l s).loader = s.loader ∧
    (tellKept l s).sync = s.sync ∧ (tellKept l s).line = s.line ∧ (tellKept l s).rx = s.rx ∧
    (tellKept l s).peers = s.peers ∧ (tellKept l s).sinks = s.sinks ∧ (tellKept l s).ports = s.ports ∧
    (tellKept l s).req = s.req ∧ (tellKept l s).alloc.slots = s.alloc.slots ∧
    (tellKept l s).alloc.dir = s.alloc.dir := by
  unfold tellKept
  refine forEach_inv (fun t : State =>
        t.pending = s.pending ∧ t.resetLow = s.resetLow ∧ t.loader = s.loader ∧ t.sync = s.sync ∧ t.line = s.line ∧
        t.rx = s.rx ∧ t.peers = s.peers ∧ t.sinks = s.sinks ∧ t.ports = s.ports ∧ t.req = s.req ∧
        t.alloc.slots = s.alloc.slots ∧ t.alloc.dir = s.alloc.dir) _ _ _ (by simp) ?_
  intro i t h
  split
  · next x _ =>
    have hc := tellClashed_tables i x t
    simp_all
  · exact h

/-- `ownClaimSent` touches at most: alloc, sources, tx, mgmt. -/
@[simp] theorem ownClaimSent_frame (sf : Superframe) (l : List (Nat × Run)) (n : Nat) (r : Run) (s : State) :
    (ownClaimSent sf l n r s).pending = s.pending ∧ (ownClaimSent sf l n r s).resetLow = s.resetLow ∧
    (ownClaimSent sf l n r s).loader = s.loader ∧ (ownClaimSent sf l n r s).sync = s.sync ∧
    (ownClaimSent sf l n r s).line = s.line ∧ (ownClaimSent sf l n r s).rx = s.rx ∧
    (ownClaimSent sf l n r s).peers = s.peers ∧ (ownClaimSent sf l n r s).sinks = s.sinks ∧
    (ownClaimSent sf l n r s).ports = s.ports ∧ (ownClaimSent sf l n r s).req = s.req := by
  unfold ownClaimSent
  repeat' split
  all_goals simp

/-- `ownReleaseSent` touches at most: alloc, sources, tx. -/
@[simp] theorem ownReleaseSent_frame (n g : Nat) (s : State) :
    (ownReleaseSent n g s).pending = s.pending ∧ (ownReleaseSent n g s).resetLow = s.resetLow ∧
    (ownReleaseSent n g s).loader = s.loader ∧ (ownReleaseSent n g s).sync = s.sync ∧
    (ownReleaseSent n g s).line = s.line ∧ (ownReleaseSent n g s).rx = s.rx ∧
    (ownReleaseSent n g s).peers = s.peers ∧ (ownReleaseSent n g s).sinks = s.sinks ∧
    (ownReleaseSent n g s).ports = s.ports ∧ (ownReleaseSent n g s).req = s.req ∧
    (ownReleaseSent n g s).mgmt = s.mgmt := by
  unfold ownReleaseSent tellReleased
  repeat' split
  all_goals simp

/-- `removeOwnRuns` touches at most: alloc. -/
@[simp] theorem removeOwnRuns_frame (s : State) :
    (removeOwnRuns s).pending = s.pending ∧ (removeOwnRuns s).resetLow = s.resetLow ∧
    (removeOwnRuns s).loader = s.loader ∧ (removeOwnRuns s).sync = s.sync ∧ (removeOwnRuns s).line = s.line ∧
    (removeOwnRuns s).rx = s.rx ∧ (removeOwnRuns s).tx = s.tx ∧ (removeOwnRuns s).peers = s.peers ∧
    (removeOwnRuns s).sources = s.sources ∧ (removeOwnRuns s).sinks = s.sinks ∧
    (removeOwnRuns s).ports = s.ports ∧ (removeOwnRuns s).req = s.req ∧ (removeOwnRuns s).mgmt = s.mgmt := by
  simp [removeOwnRuns]

/-- `maturePeer` touches at most: alloc. -/
@[simp] theorem maturePeer_frame (e : DirEntry) (s : State) :
    (maturePeer e s).pending = s.pending ∧ (maturePeer e s).resetLow = s.resetLow ∧
    (maturePeer e s).loader = s.loader ∧ (maturePeer e s).sync = s.sync ∧ (maturePeer e s).line = s.line ∧
    (maturePeer e s).rx = s.rx ∧ (maturePeer e s).tx = s.tx ∧ (maturePeer e s).peers = s.peers ∧
    (maturePeer e s).sources = s.sources ∧ (maturePeer e s).sinks = s.sinks ∧ (maturePeer e s).ports = s.ports ∧
    (maturePeer e s).req = s.req ∧ (maturePeer e s).mgmt = s.mgmt := by
  simp [maturePeer]

/-- `matureOwn` touches at most: tx, sources, req, mgmt, alloc. -/
@[simp] theorem matureOwn_frame (n : Nat) (e : DirEntry) (s : State) :
    (matureOwn n e s).pending = s.pending ∧ (matureOwn n e s).resetLow = s.resetLow ∧
    (matureOwn n e s).loader = s.loader ∧ (matureOwn n e s).sync = s.sync ∧ (matureOwn n e s).line = s.line ∧
    (matureOwn n e s).rx = s.rx ∧ (matureOwn n e s).peers = s.peers ∧ (matureOwn n e s).sinks = s.sinks ∧
    (matureOwn n e s).ports = s.ports := by
  simp [matureOwn]

/-- `maturityStep` touches at most: tx, sources, req, mgmt, alloc. -/
@[simp] theorem maturityStep_frame (s : State) :
    (maturityStep s).pending = s.pending ∧ (maturityStep s).resetLow = s.resetLow ∧
    (maturityStep s).loader = s.loader ∧ (maturityStep s).sync = s.sync ∧ (maturityStep s).line = s.line ∧
    (maturityStep s).rx = s.rx ∧ (maturityStep s).peers = s.peers ∧ (maturityStep s).sinks = s.sinks ∧
    (maturityStep s).ports = s.ports := by
  unfold maturityStep
  dsimp only
  refine forEach_inv (fun t : State =>
        t.pending = s.pending ∧ t.resetLow = s.resetLow ∧ t.loader = s.loader ∧ t.sync = s.sync ∧ t.line = s.line ∧
        t.rx = s.rx ∧ t.peers = s.peers ∧ t.sinks = s.sinks ∧ t.ports = s.ports) _ _ _ ?_ ?_
  · refine foldl_inv (fun t : State =>
        t.pending = s.pending ∧ t.resetLow = s.resetLow ∧ t.loader = s.loader ∧ t.sync = s.sync ∧ t.line = s.line ∧
        t.rx = s.rx ∧ t.peers = s.peers ∧ t.sinks = s.sinks ∧ t.ports = s.ports) _ _ _ (by simp) ?_
    intro t e h
    simp_all
  · intro i t h
    repeat' split
    all_goals simp_all

/-- `leaseRun` touches at most: alloc. -/
@[simp] theorem leaseRun_frame (e : DirEntry) (s : State) :
    (leaseRun e s).pending = s.pending ∧ (leaseRun e s).resetLow = s.resetLow ∧
    (leaseRun e s).loader = s.loader ∧ (leaseRun e s).sync = s.sync ∧ (leaseRun e s).line = s.line ∧
    (leaseRun e s).rx = s.rx ∧ (leaseRun e s).tx = s.tx ∧ (leaseRun e s).peers = s.peers ∧
    (leaseRun e s).sources = s.sources ∧ (leaseRun e s).sinks = s.sinks ∧ (leaseRun e s).ports = s.ports ∧
    (leaseRun e s).req = s.req ∧ (leaseRun e s).mgmt = s.mgmt := by
  unfold leaseRun lapseRun
  dsimp only
  repeat' split
  all_goals simp

/-- `strayStep` touches at most: alloc. -/
@[simp] theorem strayStep_frame (s : State) :
    (strayStep s).pending = s.pending ∧ (strayStep s).resetLow = s.resetLow ∧ (strayStep s).loader = s.loader ∧
    (strayStep s).sync = s.sync ∧ (strayStep s).line = s.line ∧ (strayStep s).rx = s.rx ∧
    (strayStep s).tx = s.tx ∧ (strayStep s).peers = s.peers ∧ (strayStep s).sources = s.sources ∧
    (strayStep s).sinks = s.sinks ∧ (strayStep s).ports = s.ports ∧ (strayStep s).req = s.req ∧
    (strayStep s).mgmt = s.mgmt := by
  simp [strayStep]

/-- `clearCarrier` touches at most: alloc. -/
@[simp] theorem clearCarrier_frame (s : State) :
    (clearCarrier s).pending = s.pending ∧ (clearCarrier s).resetLow = s.resetLow ∧
    (clearCarrier s).loader = s.loader ∧ (clearCarrier s).sync = s.sync ∧ (clearCarrier s).line = s.line ∧
    (clearCarrier s).rx = s.rx ∧ (clearCarrier s).tx = s.tx ∧ (clearCarrier s).peers = s.peers ∧
    (clearCarrier s).sources = s.sources ∧ (clearCarrier s).sinks = s.sinks ∧ (clearCarrier s).ports = s.ports ∧
    (clearCarrier s).req = s.req ∧ (clearCarrier s).mgmt = s.mgmt := by
  simp [clearCarrier]

/-- `refreshSource` touches at most: tx, sources, req, mgmt. -/
@[simp] theorem refreshSource_frame (n : Nat) (s : State) :
    (refreshSource n s).pending = s.pending ∧ (refreshSource n s).resetLow = s.resetLow ∧
    (refreshSource n s).loader = s.loader ∧ (refreshSource n s).sync = s.sync ∧
    (refreshSource n s).line = s.line ∧ (refreshSource n s).rx = s.rx ∧ (refreshSource n s).peers = s.peers ∧
    (refreshSource n s).alloc = s.alloc ∧ (refreshSource n s).sinks = s.sinks ∧
    (refreshSource n s).ports = s.ports := by
  unfold refreshSource
  repeat' split
  all_goals simp

/-- `upkeepTables` touches at most: tx, sources, req, mgmt, alloc. -/
@[simp] theorem upkeepTables_frame (s : State) :
    (upkeepTables s).pending = s.pending ∧ (upkeepTables s).resetLow = s.resetLow ∧
    (upkeepTables s).loader = s.loader ∧ (upkeepTables s).sync = s.sync ∧ (upkeepTables s).line = s.line ∧
    (upkeepTables s).rx = s.rx ∧ (upkeepTables s).peers = s.peers ∧ (upkeepTables s).sinks = s.sinks ∧
    (upkeepTables s).ports = s.ports := by
  unfold upkeepTables
  dsimp only
  refine forEach_inv (fun t : State =>
        t.pending = s.pending ∧ t.resetLow = s.resetLow ∧ t.loader = s.loader ∧ t.sync = s.sync ∧ t.line = s.line ∧
        t.rx = s.rx ∧ t.peers = s.peers ∧ t.sinks = s.sinks ∧ t.ports = s.ports) _ _ _ ?_ ?_
  · simp only [clearCarrier_frame, strayStep_frame]
    refine foldl_inv (fun t : State =>
        t.pending = s.pending ∧ t.resetLow = s.resetLow ∧ t.loader = s.loader ∧ t.sync = s.sync ∧ t.line = s.line ∧
        t.rx = s.rx ∧ t.peers = s.peers ∧ t.sinks = s.sinks ∧ t.ports = s.ports) _ _ _ (by simp) ?_
    intro t e h
    simp_all
  · intro i t h
    split
    all_goals simp_all

/-- `upkeep` touches at most: tx, sources, req, mgmt, alloc, sinks. -/
@[simp] theorem upkeep_frame (s : State) :
    (upkeep s).pending = s.pending ∧ (upkeep s).resetLow = s.resetLow ∧ (upkeep s).loader = s.loader ∧
    (upkeep s).sync = s.sync ∧ (upkeep s).line = s.line ∧ (upkeep s).rx = s.rx ∧ (upkeep s).peers = s.peers ∧
    (upkeep s).ports = s.ports := by
  unfold upkeep
  repeat' split
  all_goals simp

/-- After the blocks and the report, only relays complete. -/
@[simp] theorem teardown_frame (r : State → State) (s : State) :
    (teardown r s).pending = (r (teardownBlocks s)).pending ∧
    (teardown r s).resetLow = (r (teardownBlocks s)).resetLow ∧
    (teardown r s).loader = (r (teardownBlocks s)).loader ∧ (teardown r s).sync = (r (teardownBlocks s)).sync ∧
    (teardown r s).line = (r (teardownBlocks s)).line ∧ (teardown r s).rx = (r (teardownBlocks s)).rx ∧
    (teardown r s).tx = (r (teardownBlocks s)).tx ∧ (teardown r s).peers = (r (teardownBlocks s)).peers ∧
    (teardown r s).alloc = (r (teardownBlocks s)).alloc ∧
    (teardown r s).sources = (r (teardownBlocks s)).sources ∧
    (teardown r s).sinks = (r (teardownBlocks s)).sinks ∧ (teardown r s).ports = (r (teardownBlocks s)).ports := by
  simp [teardown, abortRelays]

/-- `teardownBlocks` touches at most: sync, rx, peers, alloc, sources, sinks, tx. -/
@[simp] theorem teardownBlocks_frame (s : State) :
    (teardownBlocks s).pending = s.pending ∧ (teardownBlocks s).resetLow = s.resetLow ∧
    (teardownBlocks s).loader = s.loader ∧ (teardownBlocks s).line = s.line ∧
    (teardownBlocks s).ports = s.ports ∧ (teardownBlocks s).req = s.req ∧ (teardownBlocks s).mgmt = s.mgmt := by
  simp [teardownBlocks]

/-- `enterMute` touches at most: sync, alloc, sources, sinks, tx, req, mgmt. -/
@[simp] theorem enterMute_frame (s : State) :
    (enterMute s).pending = s.pending ∧ (enterMute s).resetLow = s.resetLow ∧ (enterMute s).loader = s.loader ∧
    (enterMute s).line = s.line ∧ (enterMute s).rx = s.rx ∧ (enterMute s).peers = s.peers ∧
    (enterMute s).ports = s.ports := by
  simp [enterMute, abortRelays]

/-- `enterLeaving` touches at most: sync, tx, sources, req, mgmt. -/
@[simp] theorem enterLeaving_frame (s : State) :
    (enterLeaving s).pending = s.pending ∧ (enterLeaving s).resetLow = s.resetLow ∧
    (enterLeaving s).loader = s.loader ∧ (enterLeaving s).line = s.line ∧ (enterLeaving s).rx = s.rx ∧
    (enterLeaving s).peers = s.peers ∧ (enterLeaving s).alloc = s.alloc ∧ (enterLeaving s).sinks = s.sinks ∧
    (enterLeaving s).ports = s.ports := by
  simp [enterLeaving]

/-- `peerHeard` touches at most: peers, alloc, sinks, mgmt. -/
@[simp] theorem peerHeard_frame (x : Nat) (sf : Superframe) (b : Bool) (s : State) :
    (peerHeard x sf b s).pending = s.pending ∧ (peerHeard x sf b s).resetLow = s.resetLow ∧
    (peerHeard x sf b s).loader = s.loader ∧ (peerHeard x sf b s).sync = s.sync ∧
    (peerHeard x sf b s).line = s.line ∧ (peerHeard x sf b s).rx = s.rx ∧ (peerHeard x sf b s).tx = s.tx ∧
    (peerHeard x sf b s).sources = s.sources ∧ (peerHeard x sf b s).ports = s.ports ∧
    (peerHeard x sf b s).req = s.req := by
  unfold peerHeard
  dsimp only
  repeat' split
  all_goals simp

/-- `departPeer` touches at most: peers, alloc, sinks, req, mgmt. -/
@[simp] theorem departPeer_frame (x : Nat) (s : State) :
    (departPeer x s).pending = s.pending ∧ (departPeer x s).resetLow = s.resetLow ∧
    (departPeer x s).loader = s.loader ∧ (departPeer x s).sync = s.sync ∧ (departPeer x s).line = s.line ∧
    (departPeer x s).rx = s.rx ∧ (departPeer x s).tx = s.tx ∧ (departPeer x s).sources = s.sources ∧
    (departPeer x s).ports = s.ports := by
  simp [departPeer, loseTarget]

/-- `peerMissed` touches at most: peers, alloc, sinks, req, mgmt. -/
@[simp] theorem peerMissed_frame (x : Nat) (c : MissCause) (s : State) :
    (peerMissed x c s).pending = s.pending ∧ (peerMissed x c s).resetLow = s.resetLow ∧
    (peerMissed x c s).loader = s.loader ∧ (peerMissed x c s).sync = s.sync ∧ (peerMissed x c s).line = s.line ∧
    (peerMissed x c s).rx = s.rx ∧ (peerMissed x c s).tx = s.tx ∧ (peerMissed x c s).sources = s.sources ∧
    (peerMissed x c s).ports = s.ports := by
  unfold peerMissed countDamagedTurn
  dsimp only
  repeat' split
  all_goals simp

/-- `peerLeft` touches at most: peers, alloc, sinks, req, mgmt. -/
@[simp] theorem peerLeft_frame (x : Nat) (s : State) :
    (peerLeft x s).pending = s.pending ∧ (peerLeft x s).resetLow = s.resetLow ∧
    (peerLeft x s).loader = s.loader ∧ (peerLeft x s).sync = s.sync ∧ (peerLeft x s).line = s.line ∧
    (peerLeft x s).rx = s.rx ∧ (peerLeft x s).tx = s.tx ∧ (peerLeft x s).sources = s.sources ∧
    (peerLeft x s).ports = s.ports := by
  simp [peerLeft, loseTarget]

/-- `clearCounters` touches at most: sync, rx, tx, peers, alloc, sources, sinks, ports, req. -/
@[simp] theorem clearCounters_frame (s : State) :
    (clearCounters s).pending = s.pending ∧ (clearCounters s).resetLow = s.resetLow ∧
    (clearCounters s).loader = s.loader ∧ (clearCounters s).line = s.line ∧ (clearCounters s).mgmt = s.mgmt := by
  simp [clearCounters]

/-- `enterLockedNow` touches at most: sync, tx, sources, req, mgmt. -/
@[simp] theorem enterLockedNow_frame (s : State) :
    (enterLockedNow s).pending = s.pending ∧ (enterLockedNow s).resetLow = s.resetLow ∧
    (enterLockedNow s).loader = s.loader ∧ (enterLockedNow s).line = s.line ∧ (enterLockedNow s).rx = s.rx ∧
    (enterLockedNow s).peers = s.peers ∧ (enterLockedNow s).alloc = s.alloc ∧
    (enterLockedNow s).sinks = s.sinks ∧ (enterLockedNow s).ports = s.ports := by
  simp [enterLockedNow]

/-- `lockFromLearn` touches at most: sync, tx, sources, req, mgmt. -/
@[simp] theorem lockFromLearn_frame (s : State) :
    (lockFromLearn s).pending = s.pending ∧ (lockFromLearn s).resetLow = s.resetLow ∧
    (lockFromLearn s).loader = s.loader ∧ (lockFromLearn s).line = s.line ∧ (lockFromLearn s).rx = s.rx ∧
    (lockFromLearn s).peers = s.peers ∧ (lockFromLearn s).alloc = s.alloc ∧ (lockFromLearn s).sinks = s.sinks ∧
    (lockFromLearn s).ports = s.ports := by
  simp [lockFromLearn]

/-- `enterFounding` touches at most: sync, mgmt. -/
@[simp] theorem enterFounding_frame (s : State) :
    (enterFounding s).pending = s.pending ∧ (enterFounding s).resetLow = s.resetLow ∧
    (enterFounding s).loader = s.loader ∧ (enterFounding s).line = s.line ∧ (enterFounding s).rx = s.rx ∧
    (enterFounding s).tx = s.tx ∧ (enterFounding s).peers = s.peers ∧ (enterFounding s).alloc = s.alloc ∧
    (enterFounding s).sources = s.sources ∧ (enterFounding s).sinks = s.sinks ∧
    (enterFounding s).ports = s.ports ∧ (enterFounding s).req = s.req := by
  simp [enterFounding]

/-- `syncAtFrameStart` touches at most: sync, tx, sources, req, mgmt. -/
@[simp] theorem syncAtFrameStart_frame (s : State) :
    (syncAtFrameStart s).pending = s.pending ∧ (syncAtFrameStart s).resetLow = s.resetLow ∧
    (syncAtFrameStart s).loader = s.loader ∧ (syncAtFrameStart s).line = s.line ∧
    (syncAtFrameStart s).rx = s.rx ∧ (syncAtFrameStart s).peers = s.peers ∧
    (syncAtFrameStart s).alloc = s.alloc ∧ (syncAtFrameStart s).sinks = s.sinks ∧
    (syncAtFrameStart s).ports = s.ports := by
  unfold syncAtFrameStart
  repeat' split
  all_goals simp

/-- `syncAtBoundary` touches at most: sync, tx, sources, req, mgmt. -/
@[simp] theorem syncAtBoundary_frame (s : State) :
    (syncAtBoundary s).pending = s.pending ∧ (syncAtBoundary s).resetLow = s.resetLow ∧
    (syncAtBoundary s).loader = s.loader ∧ (syncAtBoundary s).line = s.line ∧ (syncAtBoundary s).rx = s.rx ∧
    (syncAtBoundary s).peers = s.peers ∧ (syncAtBoundary s).alloc = s.alloc ∧
    (syncAtBoundary s).sinks = s.sinks ∧ (syncAtBoundary s).ports = s.ports := by
  unfold syncAtBoundary
  repeat' split
  all_goals simp

/-- `frameSync` touches at most: sync, line, tx, sources, req, mgmt. -/
@[simp] theorem frameSync_frame (s : State) :
    (frameSync s).pending = s.pending ∧ (frameSync s).resetLow = s.resetLow ∧ (frameSync s).loader = s.loader ∧
    (frameSync s).rx = s.rx ∧ (frameSync s).peers = s.peers ∧ (frameSync s).alloc = s.alloc ∧
    (frameSync s).sinks = s.sinks ∧ (frameSync s).ports = s.ports := by
  unfold frameSync
  repeat' split
  all_goals simp

/-- `boundary` touches at most: tx, sources, req, mgmt, alloc, sync, sinks. -/
@[simp] theorem boundary_frame (s : State) :
    (boundary s).pending = s.pending ∧ (boundary s).resetLow = s.resetLow ∧ (boundary s).loader = s.loader ∧
    (boundary s).line = s.line ∧ (boundary s).rx = s.rx ∧ (boundary s).peers = s.peers ∧
    (boundary s).ports = s.ports := by
  unfold boundary
  dsimp only
  repeat' split
  all_goals simp

/-- `frameStarted` touches at most: tx, sources, req, mgmt, alloc, sync, sinks, line, ports. -/
@[simp] theorem frameStarted_frame (l : List (List Bool)) (s : State) :
    (frameStarted l s).pending = s.pending ∧ (frameStarted l s).resetLow = s.resetLow ∧
    (frameStarted l s).loader = s.loader ∧ (frameStarted l s).rx = s.rx ∧ (frameStarted l s).peers = s.peers := by
  unfold frameStarted
  dsimp only
  repeat' split
  all_goals simp

/-- `cellReadback` touches at most: line, sync, alloc, sources, sinks, tx, req, mgmt. -/
@[simp] theorem cellReadback_frame (c : Cell) (w : CellWindow) (s : State) :
    (cellReadback c w s).pending = s.pending ∧ (cellReadback c w s).resetLow = s.resetLow ∧
    (cellReadback c w s).loader = s.loader ∧ (cellReadback c w s).rx = s.rx ∧
    (cellReadback c w s).peers = s.peers ∧ (cellReadback c w s).ports = s.ports := by
  unfold cellReadback
  dsimp only
  repeat' split
  all_goals simp

end Sys2Proof.Machine
end

