-- ==== Sys2Proof/Laws/PerInstr.lean ====
section
/-! SUPPORT. Statements about every command as syntax, one lemma per constructor. -/

namespace Sys2Proof.Laws

/-- No word of the opcode table spells a command: the table gives no row any bits (log entry 4). -/
def Undecoded.Statement (i : Instr) : Prop := ∀ nbits w : Nat, decodeTableWord nbits w ≠ some i

/-- No word spells anything. -/
theorem undecoded_any (i : Instr) : Undecoded.Statement i := by
  intro nbits w
  simp [decodeTableWord]

theorem Undecoded.coldReset : Undecoded.Statement (.coldReset) := undecoded_any _
theorem Undecoded.resetRelease : Undecoded.Statement (.resetRelease) := undecoded_any _
theorem Undecoded.bootStartByte (b : Byte) : Undecoded.Statement (.bootStartByte b) := undecoded_any _
theorem Undecoded.bootLengthByte (b : Byte) : Undecoded.Statement (.bootLengthByte b) := undecoded_any _
theorem Undecoded.bootReadComplete (rest : List Byte) : Undecoded.Statement (.bootReadComplete rest) := undecoded_any _
theorem Undecoded.lmpIdent : Undecoded.Statement (.lmpIdent) := undecoded_any _
theorem Undecoded.readStation (index : Byte) : Undecoded.Statement (.readStation index) := undecoded_any _
theorem Undecoded.readSummary (index : Byte) : Undecoded.Statement (.readSummary index) := undecoded_any _
theorem Undecoded.readSync (index : Byte) : Undecoded.Statement (.readSync index) := undecoded_any _
theorem Undecoded.readControl (index : Byte) : Undecoded.Statement (.readControl index) := undecoded_any _
theorem Undecoded.readPeer (index : Byte) : Undecoded.Statement (.readPeer index) := undecoded_any _
theorem Undecoded.readAllocator (index : Byte) : Undecoded.Statement (.readAllocator index) := undecoded_any _
theorem Undecoded.readSlot (index : Byte) : Undecoded.Statement (.readSlot index) := undecoded_any _
theorem Undecoded.readSource (index : Byte) : Undecoded.Statement (.readSource index) := undecoded_any _
theorem Undecoded.readSink (index : Byte) : Undecoded.Statement (.readSink index) := undecoded_any _
theorem Undecoded.readPort (index : Byte) : Undecoded.Statement (.readPort index) := undecoded_any _
theorem Undecoded.readRequest (index : Byte) : Undecoded.Statement (.readRequest index) := undecoded_any _
theorem Undecoded.actMuteSource (index : Byte) : Undecoded.Statement (.actMuteSource index) := undecoded_any _
theorem Undecoded.actUnmuteSource (index : Byte) : Undecoded.Statement (.actUnmuteSource index) := undecoded_any _
theorem Undecoded.actReseekSource (index : Byte) : Undecoded.Statement (.actReseekSource index) := undecoded_any _
theorem Undecoded.actMuteSink (index : Byte) : Undecoded.Statement (.actMuteSink index) := undecoded_any _
theorem Undecoded.actUnmuteSink (index : Byte) : Undecoded.Statement (.actUnmuteSink index) := undecoded_any _
theorem Undecoded.actClearCounters (index : Byte) : Undecoded.Statement (.actClearCounters index) := undecoded_any _
theorem Undecoded.actRestart (index : Byte) : Undecoded.Statement (.actRestart index) := undecoded_any _
theorem Undecoded.relayProbe (target code index : Byte) : Undecoded.Statement (.relayProbe target code index) := undecoded_any _
theorem Undecoded.relayCommand (target code index : Byte) : Undecoded.Statement (.relayCommand target code index) := undecoded_any _
theorem Undecoded.relayResult (handle : Byte) : Undecoded.Statement (.relayResult handle) := undecoded_any _
theorem Undecoded.takeNotice : Undecoded.Statement (.takeNotice) := undecoded_any _
theorem Undecoded.loadImage (image : List Byte) : Undecoded.Statement (.loadImage image) := undecoded_any _
theorem Undecoded.lmpBadRequest (frame : List Byte) : Undecoded.Statement (.lmpBadRequest frame) := undecoded_any _
theorem Undecoded.lmpTransactionEnd (shifted : Nat) : Undecoded.Statement (.lmpTransactionEnd shifted) := undecoded_any _
theorem Undecoded.frameStart (shifted : List (List Bool)) : Undecoded.Statement (.frameStart shifted) := undecoded_any _
theorem Undecoded.listenLimitExpiry (shifted : List (List Bool)) : Undecoded.Statement (.listenLimitExpiry shifted) := undecoded_any _
theorem Undecoded.acquireTimeout (shifted : List (List Bool)) : Undecoded.Statement (.acquireTimeout shifted) := undecoded_any _
theorem Undecoded.learnPeriodComplete (shifted : List (List Bool)) : Undecoded.Statement (.learnPeriodComplete shifted) := undecoded_any _
theorem Undecoded.enterLocked (shifted : List (List Bool)) : Undecoded.Statement (.enterLocked shifted) := undecoded_any _
theorem Undecoded.foundingTrialEnd (shifted : List (List Bool)) : Undecoded.Statement (.foundingTrialEnd shifted) := undecoded_any _
theorem Undecoded.markerReport (line : OnLine LineTicks) : Undecoded.Statement (.markerReport line) := undecoded_any _
theorem Undecoded.edgeMissLimit (line : OnLine LineTicks) : Undecoded.Statement (.edgeMissLimit line) := undecoded_any _
theorem Undecoded.yieldTrunk (line : OnLine LineTicks) : Undecoded.Statement (.yieldTrunk line) := undecoded_any _
theorem Undecoded.lineFault (line : OnLine LineTicks) : Undecoded.Statement (.lineFault line) := undecoded_any _
theorem Undecoded.dataSlotStart (start : SlotStart) : Undecoded.Statement (.dataSlotStart start) := undecoded_any _
theorem Undecoded.dataSlotReceived (slot : Nat) (line : OnLine SlotWindow) : Undecoded.Statement (.dataSlotReceived slot line) := undecoded_any _
theorem Undecoded.forcedRelease (slot : Nat) (line : OnLine SlotWindow) : Undecoded.Statement (.forcedRelease slot line) := undecoded_any _
theorem Undecoded.sinkStarved (slot : Nat) (line : OnLine SlotWindow) : Undecoded.Statement (.sinkStarved slot line) := undecoded_any _
theorem Undecoded.buildOwnCell : Undecoded.Statement (.buildOwnCell) := undecoded_any _
theorem Undecoded.ownCellSent : Undecoded.Statement (.ownCellSent) := undecoded_any _
theorem Undecoded.ownCellReadback (line : OnLine CellWindow) : Undecoded.Statement (.ownCellReadback line) := undecoded_any _
theorem Undecoded.duplicateIdMismatch (line : OnLine CellWindow) : Undecoded.Statement (.duplicateIdMismatch line) := undecoded_any _
theorem Undecoded.cellReceived (line : OnLine CellWindow) : Undecoded.Statement (.cellReceived line) := undecoded_any _
theorem Undecoded.peerDeparture (line : OnLine CellWindow) : Undecoded.Statement (.peerDeparture line) := undecoded_any _
theorem Undecoded.peerClaimMaturity (tag : Nat) (shifted : List (List Bool)) : Undecoded.Statement (.peerClaimMaturity tag shifted) := undecoded_any _
theorem Undecoded.ownClaimMaturity (source : Nat) (shifted : List (List Bool)) : Undecoded.Statement (.ownClaimMaturity source shifted) := undecoded_any _
theorem Undecoded.leaseLapse (tag : Nat) (shifted : List (List Bool)) : Undecoded.Statement (.leaseLapse tag shifted) := undecoded_any _
theorem Undecoded.refreshDue (source : Nat) (shifted : List (List Bool)) : Undecoded.Statement (.refreshDue source shifted) := undecoded_any _
theorem Undecoded.backoffExpiry (source : Nat) (shifted : List (List Bool)) : Undecoded.Statement (.backoffExpiry source shifted) := undecoded_any _
theorem Undecoded.relayTimeout (handle : Nat) (shifted : List (List Bool)) : Undecoded.Statement (.relayTimeout handle shifted) := undecoded_any _
theorem Undecoded.bridgeStrobe (port periods : Nat) (bits : List Bool) : Undecoded.Statement (.bridgeStrobe port periods bits) := undecoded_any _
theorem Undecoded.clockWatchExpiry (port : Nat) (shifted : List (List Bool)) : Undecoded.Statement (.clockWatchExpiry port shifted) := undecoded_any _

end Sys2Proof.Laws
end

