-- ==== Sys2Proof/Laws/Queue.lean ====
section
/-! SUPPORT. What the outgoing queue and the relay table's completion do. -/

namespace Sys2Proof.Machine

/-- Completing an open entry: DONE with its result, and a RELAY notice (R175). -/
theorem completeRelay_open {h : Nat} {r : Relay} {s : State} (res : RelayOutcome) (hr : s.relay h = some r)
    (ho : r.isOpen = true) :
    completeRelay h res s =
      notify (.relay h r.reqNo r.target res) (setRelay h (some { r with phase := .done r.sent res }) s) := by
  simp [completeRelay, hr, ho]

/-- Completing an entry that is DONE, or none, changes nothing (R175). -/
theorem completeRelay_closed {h : Nat} {s : State} (res : RelayOutcome)
    (hr : ∀ r, s.relay h = some r → r.isOpen = false) : completeRelay h res s = s := by
  unfold completeRelay
  split
  · rename_i r e
    simp [hr r e]
  · rfl

/-- An item returned to its owner leaves the queue as it is (R52). -/
@[simp] theorem returnItem_queue (it : QItem) (s : State) : (returnItem it s).tx.queue = s.tx.queue := by
  cases it <;> simp [returnItem]
  split <;> simp

@[simp] theorem refuseItem_queue (it : QItem) (s : State) : (refuseItem it s).tx.queue = s.tx.queue := by
  unfold refuseItem
  split
  · simp
  · simp

@[simp] theorem noteQueued_tx (it : QItem) (s : State) : (noteQueued it s).tx = s.tx := by
  cases it <;> simp [noteQueued]

/-- Taking the newest of a kind leaves one item fewer. -/
theorem takeNewest_length {p : QItem → Bool} {q rest : List QItem} {it : QItem}
    (h : takeNewest p q = some (it, rest)) : rest.length + 1 = q.length := by
  unfold takeNewest at h
  cases e : q.reverse.find? p with
  | none => simp [e] at h
  | some x =>
    simp only [e, Option.map_some, Option.some.injEq, Prod.mk.injEq] at h
    obtain ⟨rfl, rfl⟩ := h
    have hx : x ∈ q.reverse := List.mem_of_find?_eq_some e
    have hp : p x = true := List.find?_some e
    have hl := List.length_eraseP_of_mem hx hp
    have hpos : 0 < q.reverse.length := List.length_pos_of_mem hx
    simp only [List.length_reverse] at hl hpos ⊢
    omega

/-- With room the item enters at the tail and nothing else in the queue moves (R51). -/
theorem enqueue_room {it : QItem} {s : State} (h : s.tx.queue.length < 16) :
    (enqueue it s).tx.queue = s.tx.queue ++ [it] := by
  simp [enqueue, h]

/-- The queue never grows past 16 items (R48, R51). -/
theorem enqueue_length {it : QItem} {s : State} (h : s.tx.queue.length ≤ 16) :
    (enqueue it s).tx.queue.length ≤ 16 := by
  unfold enqueue
  split
  · simp; omega
  · split
    · split
      · rename_i e
        have hl := takeNewest_length e
        simp; omega
      · simpa [countLoss] using h
    · simpa [countLoss] using h

/-- A refused item leaves the queue as it is (R49). -/
theorem post_refused {it : QItem} {s : State} (h : queueAccepts s.sync.state it = false) :
    (post it s).tx.queue = s.tx.queue := by
  simp [post, h]

/-- An accepted item that replaces nothing goes through R51. -/
theorem post_accepted {it : QItem} {s : State} (h : queueAccepts s.sync.state it = true)
    (hr : ∀ n o, it = .offer n o → s.tx.queue.any (isOfferOf n) = false) : post it s = enqueue it s := by
  unfold post
  rw [if_pos h]
  split
  · rw [if_neg]
    simp [hr _ _ rfl]
  · rfl

/-- Posting keeps the queue within 16 items (R48, R51). -/
theorem post_length {it : QItem} {s : State} (h : s.tx.queue.length ≤ 16) : (post it s).tx.queue.length ≤ 16 := by
  unfold post
  split
  · split
    · split
      · simpa [replaceOffer] using h
      · exact enqueue_length h
    · exact enqueue_length h
  · simpa using h

end Sys2Proof.Machine
end

