-- ==== Sys2Proof/Laws/Trunk.lean ====
section
/-! SUPPORT. What the line interface's operations do: driving, the end of a frame, the dominant combination, the ticks a
report looks at, the class of a window, the lanes. -/

namespace Sys2Proof.Machine

/-! ### Driving -/

section Line
variable (l : Line) (start : Nat) (d : Drive) (y : Sync)

@[simp] theorem Line.begin_drive : (l.begin start d).drive = d := rfl
@[simp] theorem Line.begin_handed : (l.begin start d).handed = l.handed := rfl
@[simp] theorem Line.begin_ownCell : (l.begin start d).ownCell = l.ownCell := rfl
@[simp] theorem Line.begin_frameTicks : (l.begin start d).frameTicks = l.frameTicks := rfl
@[simp] theorem Line.begin_reportFrom : (l.begin start d).reportFrom = l.reportFrom := rfl
@[simp] theorem Line.begin_nothing : (l.begin start .nothing) = { l with drive := .nothing } := rfl

@[simp] theorem Line.endFrame_drive : (l.endFrame y).drive = l.drive := rfl
@[simp] theorem Line.endFrame_handed : (l.endFrame y).handed = [] := rfl
@[simp] theorem Line.endFrame_ownCell : (l.endFrame y).ownCell = l.ownCell := rfl
theorem Line.endFrame_driven : (l.endFrame y).driven = (l.driven.filter (fun d => decide (0 ≤ d.start))).map
    (fun d => ⟨d.start - frameLength y, cutShort ((frameLength y : Int) - d.start).toNat d.ticks⟩) := rfl
@[simp] theorem Line.endFrame_frameTicks : (l.endFrame y).frameTicks = frameLength y := rfl

end Line

/-- What is driven goes on record with its ticks (R3). -/
theorem Line.begin_driven (l : Line) (start : Nat) {d : Drive} (h : d ≠ .nothing) :
    (l.begin start d).driven = l.driven ++ [⟨start, d.ticks⟩] := by
  simp [Line.begin, h]

/-! ### The dominant combination (R3) -/

@[simp] theorem heardWindow_sound {w : Nat} (own others : BitVec w) : heardWindow own (.sound others) = others ||| own := rfl
@[simp] theorem heardWindow_failed {w : Nat} (own heard : BitVec w) : heardWindow own (.failed heard) = heard := rfl

/-- A tick of a sound window is dominant exactly if the others or this station drive it so (R3). -/
theorem heardWindow_tick {w : Nat} (own others : BitVec w) (i : Nat) :
    (heardWindow own (.sound others)).getLsbD i = (others.getLsbD i || own.getLsbD i) := by
  simp

/-- A station that drives nothing hears the others alone (R3). -/
theorem receivedSlot_undriven {k : Nat} {s : State} (others : SlotWindow) (h : s.line.drive = .nothing) :
    receivedSlot k (.sound others) s = others := by
  simp [receivedSlot, h, Drive.inSlot]

theorem receivedCell_undriven {s : State} (others : CellWindow) (h : s.line.drive = .nothing) :
    receivedCell (.sound others) s = others := by
  simp [receivedCell, h, Drive.inCell]

/-! ### The ticks of a report -/

@[simp] theorem withOwn_none (t : Int) (l : List Bool) : withOwn [] t l = l := by
  induction l generalizing t with
  | nil => rfl
  | cons b rest ih => simp [withOwn, droveAt, ih]

@[simp] theorem withOwn_length (driven : List Driven) (t : Int) (l : List Bool) :
    (withOwn driven t l).length = l.length := by
  induction l generalizing t with
  | nil => rfl
  | cons b rest ih => simp [withOwn, ih]

/-- Each tick of the combination is dominant exactly if the others or this station drove it so (R3). -/
theorem withOwn_getElem? (driven : List Driven) (t : Int) (l : List Bool) (i : Nat) :
    (withOwn driven t l)[i]? = (l[i]?).map (fun b => b || droveAt driven (t + i)) := by
  induction l generalizing t i with
  | nil => simp [withOwn]
  | cons b rest ih =>
    cases i with
    | zero => simp [withOwn]
    | succ j => simp [withOwn, ih, add_assoc, add_comm (1 : Int)]

/-- A recessive stretch holds no marker (R189). -/
@[simp] theorem markerEdges_recessive (t run n : Nat) : markerEdges t run (List.replicate n false) = [] := by
  induction n generalizing t run with
  | zero => rfl
  | succ n ih => simp [List.replicate_succ, markerEdges, ih]

/-- What a failed line holds is heard as it is (R30). -/
@[simp] theorem heardEdges_failed (driven : List Driven) (x : LineTicks) :
    heardEdges driven (.failed x) = markerEdges 0 0 x.ticks := rfl

/-- On a sound line the edges are the first ticks of the runs of the dominant combination (R5, R189). -/
theorem heardEdges_sound (driven : List Driven) (x : LineTicks) :
    heardEdges driven (.sound x) = markerEdges 0 0 (withOwn driven (-x.lead) x.ticks) := rfl

/-- A station that drove nothing hears the markers of the others (R5). -/
@[simp] theorem heardEdges_undriven (x : LineTicks) : heardEdges [] (.sound x) = markerEdges 0 0 x.ticks := by
  simp [heardEdges]

/-- A slot that is cut short keeps its ticks if they fit and ends recessive otherwise (R1, R189). -/
theorem cutShort_cases (n : Nat) (ticks : List Bool) :
    (ticks.length ≤ n ∧ cutShort n ticks = ticks) ∨
    (n < ticks.length ∧ cutShort n ticks = ticks.take (n - 1) ++ [false]) := by
  unfold cutShort
  split
  · exact .inl ⟨‹_›, rfl⟩
  · exact .inr ⟨by omega, rfl⟩

/-- A station that does not drive has only the record to look at (R4). -/
theorem drivenAbout_silent {s : State} (h : s.sync.state.drives = false) : drivenAbout s = s.line.driven := by
  have keep : ∀ n : Nat, (forEach n (takeAt 32) (atTick (32 * 32) s)).line.driven = s.line.driven ∧
      (forEach n (takeAt 32) (atTick (32 * 32) s)).sync.state = s.sync.state := fun n => by
    refine forEach_inv (fun t : State => t.line.driven = s.line.driven ∧ t.sync.state = s.sync.state) _ _ _
      (by simp [atTick]) ?_
    intro i t ht
    unfold takeAt
    repeat' split
    all_goals simp_all
  have k := keep s.sources.length
  unfold drivenAbout slotStarted decideSlot slotDrive
  split <;> simp [k.2, h, k.1]

/-! ### The class of a window -/

/-- The class of a slot to the sinks: DAMAGED where the readback of an own word is, as received otherwise (R12, R140). -/
theorem sinkClass_cases (k : Nat) (cl : SlotClass) (s : State) :
    (sinkClass k cl s = .damaged ∧ ∃ n x v, s.line.drive = .data k n x v ∧ cl ≠ .good x v) ∨
    (sinkClass k cl s = cl ∧ ∀ n x v, s.line.drive = .data k n x v → cl = .good x v) := by
  unfold sinkClass damagedSource
  cases s.line.drive with
  | data j n x v =>
    by_cases h : j = k ∧ cl ≠ .good x v
    · exact .inl ⟨by simp [h], n, x, v, by simp [h.1], h.2⟩
    · refine .inr ⟨by simp [h], fun m y w e => ?_⟩
      cases e
      exact not_not.mp fun c => h ⟨rfl, c⟩
  | _ => exact .inr ⟨rfl, nofun⟩

/-! ### Lanes (R155) -/

@[simp] theorem lanesOf_length (bits : List Bool) : (lanesOf bits).length = 8 := by simp [lanesOf]

@[simp] theorem bitsOfLanes_length (lanes : List Sample) : (bitsOfLanes lanes).length = 24 * lanes.length := by
  induction lanes with
  | nil => rfl
  | cons x rest ih => simp [bitsOfLanes] at ih ⊢; omega

end Sys2Proof.Machine
end

