-- ==== Sys2Proof/WellFormed.lean ====
section
/-! DEFINITION. Which commands name something that can occur: the operand ranges of the rules. -/

namespace Sys2Proof

/-- The station carries four ports, and a port frame has at most 192 bits (R155). -/
def shiftedWellFormed (shifted : List (List Bool)) : Bool :=
  shifted.length == 4 && shifted.all (fun p => decide (p.length ≤ 192))

/-- Data slots are 8 to 63 (R1). -/
def slotWellFormed (slot : Nat) : Bool := decide (8 ≤ slot) && decide (slot ≤ 63)

/-- The ticks of a report begin 1027 ticks before the frame start or earlier, ahead of tick 1024 of a frame of 2050
ticks, and go on to 31 ticks past local tick 1023, where a marker beginning there is recognised (R5, R16, R189). -/
def ticksWellFormed (line : OnLine LineTicks) : Bool :=
  decide (1027 ≤ line.value.lead) && decide (line.value.lead + 1055 ≤ line.value.ticks.length)

/-- A tag is 1 to 4095 (R101). -/
def tagWellFormed (tag : Nat) : Bool := decide (1 ≤ tag) && decide (tag ≤ 4095)

/-- The operand ranges of a command. What the LMP or the boot memory can shift in is any byte, so those commands
are well formed whatever they carry, up to the number of bytes their rule gives. -/
def Instr.wellFormed : Instr → Bool
  | .coldReset | .resetRelease | .lmpIdent | .takeNotice | .buildOwnCell | .ownCellSent => true
  | .bootStartByte _ | .bootLengthByte _ | .relayResult _ | .lmpTransactionEnd _ => true
  | .bootReadComplete rest => decide (24 ≤ rest.length) && decide (rest.length ≤ 158)
  | .readStation _ | .readSummary _ | .readSync _ | .readControl _ | .readPeer _ | .readAllocator _ => true
  | .readSlot _ | .readSource _ | .readSink _ | .readPort _ | .readRequest _ => true
  | .actMuteSource _ | .actUnmuteSource _ | .actReseekSource _ | .actMuteSink _ | .actUnmuteSink _ => true
  | .actClearCounters _ | .actRestart _ => true
  | .relayProbe _ _ _ | .relayCommand _ _ _ => true
  | .loadImage image => decide (2 ≤ image.length)
  | .lmpBadRequest frame => decide (1 ≤ frame.length)
  | .frameStart shifted | .listenLimitExpiry shifted | .acquireTimeout shifted | .learnPeriodComplete shifted
  | .enterLocked shifted | .foundingTrialEnd shifted => shiftedWellFormed shifted
  | .markerReport line | .edgeMissLimit line | .yieldTrunk line | .lineFault line => ticksWellFormed line
  | .dataSlotStart start => slotWellFormed start.slot
  | .dataSlotReceived slot _ | .forcedRelease slot _ | .sinkStarved slot _ => slotWellFormed slot
  | .ownCellReadback _ | .duplicateIdMismatch _ | .cellReceived _ | .peerDeparture _ => true
  | .peerClaimMaturity tag shifted | .leaseLapse tag shifted => tagWellFormed tag && shiftedWellFormed shifted
  | .ownClaimMaturity source shifted | .refreshDue source shifted | .backoffExpiry source shifted =>
    decide (source ≤ 7) && shiftedWellFormed shifted
  | .relayTimeout handle shifted => decide (handle ≤ 3) && shiftedWellFormed shifted
  | .bridgeStrobe port periods bits => decide (port ≤ 3) && bits.length == min periods 192
  | .clockWatchExpiry port shifted => decide (port ≤ 3) && shiftedWellFormed shifted

end Sys2Proof
end

