-- ==== Sys2Proof/Tests/Slice0.lean ====
section
/-! SUPPORT. The model's own tests: ill-formed commands refused, values the spec works out, and for every statement with
hypotheses a state and operands that meet them. -/

namespace Sys2Proof.Tests

-- One test after another: a thread for each test's kernel evaluation asks for more memory than the check grants.
set_option Elab.async false

open Sys2Proof Sys2Proof.Machine

/-! ### Small states -/

/-- The bits of four idle ports. -/
def still : List (List Bool) := List.replicate 4 (List.replicate 192 false)

/-- Ticks of the others, from `lead` ticks ahead of the frame start, with a marker of each of the leads given. -/
def ticksOf (lead length : Nat) (leads : List Int) : LineTicks :=
  ⟨lead, (List.range length).map (fun i => leads.any (fun b =>
    decide (-b ≤ (i : Int) - lead) && decide ((i : Int) - lead < 32 - b)))⟩

/-- A sound line on which the others send markers of the leads given, 100 at most and -67 at least. -/
def heard (leads : List Int) : OnLine LineTicks := .sound (ticksOf 100 200 leads)

/-- Nothing of the others in a data slot, and the slot as a failed line leaves it. -/
def quiet : OnLine SlotWindow := .sound 0
def dead : OnLine SlotWindow := .failed 0

/-- An image: IN and OUT ports of both clockings, two sources, two sinks, station 1 of manager 2. -/
def sample : Image where
  stationId := 1
  founding := true
  managers := [2]
  ports := [⟨.input, .follow⟩, ⟨.input, .bridge⟩, ⟨.output, .follow⟩, ⟨.output, .bridge⟩]
  sources := [⟨200, 2, 1, 1, 0⟩, ⟨201, 1, 2, 0, 2⟩]
  sinks := [⟨44, 2, 3, 0, 3, .hold⟩, ⟨45, 1, 2, 2, 2, .zero⟩]

/-- The bytes of an image: header, the manager set padded to four, ports, counts, records, CRC (R191). -/
def imageBytes (id founding : Nat) (managers ports : List Nat) (sources sinks : List (List Nat)) : List Byte :=
  let body := [0x5C, 26 + 8 * (sources.length + sinks.length), id, founding, managers.length] ++
    ((managers ++ [0, 0, 0, 0]).take 4 ++ (ports ++ ([sources.length, sinks.length, 0, 0, 0, 0, 0] ++
      (sources.flatten ++ sinks.flatten))))
  let bytes := body.map (BitVec.ofNat 8)
  bytes ++ byte2 (crc16 (byteBits bytes)).toNat

/-- The smallest image: no source, no sink. -/
def small : List Byte := imageBytes 3 0 [] [0, 0, 0, 0, 0, 0, 0, 0] [] []

/-- The image of the worked sequence of spec/11, section 11.7, with source 1 at lane `lane`. -/
def worked (lane : Nat) : List Byte :=
  imageBytes 12 1 [1, 2] [0, 0, 1, 1, 0, 0, 0, 0] [[0, 200, 4, 0, 0, 0, 0, 0], [0, 201, 4, 0, 0, lane, 0, 0]]
    [[0, 77, 2, 1, 0, 4, 0, 0]]

/-- The station of `sample` in sync state `st` after a frame of 2048 ticks, just accepted otherwise. -/
def up (st : SyncState) : State :=
  ((acceptImage .boot sample State.reset).modSync (fun y => { y with state := st })).modLine (fun l =>
    { l with reportFrom := 1024 })

/-- The station with its frame index set. -/
def atFrame (i : Nat) (s : State) : State := s.modSync (fun y => { y with frameIndex := i })

/-- The state after some commands. -/
def after : List Instr → State → State
  | [], s => s
  | c :: rest, s => match exec c s with
    | .next t => after rest t
    | _ => s

/-- A peer's or the own run put into the map with its entry. -/
def withRun (use : SlotUse) (e : DirEntry) (s : State) : State := installRun use e s

/-- The response of the LMP transaction that stands. -/
def response (s : State) : List Byte := (s.mgmt.lmp.map LmpTransaction.response).getD []

/-- The state with peer `id` PRESENT after `missed` missed turns. -/
def withPeer (id missed : Nat) (s : State) : State :=
  s.modPeer id (fun p => { p with presence := .present, missed := missed })

/-- A list of one holds nothing beyond position 0. -/
theorem index_of_one {α : Type} {l : List α} {m : Nat} {d : α} (h : l.length = 1) (hm : l[m]? = some d) : m = 0 := by
  have := (List.getElem?_eq_some_iff.mp hm).1
  omega

/-! ### Ill-formed commands -/

theorem test_wf_refuses_three_ports : (Instr.frameStart [[], [], []]).wellFormed = false := by decide
theorem test_wf_refuses_193_bits : (Instr.enterLocked (List.replicate 4 (List.replicate 193 false))).wellFormed = false := by
  decide +kernel
theorem test_wf_refuses_slot_7 : (Instr.dataSlotStart ⟨7, none⟩).wellFormed = false := by decide
theorem test_wf_refuses_slot_64 : (Instr.dataSlotReceived 64 quiet).wellFormed = false := by decide
theorem test_wf_refuses_lead_1026 :
    (Instr.markerReport (.sound ⟨1026, List.replicate 2082 false⟩)).wellFormed = false := by decide +kernel
theorem test_wf_refuses_short_ticks :
    (Instr.edgeMissLimit (.failed ⟨1027, List.replicate 2081 false⟩)).wellFormed = false := by decide +kernel
theorem test_wf_takes_ticks : (Instr.yieldTrunk (.sound ⟨1027, List.replicate 2082 false⟩)).wellFormed = true := by
  decide +kernel
theorem test_wf_refuses_tag_0 : (Instr.leaseLapse 0 still).wellFormed = false := by decide
theorem test_wf_refuses_tag_4096 : (Instr.peerClaimMaturity 4096 still).wellFormed = false := by decide
theorem test_wf_refuses_source_8 : (Instr.refreshDue 8 still).wellFormed = false := by decide
theorem test_wf_refuses_handle_4 : (Instr.relayTimeout 4 still).wellFormed = false := by decide
theorem test_wf_refuses_port_4 : (Instr.bridgeStrobe 4 0 []).wellFormed = false := by decide
theorem test_wf_refuses_bits_left_out : (Instr.bridgeStrobe 3 192 []).wellFormed = false := by decide
theorem test_wf_refuses_short_boot_read : (Instr.bootReadComplete (List.replicate 23 0)).wellFormed = false := by decide
theorem test_wf_refuses_short_image : (Instr.loadImage [0x5C]).wellFormed = false := by decide
theorem test_wf_refuses_empty_frame : (Instr.lmpBadRequest []).wellFormed = false := by decide
theorem test_wf_takes_strobe : (Instr.bridgeStrobe 3 500 (List.replicate 192 true)).wellFormed = true := by
  decide +kernel

/-! ### Values the spec works out -/

/-- spec/12, R189: sample -1, valid, slot 40 has check 102. -/
theorem test_slot_check_example : slotCheck 40 (-1) true = 102 := by decide +kernel

/-- The check value of this CRC (polynomial 1021h, initial FFFFh) over the digits 1 to 9 is 29B1h. -/
theorem test_crc_check_value :
    crc16 (byteBits [0x31, 0x32, 0x33, 0x34, 0x35, 0x36, 0x37, 0x38, 0x39]) = 0x29B1#16 := by decide +kernel

/-- R190: a RELEASE of tag 77, slots 44 to 45 is kind 3, then 12, 6 and 4 bits. -/
theorem test_release_layout : (Item.release 77 44 2).bits = 0x304DB080000000#56 := by decide +kernel

/-- R190: the first block of the cell of station 6, superframe 5200, no items, not fresh: 01, 00110, 0001010001010000 and
seven bits of count, flag and item. -/
theorem test_cell_first_block :
    (encodeCell ⟨6, 5200, 0, false, [0, 0, 0]⟩).extractLsb' 192 32 = 0b01001100001010001010000000000000#32 := by
  decide +kernel

/-- R21: station 12 listens for 1024 frames (256 + 64 x 12). -/
theorem test_listen_limit : listenLimit (after [.bootStartByte 0x5C, .bootLengthByte 50,
    .bootReadComplete ((worked 4).drop 2)] State.reset) = 1024 := by decide +kernel

/-- spec/11, 11.7: the image whose sources share lanes ends in CONFIG_FAULT with LANE_OVERLAP, FAULT high, ATTN_N low. -/
theorem test_worked_boot_fault :
    let s := after [.bootStartByte 0x5C, .bootLengthByte 50, .bootReadComplete ((worked 2).drop 2)] State.reset
    s.sync.state = .configFault ∧ s.loader.reason = some .laneOverlap ∧ s.faultHigh = true ∧ s.attnHigh = false := by
  decide +kernel

/-- spec/11, 11.7: the repaired image is ACCEPTED over the LMP and the station enters LISTEN. -/
theorem test_worked_load_image :
    let s := after [.bootStartByte 0x5C, .bootLengthByte 50, .bootReadComplete ((worked 2).drop 2),
      .loadImage (worked 4)] State.reset
    response s = [0x01, 0x00] ∧ s.sync.state = .listen ∧ s.loader.origin = some .lmp ∧ s.faultHigh = false := by
  decide +kernel

/-- R192: IDENT before acceptance: part 4816h, revision 01h, no id, CONFIG_LOAD, LOADING. -/
theorem test_ident : response (after [.lmpIdent] State.reset) = [0x00, 0x06, 0x48, 0x16, 0x01, 0xFF, 0x00, 0x00] := by
  decide +kernel

/-- R16: an advance of 2 shortens the frame to 2046 ticks. -/
theorem test_frame_length : (after [.markerReport (heard [5]), .frameStart still] (up .locked)).line.frameTicks = 2046 := by
  decide +kernel

/-- R124: station 1 backs off for 1 + (1 modulo 4) boundaries. -/
theorem test_backoff : backoffCount (up .locked) = 2 := by decide +kernel

/-! ### Witnesses of the statements: the step, reset and the configuration -/

theorem test_w_step : ({ State.reset with pending := [.lmpIdent] } : State).pending = .lmpIdent :: [] ∧
    State.reset.pending = [] := by decide +kernel

theorem test_w_cold_reset : (coldReset State.reset).resetLow = true ∧ State.reset.resetLow = false ∧
    Instr.lmpIdent ≠ .coldReset ∧ Instr.lmpIdent ≠ .resetRelease := by decide +kernel

/-- The start byte and, at both ends of its range, the length byte. -/
theorem test_w_boot_bytes : State.reset.resetLow = false ∧ State.reset.loader.boot = .startByte ∧ (0x5D : Byte) ≠ 0x5C#8 ∧
    (after [.bootStartByte 0x5C] State.reset).loader.boot = .lengthByte ∧
    (after [.bootStartByte 0x5C] State.reset).resetLow = false ∧
    (26 ≤ (26#8).toNat ∧ (26#8).toNat ≤ 160) ∧ (26 ≤ (160#8).toNat ∧ (160#8).toNat ≤ 160) ∧
    ((25#8).toNat < 26 ∨ 160 < (25#8).toNat) ∧ ((161#8).toNat < 26 ∨ 160 < (161#8).toNat) := by decide +kernel

/-- The smallest image read whole, and the worked image that fails. -/
theorem test_w_boot_read :
    let s := after [.bootStartByte 0x5C, .bootLengthByte 26] State.reset
    let u := after [.bootStartByte 0x5C, .bootLengthByte 50] State.reset
    s.resetLow = false ∧ s.loader.boot = .remaining 26 ∧ (small.drop 2).length = 26 - 2 ∧ s.ports.length = 4 ∧
    validateImage (0x5C#8 :: BitVec.ofNat 8 26 :: small.drop 2) = none ∧
    u.resetLow = false ∧ u.loader.boot = .remaining 50 ∧ ((worked 2).drop 2).length = 50 - 2 ∧
    validateImage (0x5C#8 :: BitVec.ofNat 8 50 :: (worked 2).drop 2) = some .laneOverlap := by decide +kernel

/-- LOAD_IMAGE in CONFIG_WAIT, with an image that passes and one that fails, and in LISTEN. -/
theorem test_w_load_image :
    let s := after [.bootStartByte 0xFF] State.reset
    s.resetLow = false ∧ s.sync.state = .configWait ∧ s.ports.length = 4 ∧ takenImage small = some small ∧
    validateImage small = none ∧ takenImage (worked 2) = some (worked 2) ∧
    validateImage (worked 2) = some .laneOverlap ∧ (up .listen).resetLow = false ∧ (up .listen).ports.length = 4 ∧
    (up .listen).sync.state ≠ .configWait ∧ (up .listen).sync.state ≠ .configFault := by decide +kernel

theorem test_w_configuration_stands : BootOk (up .locked) ∧ (up .locked).sync.state.timerRuns = true ∧
    Instr.actRestart 0 ≠ .coldReset ∧ exec (.actRestart 0) (up .locked) = .next (after [.actRestart 0] (up .locked)) :=
  ⟨by decide +kernel, by decide +kernel, by decide, rfl⟩

/-! ### Witnesses: the management port -/

theorem test_w_fault_and_attn :
    ({ notices := [.lost 1], lost := 0, lmp := none } : Mgmt).notices = [.lost 1] ∧
    16 ≤ (({ notices := List.replicate 16 (.lost 1), lost := 1, lmp := none } : Mgmt).notices.length) := by decide +kernel

/-- The reads and the indexed reads ask only that RESET_N is high; indexes at the ends of their ranges answer. -/
theorem test_w_reads : State.reset.resetLow = false ∧ (up .locked).resetLow = false ∧
    response (after [.readPeer 31] (up .locked)) ≠ [0x04, 0x00] ∧ response (after [.readPeer 32] (up .locked)) = [0x04, 0x00] ∧
    response (after [.readSlot 7] (up .locked)) = [0x04, 0x00] ∧
    response (after [.readSlot 63] (up .locked)) = [0, 9, 0, 255, 255, 255, 255, 0, 0, 0, 255] := by decide +kernel

theorem test_w_mute_actions : (up .locked).resetLow = false ∧ 63 < (64#8).toNat ∧ (63#8).toNat ≤ 63 ∧
    (up .locked).sources.length ≤ (2#8).toNat ∧ (up .locked).sinks.length ≤ (2#8).toNat ∧ (2#8).toNat ≤ 63 ∧
    (1#8).toNat ≤ 63 ∧ (1#8).toNat < (up .locked).sources.length ∧ (1#8).toNat < (up .locked).sinks.length := by
  decide +kernel

/-- Source 1 of the sample station OWNED over a run of one slot. -/
def owning : State :=
  withRun (.owned 1 201 2) ⟨201, 1, 20, 1, 2, true, true⟩ ((up .locked).modSource 1 (fun c =>
    { c with state := .owned, run := some ⟨20, 1⟩, queue := [[5]] }))

theorem test_w_reseek : owning.resetLow = false ∧ (1#8).toNat ≤ 63 ∧
    (owning.sources[(1#8).toNat]?).map Source.state = some .owned ∧
    (owning.sources[(1#8).toNat]?).bind Source.run = some ⟨20, 1⟩ ∧ owning.sync.state = .locked ∧
    owning.tx.queue.length < 16 ∧ (owning.sources[(0#8).toNat]?).map Source.state = some .idle := by decide +kernel

theorem test_w_clear_counters : (up .locked).resetLow = false ∧ (63#8).toNat ≤ 63 := by decide +kernel

/-- RESTART finds each of its states. -/
theorem test_w_restart : ∀ st ∈ [SyncState.locked, .founding, .mute, .learn, .acquire, .listen, .leaving, .configFault],
    (up st).resetLow = false ∧ (up st).sync.state = st ∧ (up st).mgmt.notices = [] ∧ (0#8).toNat ≤ 63 := by decide +kernel

/-- Each test of a relay fails somewhere: no code, the state, the target out of range or own, absent, a full table. -/
theorem test_w_relay_refused : (up .locked).resetLow = false ∧ subjectOf (8#8).toNat = none ∧ actionOf (5#8).toNat = none ∧
    subjectOf (5#8).toNat ≠ none ∧ actionOf (8#8).toNat ≠ none ∧ (63#8).toNat ≤ 63 ∧ 63 < (64#8).toNat ∧
    (up .listen).sync.state ≠ .locked ∧ (up .locked).sync.state = .locked ∧ 31 < (32#8).toNat ∧
    (1#8).toNat = (up .locked).id ∧ ¬(31 < (31#8).toNat) ∧ ((up .locked).peer (31#8).toNat).presence ≠ .present ∧
    (∀ e ∈ List.replicate 4 (some (⟨7, 2, .subject .peer, 3, .queued⟩ : Relay)), e ≠ none) ∧
    (withPeer 31 0 (up .locked)).peer 31 = ⟨.present, 0, none, 0⟩ := by decide +kernel

/-- A relay accepted at handle 1, the second of the table free, request number 7. -/
def relaying : State :=
  (withPeer 31 0 (up .locked)).modReq (fun q =>
    { q with table := [some ⟨6, 2, .subject .peer, 3, .queued⟩, none, none, none], nextNo := 7 })

theorem test_w_relay_accepted : relaying.resetLow = false ∧ (63#8).toNat ≤ 63 ∧ relaying.sync.state = .locked ∧
    (31#8).toNat ≤ 31 ∧ (31#8).toNat ≠ relaying.id ∧ (relaying.peer (31#8).toNat).presence = .present ∧
    relaying.req.table.length = 4 ∧ relaying.req.table[1]? = some none ∧
    (∀ g, g < 1 → relaying.req.table[g]? ≠ some none) ∧ (∀ e ∈ openNumbers relaying.req.table, e ≠ relaying.req.nextNo) ∧
    relaying.tx.queue.length < 16 ∧ (subjectOf (1#8).toNat).map Code.subject = some (.subject .summary) ∧
    (actionOf (14#8).toNat).map Code.action = some (.action .restart) := by decide +kernel

/-- Three numbers in use: with 255 next, 255, 0 and 1 are skipped and 2 is taken. -/
theorem test_w_request_number :
    let table : List (Option Relay) := [some ⟨255, 2, .subject .peer, 3, .queued⟩, some ⟨0, 2, .subject .peer, 3, .queued⟩,
      none, some ⟨1, 2, .subject .peer, 3, .queued⟩]
    (openNumbers table).length ≤ 3 ∧ 255 < 256 ∧ freeNumber table 4 255 = 2 := by decide +kernel

/-- A relay table with an entry of each state and a free handle. -/
def answering : State :=
  (up .locked).modReq (fun q => { q with table := [some ⟨6, 2, .subject .peer, 3, .queued⟩,
    some ⟨7, 2, .subject .peer, 3, .awaiting 9⟩, some ⟨8, 2, .subject .peer, 3, .done (some 9) .timeout⟩, none] })

theorem test_w_relay_result : answering.resetLow = false ∧ 3 < (4#8).toNat ∧ (3#8).toNat ≤ 3 ∧
    answering.relay (3#8).toNat = none ∧ answering.relay (0#8).toNat = some ⟨6, 2, .subject .peer, 3, .queued⟩ ∧
    answering.relay (1#8).toNat = some ⟨7, 2, .subject .peer, 3, .awaiting 9⟩ ∧
    answering.relay (2#8).toNat = some ⟨8, 2, .subject .peer, 3, .done (some 9) .timeout⟩ ∧
    13 ≤ 13 ∧ 12 < 13 := by decide +kernel

theorem test_w_take_notice : (up .locked).resetLow = false ∧ (up .locked).mgmt.notices = [] ∧
    (notify (.lost 1) (up .locked)).mgmt.notices = [.lost 1] ∧
    16 ≤ (List.replicate 16 (Notice.lost 1)).length ∧ 0 < 3 := by decide +kernel

/-- One bad frame of each sort: kind 9 and 0, group 11, a subject sent as an action, an action sent as a subject, index 64,
handle 4. -/
theorem test_w_bad_request : (up .locked).resetLow = false ∧ 8 < (9#8).toNat ∧ 10 < (11#8).toNat ∧
    actionOf (1#8).toNat = none ∧ subjectOf (14#8).toNat = none ∧ 63 < (64#8).toNat ∧ 3 < (4#8).toNat ∧
    response (after [.lmpBadRequest [9]] (up .locked)) = [0x05, 0x00] := by decide +kernel

/-- R192: kinds 1 to 8; READ of group 6 is slot, ACT code 14 RESTART; an image frame is as long as its length byte says; a
frame cut short is no request. -/
theorem test_w_request_coding : (63#8).toNat ≤ 63 ∧ (1 ≤ (1#8).toNat ∧ (5#8).toNat ≤ 5) ∧
    (8 ≤ (8#8).toNat ∧ (14#8).toNat ≤ 14) ∧ (3#8).toNat ≤ 3 ∧ takenImage small = some small ∧
    takenImage (small.take 25) = none ∧ requestOf [2, 6, 63] = some (.readSlot 63) ∧
    requestOf [3, 14, 0] = some (.actRestart 0) ∧ requestOf [4, 31, 5, 63] = some (.relayProbe 31 5 63) ∧
    requestOf [5, 31, 8, 0] = some (.relayCommand 31 8 0) ∧ requestOf [6, 3] = some (.relayResult 3) ∧
    requestOf (8 :: small) = some (.loadImage small) ∧ requestOf [6] = none ∧ requestOf [4, 31, 5] = none := by
  decide +kernel

/-! ### Witnesses: frame starts, boundaries, marker reports -/

theorem test_w_frame_start : State.reset.resetLow = false ∧ State.reset.sync.state.timerRuns = false ∧
    (up .locked).sync.state.timerRuns = true ∧
    ¬((up .locked).sync.state = .listen ∧ listenLimit (up .locked) ≤ (up .locked).sync.listenCount + 1 ∧
      (up .locked).mayFound = true) ∧ (up .locked).sync.frameIndex ≠ 31 ∧ (up .locked).sync.state ≠ .learn := by
  decide +kernel

/-- The longest and the shortest frame: advances of -2 in ACQUIRE and of 2 in LOCKED; the marker driven in a frame of 2046
ticks stands on record at -2046; after 2050 ticks the next report takes edges to lead 1026 (log 29). -/
theorem test_w_frame_length :
    let s := (up .acquire).modSync (fun y => { y with advance := -2 })
    let u := ((up .locked).modSync (fun y => { y with advance := 2 })).modLine (Line.begin 0 .marker)
    s.resetLow = false ∧ s.sync.state.timerRuns = true ∧ SyncOk s ∧ s.sync.jump = none ∧
    u.resetLow = false ∧ u.sync.state.timerRuns = true ∧ SyncOk u ∧ u.sync.jump = none ∧
    (after [.frameStart still] s).line.frameTicks = 2050 ∧ (after [.frameStart still] u).line.frameTicks = 2046 ∧
    (after [.frameStart still] s).line.reportFrom = 1026 ∧
    (after [.frameStart still] u).line.driven.map Driven.start = [-2046, 0] := by
  decide +kernel

/-- The sample station in LISTEN with a listen count and two qualifying edges, able to found or not. -/
def listening (count : Nat) (founding : Bool) : State :=
  ((up .listen).modSync (fun y => { y with listenCount := count, qualEdges := 2, qualLead := some 7 })).modLoader (fun l =>
    { l with image := some { sample with founding := founding } })

/-- Station 1 listens for 320 frames: counts 318 and 319 lie on either side of the limit; the 64th frame of ACQUIRE. -/
theorem test_w_listen_and_acquire : (listening 318 true).resetLow = false ∧ (listening 318 true).sync.state = .listen ∧
    (listening 318 true).sync.listenCount + 1 < listenLimit (listening 318 true) ∧
    listenLimit (listening 319 true) ≤ (listening 319 true).sync.listenCount + 1 ∧
    (listening 319 true).mayFound = true ∧ (listening 319 true).mgmt.notices = [] ∧
    listenLimit (listening 319 false) ≤ (listening 319 false).sync.listenCount + 1 ∧
    (listening 319 false).mayFound = false ∧
    (after [.listenLimitExpiry still] (atFrame 31 (listening 319 false))).sync.superframe = 1 ∧
    (after [.listenLimitExpiry still] (listening 319 true)).sync.state = .founding ∧
    (after [.listenLimitExpiry still] (listening 319 true)).sync.qualLead = none ∧
    (after [.listenLimitExpiry still] (listening 319 false)).sync.qualLead = some 7 ∧
    (after [.listenLimitExpiry still] (listening 318 true)).sync.state = .listen ∧
    (∀ n ∈ [62, 63], let s := (up .acquire).modSync (fun y => { y with acquireCount := n })
      s.resetLow = false ∧ s.sync.state = .acquire ∧ s.sync.acquireCount = n ∧
      (after [.acquireTimeout still] s).sync.state = (if n = 63 then .listen else .acquire)) := by decide +kernel

theorem test_w_entry_to_locked :
    let s := atFrame 31 ((up .learn).modSync (fun y => { y with learnCount := 7 }))
    let u := (up .learn).modSync (fun y => { y with learnCount := 8 })
    let f := atFrame 31 (up .founding)
    s.resetLow = false ∧ s.sync.state = .learn ∧ s.sync.learnCount = 7 ∧ s.sync.frameIndex = 31 ∧
    u.resetLow = false ∧ u.sync.state = .learn ∧ u.sync.learnCount = 8 ∧ u.sync.frameIndex < 31 ∧ u.mgmt.notices = [] ∧
    f.resetLow = false ∧ f.sync.state = .founding ∧ f.sync.frameIndex = 31 ∧ (∀ e ∈ f.alloc.dir, e.station ≠ f.id) ∧
    (after [.enterLocked still] u).lockHigh = true ∧ (after [.foundingTrialEnd still] f).lockHigh = true := by decide +kernel

/-- The sample station at the end of a superframe, with a carrier count in slot 30. -/
def ending (st : SyncState) (carrier : Nat) : State :=
  atFrame 31 ((up st).modAlloc (fun a => { a with slots := a.slots.modify 22 (fun x => { x with carrier := carrier }) }))

theorem test_w_stray_rule : ∀ c ∈ [3, 4], (ending .locked c).resetLow = false ∧ MapOk (ending .locked c) ∧
    (ending .locked c).sync.state.takesCells = true ∧ (ending .locked c).sync.frameIndex = 31 ∧
    ((after [.frameStart still] (ending .locked c)).slot 30).use = (if c = 4 then .stray else .free) := by decide +kernel

/-- Station 5's claim of slots 30 and 31, PENDING to superframe `m`. -/
def claimed (m : Nat) : State :=
  withRun (.pending 5 300 2 (BitVec.ofNat 16 m)) ⟨300, 5, 30, 2, 2, false, false⟩ (ending .locked 4)

/-- Maturity at distance 0 and, after an adoption, at distance 3; distance 2 waits. -/
theorem test_w_peer_maturity : (∀ m ∈ [1, 4], (claimed m).resetLow = false ∧ MapOk (claimed m) ∧
      (claimed m).sync.state.takesCells = true ∧ (claimed m).sync.frameIndex = 31 ∧
      findTag 300 (claimed m).alloc.dir = some ⟨300, 5, 30, 2, 2, false, false⟩ ∧ 5 ≠ (claimed m).id ∧
      ((claimed m).slot 30).use = .pending 5 300 2 (BitVec.ofNat 16 m) ∧
      (BitVec.ofNat 16 m = (claimed m).sync.superframe + 1 ∨ 3 ≤ (BitVec.ofNat 16 m - ((claimed m).sync.superframe + 1)).toNat) ∧
      (after [.peerClaimMaturity 300 still] (claimed m)).slot 31 = ⟨.held 5 300 2 24, 0⟩) ∧
    after [.peerClaimMaturity 300 still] (claimed 3) = claimed 3 := by decide +kernel

/-- The sample station's source 0, on a BRIDGE port, CLAIMING over slots 30 and 31 with six frames queued. -/
def ripening : State :=
  withRun (.pending 1 200 1 1) ⟨200, 1, 30, 2, 1, false, true⟩ ((ending .locked 0).modSource 0 (fun c =>
    { c with state := .claiming, run := some ⟨30, 2⟩, queue := [[0], [1], [2], [3], [4], [5]] }))

theorem test_w_own_maturity : ripening.resetLow = false ∧ MapOk ripening ∧ SourcesOk ripening ∧
    ripening.sync.state.takesCells = true ∧ ripening.sync.frameIndex = 31 ∧
    (ripening.sources[0]?).map (fun c => (c.state, c.cfg.tag, c.cfg.port)) = some (.claiming, 200, 1) ∧
    findTag 200 ripening.alloc.dir = some ⟨200, 1, 30, 2, 1, false, true⟩ ∧ 1 = ripening.id ∧
    (ripening.slot 30).use = .pending 1 200 1 1 ∧ (1 : Superframe) = ripening.sync.superframe + 1 ∧
    ripening.clocking 1 = some .bridge ∧
    ((after [.ownClaimMaturity 0 still] ripening).sources.map Source.queue).getD 0 [] = [[2], [3], [4], [5]] := by
  decide +kernel

/-- Station 5's run of slots 30 and 31, HELD with lease `l`; slot 30 has 4 carrier frames. -/
def leased (l : Nat) : State := withRun (.held 5 300 2 l) ⟨300, 5, 30, 2, 2, true, false⟩ (ending .locked 4)

/-- Lease 1 lapses, slot by slot; lease 2 counts down. -/
theorem test_w_leases : ∀ l ∈ [0, 1, 2, 24], (leased l).resetLow = false ∧ MapOk (leased l) ∧
    (leased l).sync.state.takesCells = true ∧ (leased l).sync.frameIndex = 31 ∧
    findTag 300 (leased l).alloc.dir = some ⟨300, 5, 30, 2, 2, true, false⟩ ∧ 5 ≠ (leased l).id ∧
    ((leased l).slot 30).use = .held 5 300 2 l ∧
    ((after [.frameStart still] (leased l)).slot 30, (after [.frameStart still] (leased l)).slot 31) =
      (if l ≤ 1 then (⟨.stray, 0⟩, ⟨.free, 0⟩) else (⟨.held 5 300 2 (l - 1), 0⟩, ⟨.held 5 300 2 (l - 1), 0⟩)) := by
  decide +kernel

/-- The owning station at a boundary with refresh count 7, and sources in BACKOFF with count 1. -/
theorem test_w_refresh_and_backoff :
    let s := atFrame 31 (owning.modSource 1 (fun c => { c with refresh := 7 }))
    let u := fun st => atFrame 31 ((up st).modSource 0 (fun c => { c with state := .backoff, backoff := 1 }))
    s.resetLow = false ∧ s.sync.frameIndex = 31 ∧ s.sync.state = .locked ∧
    (∀ e ∈ s.alloc.dir, e.station = s.id → e.active = true) ∧ s.tx.queue.length + s.sources.length ≤ 16 ∧
    (s.sources[1]?).map (fun c => (c.state, c.refresh)) = some (.owned, 7) ∧
    (after [.refreshDue 1 still] s).tx.queue = [.offer 1 false] ∧
    (∀ st ∈ [SyncState.locked, .leaving], (u st).resetLow = false ∧ (u st).sync.frameIndex = 31 ∧ (u st).sync.state = st ∧
      (∀ e ∈ (u st).alloc.dir, e.station = (u st).id → e.active = true) ∧
      (u st).tx.queue.length + (u st).sources.length ≤ 16 ∧
      ((u st).sources[0]?).map (fun c => (c.state, c.backoff)) = some (.backoff, 1)) ∧
    (after [.backoffExpiry 0 still] (u .locked)).tx.queue = [.claim 0] := by decide +kernel

/-- The sample station at a boundary with source 0 changed by `f`, and no slot FREE where `full`. -/
def seekingAt (st : SyncState) (full : Bool) (f : Source → Source) : State :=
  atFrame 31 (((up st).modSource 0 f).modAlloc (fun a => { a with
    slots := a.slots.map (fun x => if full then { x with use := .held 5 300 1 9 } else x) }))

/-- State, backoff count and queued item of source 0, and the queue, after the next frame start. -/
def boundaryOf (s : State) : List (SourceState × Nat × QueuedItem) × List QItem :=
  let t := after [.frameStart still] s
  ((t.sources.take 1).map (fun c => (c.state, c.backoff, c.queuedItem)), t.tx.queue)

theorem test_w_sources_at_a_boundary : ∀ st ∈ [SyncState.locked, .leaving],
    let s := seekingAt st true (fun c => { c with state := .blocked })
    s.resetLow = false ∧ s.sync.frameIndex = 31 ∧ s.sync.state = st ∧
    (∀ e ∈ s.alloc.dir, e.station = s.id → e.active = true) ∧ s.tx.queue.length + s.sources.length ≤ 16 := by
  decide +kernel

/-- BLOCKED with no run to find, SEEKING and RELEASING with an item queued, BACKOFF above 1, in LOCKED and LEAVING. -/
theorem test_w_sources_stay : ∀ st ∈ [SyncState.locked, .leaving],
    [seekingAt st true (fun c => { c with state := .blocked }),
      seekingAt st true (fun c => { c with state := .seeking, queuedItem := .claim }),
      seekingAt st true (fun c => { c with state := .releasing, run := some ⟨62, 2⟩, queuedItem := .release }),
      seekingAt st true (fun c => { c with state := .backoff, backoff := 4 })].map boundaryOf =
    [([(.blocked, 0, .nothing)], []), ([(.seeking, 0, .claim)], []), ([(.releasing, 0, .release)], []),
      ([(.backoff, 3, .nothing)], [])] := by decide +kernel

/-- BLOCKED with a run to find, SEEKING and RELEASING with nothing queued; in LEAVING the CLAIM is refused. -/
theorem test_w_sources_post :
    boundaryOf (seekingAt .locked false (fun c => { c with state := .blocked })) = ([(.seeking, 0, .claim)], [.claim 0]) ∧
    boundaryOf (seekingAt .leaving false (fun c => { c with state := .blocked })) = ([(.seeking, 0, .nothing)], []) ∧
    boundaryOf (seekingAt .locked true (fun c => { c with state := .seeking })) = ([(.seeking, 0, .claim)], [.claim 0]) ∧
    boundaryOf (seekingAt .locked true (fun c => { c with state := .releasing, run := some ⟨62, 2⟩ })) =
      ([(.releasing, 0, .release)], [.release 0 200 ⟨62, 2⟩ false]) := by decide +kernel

/-- The relay sent in superframe 9 meets its deadline at the boundary into 13, and after an adoption at one past reach. -/
theorem test_w_relay_deadline : ∀ m ∈ [12, 7],
    let s := (atFrame 31 answering).modSync (fun y => { y with superframe := BitVec.ofNat 16 m })
    s.resetLow = false ∧ s.sync.state = .locked ∧ s.sync.frameIndex = 31 ∧
    s.relay 1 = some ⟨7, 2, .subject .peer, 3, .awaiting 9⟩ ∧
    ((9 : Superframe) + 4 = s.sync.superframe + 1 ∨ 5 ≤ (9 + 4 - (s.sync.superframe + 1)).toNat) ∧
    ((after [.relayTimeout 1 still] s).relay 1).map Relay.phase = some (.done (some 9) .timeout) := by decide +kernel

/-- BRIDGE port 1 with watch counts 62 and 63, and LOST at 64. -/
def watching (clock : ClockStatus) (watch : Nat) : State :=
  (up .listen).modPort 1 (fun q => { q with clock := some clock, watch := watch })

theorem test_w_clock_watch : ∀ x ∈ [(ClockStatus.active, 62), (.active, 63), (.lost, 64)],
    let s := watching x.1 x.2
    s.resetLow = false ∧ s.sync.state.timerRuns = true ∧ s.mgmt.notices = [] ∧
    (s.ports[1]?).map (fun q => (q.cfg, q.clock, q.watch)) = some (some ⟨.input, .bridge⟩, some x.1, x.2) ∧
    ((after [.clockWatchExpiry 1 still] s).ports[1]?).bind Port.clock = some (if x.2 = 62 then .active else .lost) := by
  decide +kernel

/-- The bits of eight lanes that each hold its number. -/
def numbered : List Bool := bitsOfLanes ((List.range 8).map (BitVec.ofNat 24))

/-- The sample station with source 1 on FOLLOW port 0, at lane 5, in state `st`, and a FOLLOW sink RUNNING at lane 3. -/
def following (primed : Bool) (jump : Option Nat) (st : SourceState) : State :=
  ((((up .locked).modPort 0 (fun q => { q with primed := primed })).modSync (fun y => { y with jump := jump })).modSources
    (fun _ => [{ Source.cold ⟨201, 1, 2, 0, 5⟩ with state := st, queue := [[9]], collidedNow := true }])).modSinks
    (fun _ => [{ Sink.cold ⟨45, 1, 2, 3, 2, .zero⟩ with state := .running, run := some ⟨30, 1⟩, queue := [[.good 6]] }])

/-- A whole frame, an unprimed port, a jump frame of the shortest length and of 2046 ticks; an idle source. -/
theorem test_w_follow_ports :
    let queue := fun s => (after [.frameStart (numbered :: still.tail)] s).sources.map Source.queue
    (∀ s ∈ [following true none .owned, following false none .claiming, following true (some 2046) .claiming,
        following true none .idle],
      s.resetLow = false ∧ s.sync.state.timerRuns = true ∧ s.sync.frameIndex ≠ 31 ∧ s.sync.state ≠ .learn ∧
      (s.ports.map Port.cfg).take 1 = [some ⟨.input, .follow⟩] ∧
      (s.ports.map Port.cfg).drop 2 = [some ⟨.output, .follow⟩, some ⟨.output, .bridge⟩] ∧
      (s.sources.map (fun c => decide (c.cfg.firstLane + c.cfg.channels ≤ 8))) = [true]) ∧
    numbered.length = 192 ∧ 5 + 1 ≤ 8 ∧ 3 + 1 ≤ 8 ∧
    queue (following true none .owned) = [[[5]]] ∧ queue (following false none .claiming) = [[[9]]] ∧
    queue (following true (some 2046) .claiming) = [[[5]]] ∧ queue (following true none .idle) = [[[9]]] := by
  decide +kernel

/-- The sink of OUT port 2 plays in its lane, the other lanes zero; its play is a row of the table. -/
theorem test_w_follow_play :
    let s := following true none .owned
    ((after [.frameStart still] s).ports.map Port.lanesOut).getD 2 [] = [0, 0, 0, 6, 0, 0, 0, 0] ∧
    (s.sinks.map (fun c => (c.cfg.port, c.state, c.queue, c.lastGood))) = [(2, .running, [[.good 6]], [0])] ∧
    (∀ c ∈ s.sinks, PlayRow false c [6] { c with queue := [], lastOutput := some [6], lastGood := [6], slipGuard := 1 }) := by
  refine ⟨by decide +kernel, by decide +kernel, fun c hc => ?_⟩
  have e : c = { Sink.cold ⟨45, 1, 2, 3, 2, .zero⟩ with
      state := .running, run := some ⟨30, 1⟩, queue := [[.good 6]] } := by
    revert c; decide +kernel
  subst e
  exact Or.inr (Or.inr (Or.inr ⟨[.good 6], [], by decide, by decide, rfl, rfl, rfl⟩))

/-- The worked sequence of spec/02, 2.10: the third edge of lead 700 sets the tick count to 1723 and enters ACQUIRE; it ends
with a jump frame of 1348 ticks. The line here is given as far as its rule asks. -/
theorem test_w_listen_report :
    let line : OnLine LineTicks := .sound (ticksOf 1027 2082 [700])
    let s := up .listen
    let u := (up .listen).modSync (fun y => { y with qualEdges := 2, qualLead := some 700 })
    (Instr.markerReport line).wellFormed = true ∧ reportLeads line s = [700] ∧ reportLeads (heard []) s = [] ∧
    s.resetLow = false ∧ s.sync.state = .listen ∧ s.sync.jump = none ∧ s.sync.qualLead = none ∧
    u.resetLow = false ∧ u.sync.state = .listen ∧ u.sync.jump = none ∧ u.sync.qualLead = some 700 ∧ u.sync.qualEdges = 2 ∧
    (691 - 700 : Int) < -8 ∧ (-8 : Int) ≤ 692 - 700 ∧ (708 - 700 : Int) ≤ 8 ∧ 8 < (709 - 700 : Int) ∧
    ((up .listen).modSync (fun y => { y with qualEdges := 1, qualLead := some 1024 })).sync.qualEdges = 1 ∧
    (after [.markerReport line] u).sync.tick = 1723 ∧ (after [.markerReport line] u).sync.state = .acquire ∧
    frameLength (after [.markerReport line] u).sync = 1348 := by
  decide +kernel

/-- The tracking window ends at 48; misses 1 to 3 in ACQUIRE, LEARN and MUTE. -/
theorem test_w_slew_report : ∀ st ∈ [SyncState.acquire, .learn, .mute], ∀ m ∈ [1, 2, 3],
    let s := (up st).modSync (fun y => { y with edgeMiss := m })
    s.resetLow = false ∧ s.sync.jump = none ∧ s.sync.state = st ∧ s.sync.edgeMiss = m ∧ s.mgmt.notices = [] ∧
    (∀ a ∈ [(49 : Int), -49], a < -48 ∨ 48 < a) ∧ reportLeads (heard [90, 48]) s = [90] ++ 48 :: [] ∧
    reportLeads (heard [49, -49]) s = [49, -49] ∧ reportLeads (heard [-48]) s = [] ++ -48 :: [] ∧
    (after [.markerReport (heard [90, 48])] s).sync.advance = 2 ∧
    (after [.markerReport (heard [-48])] s).sync.advance = -2 ∧
    (after [.edgeMissLimit (heard [49])] s).sync.state = (if m = 1 ∨ st = .mute then st else .listen) := by decide +kernel

/-- The sample station driving its marker in the frame at hand. -/
def marking (st : SyncState) : State := (up st).modLine (Line.begin 0 .marker)

/-- First edges 48 and 49, none on a failed line, and a foreign-later edge. -/
theorem test_w_drive_report : ∀ st ∈ [SyncState.founding, .locked, .leaving],
    let s := marking st
    s.resetLow = false ∧ s.sync.jump = none ∧ s.sync.state.drives = true ∧ (48 : Int) < 49 ∧
    s.sync.foreignEarlier = 0 ∧ s.sync.edgeMiss < 3 ∧ s.sync.counters.foreignLater ≤ 65535 ∧
    reportLeads (heard [48]) s = 48 :: [0] ∧ reportLeads (heard [49]) s = 49 :: [0] ∧
    reportLeads (.failed (ticksOf 100 200 [])) s = [] ∧ reportLeads (heard [-49]) s = 0 :: [-49] ∧
    (after [.markerReport (heard [-49])] s).sync.counters.foreignLater = 1 ∧
    (after [.markerReport (heard [-49])] s).sync.leading = true ∧
    (after [.markerReport (heard [-48])] s).sync.counters.foreignLater = 0 ∧
    (after [.markerReport (heard [49])] s).sync.foreignEarlier = 1 := by decide +kernel

theorem test_w_yield_and_line_fault : ∀ st ∈ [SyncState.founding, .locked, .leaving],
    let s := (marking st).modSync (fun y => { y with foreignEarlier := 1 })
    let u := (marking st).modSync (fun y => { y with edgeMiss := 3 })
    let dark : OnLine LineTicks := .failed (ticksOf 100 200 [])
    s.resetLow = false ∧ s.sync.jump = none ∧ s.sync.state.drives = true ∧ s.sync.foreignEarlier = 1 ∧ (49 : Int) ≤ 49 ∧
    u.resetLow = false ∧ u.sync.jump = none ∧ u.sync.state.drives = true ∧ u.sync.edgeMiss = 3 ∧ u.mgmt.notices = [] ∧
    reportLeads (heard [49]) s = 49 :: [0] ∧ reportLeads dark u = [] ∧
    (after [.yieldTrunk (heard [49])] s).mgmt.notices = [.sync .yielded .listen 0 0] ∧
    (after [.lineFault dark] u).mgmt.notices = [.fault .lineFault] := by decide +kernel

/-- A foreign marker at every boundary of the clauses: parted from the own one, meeting it early and late, just after it;
edges at the ends of the report's range, with 1025 belonging to the report before. -/
theorem test_w_markers_on_the_line :
    (up .locked).line.driven = [] ∧ (marking .locked).line.driven = [⟨0, List.replicate 32 true⟩] ∧
    (marking .locked).line.handed = [] ∧ (marking .locked).sources.map Source.run = [none, none] ∧
    0 ≤ (marking .locked).line.reportFrom ∧ 40 ≤ 7 + 70 ∧
    (∀ x ∈ [(7, [33, 0]), (8, [32]), (9, [31]), (39, [1]), (40, [0]), (72, [0]), (73, [(0 : Int), -33])],
      reportLeads (.sound ⟨40, List.replicate x.1 false ++ (List.replicate 32 true ++ List.replicate 70 false)⟩)
        (marking .locked) = x.2) ∧
    (∀ x ∈ [((1025 : Int), ([] : List Int)), (1024, [1024])],
      reportLeads (.sound ⟨x.1, List.replicate 32 true⟩) (up .locked) = x.2) ∧
    (∀ x ∈ [((-1023 : Int), ([-1023] : List Int)), (-1024, [])],
      reportLeads (.sound ⟨x.1, List.replicate 32 true⟩) (up .locked) = x.2) := by decide +kernel

/-- R1, R5, R189: the own word of slot 63 that an advance of 1 cuts off behind its last dominant tick (sample 0, not valid:
check 2) ends recessive, and the own edge stays at lead 0. -/
theorem test_w_stub_before_marker :
    let s := (((up .locked).modLine (fun l => { l with driven := [⟨2016, bitsOf 32 (dataWord 63 0 false).toNat⟩] }))).modSync
      (fun y => { y with advance := 1 })
    let t := after [.frameStart still] s
    t.line.driven = [⟨-(((List.replicate 30 false).length : Int) + 1), List.replicate 30 false ++ [false]⟩,
      ⟨0, List.replicate 32 true⟩] ∧ (List.replicate 30 false).length < 32 ∧
    reportLeads (heard []) t = [0] := by decide +kernel

/-- R189: dominant ticks just ahead of the own marker make one run with it. -/
theorem test_run_before_marker : ∀ n ∈ [(0 : Nat), 1, 31, 32, 40], reportLeads (.sound ⟨40 + n, List.replicate 40 false ++
    (List.replicate n true ++ List.replicate 72 false)⟩) (marking .locked) = [(n : Int)] := by decide +kernel

/-- R3, R5: 14 dominant ticks of others up to tick 1023 and the 24 of the own word of slot 32 are a marker of lead -1010. -/
theorem test_marker_with_slot_32 :
    let s := (withRun (.owned 1 200 1) ⟨200, 1, 31, 2, 1, true, true⟩ (up .locked)).modSource 0 (fun c =>
      { c with state := .owned, run := some ⟨31, 2⟩ })
    let u := s.modLine (fun l => { l with handed := [⟨32, 0, -1, true⟩] })
    let line : OnLine LineTicks := .sound ⟨-1010, List.replicate 14 true ++ List.replicate 50 false⟩
    reportLeads line u = [-1010] ∧ reportLeads line s = [] := by decide +kernel

/-! ### Witnesses: data slots -/

theorem test_w_data_words : 8 ≤ 8 ∧ 63 ≤ 63 ∧ 8 ≠ 63 ∧ classifySlot 63 (dataWord 8 5 false) = .damaged ∧
    classifySlot 8 (dataWord 8 5 false) = .good 5 false ∧ markerEdges 7 0 (List.replicate 33 true ++ [false]) = [7] ∧
    markerEdges 7 0 (List.replicate 31 true ++ [false]) = [] := by decide +kernel

/-- One source, OWNED over slots 61 to 63 or the part of them it has channels for, on port `port`, with a queue, a guard
count and a last sent frame. -/
def sendingOver (count port : Nat) (queue : List (List Sample)) (guard : Nat) (last : Option (List Sample)) : State :=
  withRun (.owned 1 200 1) ⟨200, 1, 64 - count, count, 1, true, true⟩ ((up .locked).modSources (fun _ =>
    [{ Source.cold ⟨200, count, 1, port, 0⟩ with
       state := .owned, run := some ⟨64 - count, count⟩, queue := queue, slipGuard := guard, lastSent := last }]))

/-- The same over slots 62 and 63. -/
def sending (port : Nat) (queue : List (List Sample)) (guard : Nat) (last : Option (List Sample)) : State :=
  sendingOver 2 port queue guard last

/-- The premises of a take at slot 62, for any queue. -/
theorem test_w_slot_start_owned : ∀ (m : Nat) (d : Source) (q : Run), (sending 1 [[7, 8]] 0 none).sources[m]? = some d →
    d.state = .owned → d.run = some q → q.first = 62 → m = 0 := by
  intro m d q h _ _ _
  exact index_of_one (by decide +kernel) h

/-- Underrun, skip, repeat and pop: each row of the take is met. -/
theorem test_w_slot_start_rows :
    let drive := fun s => (after [.dataSlotStart ⟨62, none⟩] s).line.drive
    (∀ s ∈ [sending 1 [] 3 none, sending 1 (List.replicate 7 [7, 8] ++ [[9, 9]]) 128 none, sending 1 [[7, 8]] 128 (some [1, 2]),
        sending 0 [[7, 8]] 128 (some [1, 2]), sending 1 [[7, 8]] 0 none],
      s.resetLow = false ∧ s.sync.state = .locked ∧ (s.sources[0]?).map Source.state = some .owned ∧
      (s.sources[0]?).bind Source.run = some ⟨62, 2⟩ ∧ (s.slot 62).use = .owned 1 200 1 ∧ s.line.handed = []) ∧
    drive (sending 1 [] 3 none) = .data 62 0 0 false ∧
    drive (sending 1 ([[1, 1], [2, 2]] ++ List.replicate 5 [7, 8]) 128 none) = .data 62 0 2 true ∧
    drive (sending 1 [[7, 8]] 128 (some [1, 2])) = .data 62 0 1 true ∧
    drive (sending 0 [[7, 8]] 128 (some [1, 2])) = .data 62 0 7 true := by decide +kernel

/-- The take row of the pop above, spelled out. -/
theorem test_w_take_row : let c := ((sending 1 [[7, 8]] 0 none).sources[0]?).getD (Source.cold ⟨0, 0, 0, 0, 0⟩)
    TakeRow true c (some [7, 8]) { c with queue := [], lastSent := some [7, 8], slipGuard := 1 } := by
  refine Or.inr (Or.inr (Or.inr ⟨by decide, by decide, by decide, by decide, rfl⟩))

/-- R132: a RESEEK that meets the take leaves the frame taken and its words undriven. -/
theorem test_w_slot_start_reseek : (0#8).toNat = 0 ∧ 0 ≤ 63 ∧
    (let t := after [.dataSlotStart ⟨62, some (0x0A, 0)⟩] (sending 1 [[7, 8], [5, 6]] 0 none)
     t.line.drive = .nothing ∧ t.sources.map (fun c => (c.state, c.lastSent)) = [(.releasing, some [7, 8])] ∧
     response t = [0x00, 0x00] ∧ (after [.dataSlotStart ⟨63, none⟩] t).line.drive = .nothing) := by decide +kernel

/-- No run begins at slots 62 and 63; their words wait, handed over at slot 61, and go out in their slots, unless the source
is no longer OWNED. -/
theorem test_w_slot_start_waiting :
    let s := after [.dataSlotStart ⟨61, none⟩] (sendingOver 3 1 [[7, 8, 9]] 0 none)
    let u := after [.dataSlotStart ⟨62, none⟩] s
    let v := s.modSource 0 (fun c => { c with state := .releasing })
    s.resetLow = false ∧ s.sync.state.timerRuns = true ∧ s.sync.state.drives = true ∧
    s.line.handed = [] ++ ⟨62, 0, 8, true⟩ :: [⟨63, 0, 9, true⟩] ∧
    (s.sources.map (fun c => (c.cfg.tag, c.run.map Run.first, c.state))) = [(200, some 61, .owned)] ∧
    (s.slot 62).use = .owned 1 200 1 ∧ u.line.drive = .data 62 0 8 true ∧ u.line.handed = [⟨63, 0, 9, true⟩] ∧
    u.line.driven.map Driven.start = [32 * 61, 32 * 62] ∧
    (after [.dataSlotStart ⟨63, none⟩] u).line.drive = .data 63 0 9 true ∧
    v.resetLow = false ∧ v.sync.state.timerRuns = true ∧ (∀ c ∈ v.sources, c.state ≠ .owned) ∧
    (after [.dataSlotStart ⟨62, none⟩] v).line.drive = .nothing ∧
    (∀ w ∈ (after [.dataSlotStart ⟨63, none⟩] u).line.handed, w.slot ≠ 8) := by decide +kernel

/-- R189: 26 dominant ticks pass the check of slot 21 and of no other. -/
theorem test_marker_tail : ∀ k, 8 ≤ k → k ≤ 63 →
    slotClass k (.sound 0xFFFFFFC0) (up .locked) = if k = 21 then .good 0xFFFFFF true else .damaged := by
  intro k lo hi
  interval_cases k <;> decide +kernel

theorem test_w_slot_received : ∀ n ∈ [31, 32],
    let s := (up .mute).modAlloc (fun a => { a with slots := a.slots.modify 55 (fun x => { x with carrier := n }) })
    s.resetLow = false ∧ s.sync.state.timerRuns = true ∧ s.alloc.slots.length = 56 ∧ s.line.drive = .nothing ∧
    ((after [.dataSlotReceived 63 (.sound 1)] s).slot 63).carrier = 32 ∧
    ((after [.dataSlotReceived 63 quiet] s).slot 63).carrier = n ∧
    (after [.dataSlotReceived 63 quiet] (s.modSync (fun y => { y with advance := -2 }))).sync.tick = 2049 ∧
    (after [.dataSlotReceived 63 quiet] (s.modSync (fun y => { y with advance := 2 }))).sync.tick = 2045 := by
  decide +kernel

/-- The sending station's word 7 of slot 62 on the line, with a collision tally, in sync state `st`. -/
def driven (st : SyncState) (tally : Nat) (collided : Bool) : State :=
  ((after [.dataSlotStart ⟨62, none⟩] (sending 1 [[7, 8]] 0 none)).modSource 0 (fun c =>
    { c with tally := tally, collidedNow := collided })).modSync (fun y => { y with state := st })

/-- The own word on a sound line with nothing else, with a tick of another station's, and gone on a failed line. -/
theorem test_w_damaged_readback : ∀ st ∈ [SyncState.locked, .leaving],
    ∀ x ∈ [(14, false), (15, false), (16, false), (3, true)],
    let s := driven st x.1 x.2
    s.resetLow = false ∧ s.sync.state = st ∧ s.line.drive = .data 62 0 7 true ∧
    slotClass 62 quiet s = .good 7 true ∧ slotClass 62 (.sound 1) s ≠ .good 7 true ∧ slotClass 62 dead s = .silent ∧
    (s.sources.map (fun c => (c.state, c.run, c.collidedNow, c.tally))) = [(.owned, some ⟨62, 2⟩, x.2, x.1)] ∧
    s.tx.queue.length < 16 ∧ s.mgmt.notices = [] ∧
    (after [.dataSlotReceived 62 quiet] s).sources = s.sources ∧
    (∀ line ∈ [dead, .sound 1], (after [.forcedRelease 62 line] s).tx.queue =
      (if 15 ≤ x.1 ∧ st = .locked then [.release 0 200 ⟨62, 2⟩ false] else [])) := by
  decide +kernel

/-- R13: a driven slot that a failed line leaves SILENT has no carrier, one that comes back otherwise has. -/
theorem test_silent_readback_has_no_carrier : (∀ x ∈ [(dead, 0), (quiet, 1), (.sound 1, 1)],
    ((after [.dataSlotReceived 62 x.1] (driven .locked 3 true)).slot 62).carrier = x.2) := by decide +kernel

/-- One sink of target 3 bound to slots 62 and 63, with the first channel marked, and `queue` frames queued. -/
def capturing (st : SinkState) (queue silentRun : Nat) (front : List Mark) : State :=
  (up .locked).modSinks (fun _ => [{ Sink.cold ⟨44, 2, 3, 0, 3, .hold⟩ with
    state := st, run := some ⟨62, 2⟩, capture := some front, silentRun := silentRun,
    queue := List.replicate queue [.silent, .silent] }])

/-- State, level, silence count and overflows of the sinks. -/
def levels (t : State) : List (SinkState × Nat × Nat × Nat) :=
  t.sinks.map (fun c => (c.state, c.queue.length, c.silentRun, c.counters.overflows))

theorem test_w_captures_meet :
    ∀ s ∈ [capturing .filling 2 5 [.good 9], capturing .running 16 62 [.silent], capturing .running 4 63 [.silent],
      capturing .starved 0 64 [.silent], capturing .starved 0 64 [.invalid]],
      s.resetLow = false ∧ s.sync.state.timerRuns = true ∧ s.sinks.length ≤ 8 ∧ s.mgmt.notices = [] ∧
      (s.sinks.map (fun c => (c.run, c.capture.map List.length))) = [(some ⟨62, 2⟩, some 1)] := by decide +kernel

/-- Captures of the table: the push that ends FILLING, overflow at 16, the 63rd and 64th silent one, STARVED and resumed. -/
theorem test_w_captures : 63 + 1 = 62 + 2 ∧ markOf (slotClass 63 quiet (capturing .filling 2 5 [.good 9])) = .silent ∧
    levels (after [.dataSlotReceived 63 quiet] (capturing .filling 2 5 [.good 9])) = [(.running, 3, 0, 0)] ∧
    levels (after [.dataSlotReceived 63 quiet] (capturing .running 16 62 [.silent])) = [(.running, 16, 63, 1)] ∧
    levels (after [.sinkStarved 63 quiet] (capturing .running 4 63 [.silent])) = [(.starved, 0, 64, 0)] ∧
    levels (after [.dataSlotReceived 63 quiet] (capturing .starved 0 64 [.silent])) = [(.starved, 0, 64, 0)] ∧
    levels (after [.dataSlotReceived 63 quiet] (capturing .starved 0 64 [.invalid])) = [(.filling, 1, 0, 0)] := by
  decide +kernel

/-- R12, R140: the channel of a driven slot that comes back GOOD with another word, or SILENT, is DAMAGED; back whole, GOOD. -/
theorem test_w_driven_channel :
    let s := (capturing .filling 0 5 [.good 9]).modLine (fun l => { l with drive := .data 63 1 7 true })
    let pushed := fun line => (after [.dataSlotReceived 63 line] s).sinks.map (fun c => (c.queue, c.counters.gaps))
    slotClass 63 (.failed (dataWord 63 8 true)) s = .good 8 true ∧
    pushed (.failed (dataWord 63 8 true)) = [([[.good 9, .damaged]], 1)] ∧
    pushed dead = [([[.good 9, .damaged]], 1)] ∧ pushed quiet = [([[.good 9, .good 7]], 0)] := by decide +kernel

/-! ### Witnesses: cells -/

/-- A slot map entry STRAY where its number lies below `used`. -/
def strayBelow (used k : Nat) (x : Slot) : Slot := if k < used then { x with use := .stray } else x

/-- The sample station in its own frame with the CLAIM of source 0 queued, slots below `used` not free. -/
def building (used : Nat) : State :=
  ((atFrame 1 (up .locked)).modAlloc (fun a => { a with slots := mapSlots (strayBelow used) 8 a.slots })).modTx
    (fun t => { t with queue := [.claim 0] })

/-- The lowest run lies from slot 8, or only at 62; with one slot free none fits and the source is BLOCKED. -/
theorem test_w_build : ∀ x ∈ [(8, some 8), (62, some 62), (63, none)],
    let s := building x.1
    s.resetLow = false ∧ s.sync.state.drives = true ∧ s.sync.frameIndex = s.id ∧ s.tx.queue = [.claim 0] ∧
    (s.sources[0]?).map (fun c => c.cfg.channels) = some 2 ∧ s.mgmt.notices = [] ∧
    ((after [.buildOwnCell] s).tx.built.map (fun b => b.placed.map (fun p => p.run.map Run.first))) =
      some (if x.2 = none then [] else [x.2]) := by decide +kernel

/-- State and run of each source. -/
def holdings (s : State) : List (SourceState × Option Run) := s.sources.map (fun c => (c.state, c.run))

/-- The sample station with a cell built of the items given, sent in superframe 5. -/
def built (st : SyncState) (placed : List Placed) : State :=
  (up st).modTx (fun t => { t with built := some ⟨5, true, placed⟩ })

/-- A full LOCKED queue's worth of items in every class: the order of a build is 0 to 5, oldest first, and three go out. -/
def classed (items : List QItem) : State :=
  (atFrame 1 answering).modTx (fun t => { t with queue := items })

/-- Placeable items of three classes behind a stale RELEASE; one item that fails its check; LEAVING with three ANSWERs. -/
theorem test_w_build_order :
    let late : QItem := .answer 2 9 .done (.subject .peer) 0
    let later : QItem := .answer 2 10 .done (.subject .peer) 0
    let probe : QItem := .probe 0 6 2 .peer 3
    let gone : QItem := .release 1 201 ⟨20, 1⟩ false
    let placed := fun s => ((after [.buildOwnCell] s).tx.built.map (fun b => b.placed.map Placed.item)).getD []
    (∀ q ∈ [[probe, late, later, late], [gone], [gone, probe]],
      let s := classed q
      s.resetLow = false ∧ s.sync.state.drives = true ∧ s.sync.frameIndex = s.id ∧ .leave ∉ s.tx.queue) ∧
    placed (classed [probe, late, later, late]) = [late, later, late] ∧
    (after [.buildOwnCell] (classed [probe, late, later, late])).tx.queue = [probe] ∧
    placed (classed [gone]) = [] ∧ placed (classed [gone, probe]) = [probe] ∧
    (let u := (classed [late, later, .leave, late]).modSync (fun y => { y with state := .leaving })
     u.sync.state = .leaving ∧ .leave ∈ u.tx.queue ∧ placed u = [late, later, .leave]) := by decide +kernel

theorem test_w_placeable : Placeable (classed []) (.probe 0 6 2 .peer 3) ∧
    Placeable (classed []) (.answer 2 9 .done (.subject .peer) 0) ∧
    ¬Placeable (classed []) (.release 1 201 ⟨20, 1⟩ false) := by
  refine ⟨⟨⟨6, 2, .subject .peer, 3, .queued⟩, by decide +kernel, rfl, rfl⟩, trivial, fun h => ?_⟩
  obtain ⟨g, p, hp⟩ := h 20 (by decide)
  have : ((classed []).slot 20).use = .free := by decide +kernel
  rw [this] at hp
  cases hp

/-- A queue with an OFFER to replace; full queues in which a CLAIM and a relay's item are the newest of the worst class; one
in which nothing is worse than the ANSWER that comes. -/
theorem test_w_queue :
    let answer : QItem := .answer 2 9 .done (.subject .peer) 0
    let relay : QItem := .probe 0 6 2 .peer 3
    let full := fun old => classed (List.replicate 15 answer ++ old :: [])
    (classed []).sync.state = .locked ∧ [.claim 0, QItem.offer 1 false] = [.claim 0] ++ .offer 1 false :: [] ∧
    (post (.offer 1 true) (classed [.claim 0, .offer 1 false])).tx.queue = [.claim 0, .offer 1 true] ∧
    (∀ old ∈ [.claim 1, relay, .offer 0 false], (full old).tx.queue.length = 16 ∧
      (∀ x ∈ (full old).tx.queue, itemClass x ≤ itemClass old) ∧ itemClass answer < itemClass old ∧ old ≠ .leave ∧
      (post answer (full old)).tx.queue = List.replicate 16 answer ∧ (post answer (full old)).tx.fullQueueLosses = 1) ∧
    (post answer (full relay)).relay 0 = some ⟨6, 2, .subject .peer, 3, .done none .dropped⟩ ∧
    (∀ x ∈ (full answer).tx.queue, itemClass x ≤ itemClass answer) ∧
    (post answer (full answer)).tx.lostAnswers = 1 ∧ (post (.claim 0) (full answer)).tx.lostAnswers = 0 := by
  decide +kernel

theorem test_w_sent_claim :
    let s := (built .locked [⟨.claim 0, some ⟨62, 2⟩, 0⟩]).modSource 0 (fun c => { c with state := .seeking })
    s.resetLow = false ∧ s.alloc.slots.length = 56 ∧ (s.sources.map Source.state) = [.seeking, .idle] ∧ 8 ≤ 62 ∧ 0 < 2 ∧
    62 + 2 ≤ 64 ∧ (∀ k ∈ runSlots 62 2, (s.slot k).use = .free) ∧ s.alloc.dir = [] ∧
    ((after [.ownCellSent] s).slot 63).use = .pending 1 200 1 7 := by decide +kernel

/-- The sample station with both sources SEEKING and a run of another station under the tag of each. -/
def keptFrom (station : Nat) (placed : List Placed) : State :=
  withRun (.held station 201 2 9) ⟨201, station, 30, 1, 2, true, false⟩
    (withRun (.held station 200 2 9) ⟨200, station, 20, 1, 2, true, false⟩
      ((built .locked placed).modSources (fun l => l.map (fun c => { c with state := .seeking }))))

/-- R76: a CLAIM whose tag station 0 holds is not recorded; one whose tag station 5 holds removes that run; of two that clash
the later source's goes first in the cell, and last in the notices (R134). -/
theorem test_w_sent_clash :
    let one : List Placed := [⟨.claim 0, some ⟨62, 2⟩, 0⟩]
    let two : List Placed := [⟨.claim 1, some ⟨61, 1⟩, 0⟩, ⟨.claim 0, some ⟨62, 2⟩, 0⟩]
    let t := after [.ownCellSent] (keptFrom 0 one)
    let u := after [.ownCellSent] (keptFrom 5 one)
    (∀ s ∈ [keptFrom 0 one, keptFrom 5 one, keptFrom 0 two], s.resetLow = false ∧ MapOk s ∧ s.id = 1 ∧
      (s.sources.map Source.state) = [.seeking, .seeking] ∧ (∀ k ∈ runSlots 61 3, (s.slot k).use = .free) ∧
      s.mgmt.notices = []) ∧
    findTag 200 (keptFrom 0 one).alloc.dir = some ⟨200, 0, 20, 1, 2, true, false⟩ ∧
    (t.sources.map Source.state) = [.clashed, .seeking] ∧ t.mgmt.notices = [.source 0 200 (.clashed none 0)] ∧
    (u.sources.map Source.state) = [.claiming, .seeking] ∧ (u.slot 20).use = .free ∧
    (u.slot 62).use = .pending 1 200 1 7 ∧ u.alloc.counters.tagEntriesRemoved = 1 ∧
    (after [.ownCellSent] (keptFrom 0 two)).mgmt.notices =
      [.source 0 200 (.clashed none 0), .source 1 201 (.clashed none 0)] := by decide +kernel

theorem test_w_sent_release :
    let s := owning.modTx (fun t => { t with built := some ⟨5, false, [⟨.release 1 201 ⟨20, 1⟩ false, some ⟨20, 1⟩, 0⟩]⟩ })
    s.resetLow = false ∧ MapOk s ∧ findTag 201 s.alloc.dir = some ⟨201, 1, 20, 1, 2, true, true⟩ ∧ 1 = s.id ∧
    ((after [.ownCellSent] s).sources.map (fun c => (c.state, c.backoff))).getD 1 (.idle, 0) = (.backoff, 2) := by
  decide +kernel

theorem test_w_sent_relay_and_leave :
    let s := answering.modTx (fun t => { t with built := some ⟨5, false, [⟨.probe 0 6 2 .peer 3, none, 0⟩]⟩ })
    let u := built .leaving [⟨.leave, none, 0⟩]
    s.resetLow = false ∧ s.relay 0 = some ⟨6, 2, .subject .peer, 3, .queued⟩ ∧ 0 < 4 ∧
    ((after [.ownCellSent] s).relay 0).map Relay.phase = some (.awaiting 5) ∧
    u.resetLow = false ∧ u.sync.state = .leaving ∧ u.mgmt.notices = [] ∧
    (after [.ownCellSent] u).mgmt.notices = [.sync .left .listen 0 0] ∧
    (built .locked []).tx.built = some ⟨5, true, []⟩ := by decide +kernel

/-- The sample station with its own cell of no items driven and a mismatch count. -/
def readingBack (st : SyncState) (mismatch : Nat) : State :=
  ((up st).modLine (fun l => { l with ownCell := some ⟨1, 9, 0, false, [0, 0, 0]⟩ }.begin 32
    (.cell (encodeCell ⟨1, 9, 0, false, [0, 0, 0]⟩)))).modSync
    (fun y => { y with mismatch := mismatch })

/-- On a failed line the cell is gone; on a sound one it is read back with what others drive in it. -/
theorem test_w_readback :
    (∀ c, classifyCell 0 = .good c → c.sender ≠ 1) ∧
    classifyCell (encodeCell ⟨1, 9, 0, false, [0, 0, 0]⟩) = .good ⟨1, 9, 0, false, [0, 0, 0]⟩ ∧
    (∀ st ∈ [SyncState.founding, .locked, .leaving], ∀ m ∈ [0, 1], (readingBack st m).resetLow = false ∧
      (readingBack st m).line.ownCell = some ⟨1, 9, 0, false, [0, 0, 0]⟩ ∧ DirOk (readingBack st m) ∧
      receivedCell (.failed 0) (readingBack st m) = 0 ∧
      receivedCell (.sound 0) (readingBack st m) = encodeCell ⟨1, 9, 0, false, [0, 0, 0]⟩ ∧
      (readingBack st m).sync.state = st ∧ (readingBack st m).sync.mismatch = m ∧
      (readingBack st m).mgmt.notices = [] ∧
      (after [.duplicateIdMismatch (.sound 0)] (readingBack st m)).sync.state = st ∧
      (∀ line ∈ [OnLine.failed 0, .sound 1], (after [.duplicateIdMismatch line] (readingBack st m)).sync.state =
        (if m = 1 ∧ st ≠ .leaving then .mute else st))) := by
  refine ⟨fun c h => ?_, by decide +kernel, by decide +kernel⟩
  simp [classifyCell] at h

/-- A cell of station 5 with no items. -/
def cellOf (sender : Nat) (sf : Superframe) : CellWindow := encodeCell ⟨sender, sf, 0, false, [0, 0, 0]⟩

/-- A cell sent by another station. -/
def sent (w : CellWindow) : OnLine CellWindow := .sound w

/-- Each state and each sort of cell: LISTEN, ACQUIRE, the own id in LEARN and after it, a join, a disagreement. -/
theorem test_w_cells :
    classifyCell (cellOf 5 3) = .good ⟨5, 3, 0, false, [0, 0, 0]⟩ ∧
    classifyCell (cellOf 1 3) = .good ⟨1, 3, 0, false, [0, 0, 0]⟩ ∧
    (∀ st ∈ [SyncState.listen, .acquire, .learn, .founding, .locked, .leaving, .mute],
      let s := (atFrame 5 (up st)).modSync (fun y => { y with superframe := 3 })
      s.resetLow = false ∧ s.sync.state = st ∧ drivesOwnCell s = false ∧ receivedCell (sent (cellOf 5 3)) s = cellOf 5 3 ∧ DirOk s ∧ s.mgmt.notices = [] ∧
      (s.peer 5).presence = .absent ∧ s.rx.disagreement = none ∧ 1 = s.id ∧ 5 ≠ s.id ∧
      (after [.cellReceived (sent (cellOf 5 3))] s).sync.state = (if st = .acquire then .learn else st) ∧
      (after [.cellReceived (sent (cellOf 5 3))] s).mgmt.notices =
        (if st.takesCells then [.peer .joined 5 3 0] else []) ∧
      (after [.cellReceived (sent (cellOf 1 3))] s).sync.state =
        (if st = .acquire then .learn else if st = .learn then .mute else st)) := by decide +kernel

/-- The first disagreeing cell is recorded; the second, of another sender and the same correction, moves the station. -/
theorem test_w_resync :
    let s := after [.cellReceived (sent (cellOf 5 8))] (atFrame 4 (up .locked))
    let c : Cell := ⟨6, 8, 0, false, [0, 0, 0]⟩
    let u := atFrame 5 s
    s.rx.disagreement = some ⟨5, 257⟩ ∧ u.resetLow = false ∧ drivesOwnCell u = false ∧ c.sender ≠ u.id ∧
    c.sender ≠ u.sync.frameIndex ∧ u.rx.disagreement = some ⟨5, correctionOf c u⟩ ∧ 5 ≠ c.sender ∧
    (u.peers[6]?).isSome = true ∧ u.mgmt.notices = [] ∧
    (after [.cellReceived (sent (cellOf 6 8))] u).sync.superframe = 8 ∧
    (after [.cellReceived (sent (cellOf 6 8))] u).mgmt.notices = [.sync .resynced .locked 6 8, .peer .joined 6 8 0] := by
  decide +kernel

theorem test_w_correction : correctionOf ⟨0, 0, 0, false, []⟩ ((atFrame 31 (up .locked)).modSync (fun y =>
    { y with superframe := 65535 })) = 1 ∧ 31 < 32 := by decide +kernel

/-- Station 5 with a HELD run, its missed turns before a silent one. -/
def waning (missed : Nat) : State :=
  withPeer 5 missed (atFrame 5 (withRun (.held 5 300 2 9) ⟨300, 5, 30, 2, 2, true, false⟩ (up .locked)))

theorem test_w_departure : ∀ m ∈ [2, 3], (waning m).resetLow = false ∧ (waning m).sync.state.takesCells = true ∧
    (waning m).sync.frameIndex ≠ (waning m).id ∧ MapOk (waning m) ∧
    (waning m).peers[5]? = some ⟨.present, m, none, 0⟩ ∧ (waning m).mgmt.notices = [] ∧
    (after [.peerDeparture (sent 0)] (waning m)).mgmt.notices = (if m = 3 then [.peer .departed 5 0 1] else []) ∧
    ((after [.peerDeparture (sent 0)] (waning m)).slot 31).use = (if m = 3 then .stray else .held 5 300 2 9) := by decide +kernel

/-- Station 5's cell in superframe 0 with items. -/
def carrying (items : List Item) (fresh : Bool) : CellWindow :=
  encodeCell ⟨5, 0, items.length, fresh, ((items.map Item.bits) ++ [0, 0, 0]).take 3⟩

/-- The other causes of a missed turn: a damaged cell, one of an item count of 4, one of another position; and an id that
has not joined. -/
theorem test_w_missed_turns :
    let foreign := cellOf 6 8
    let four := encodeCell ⟨5, 0, 4, false, [0, 0, 0]⟩
    let missed := fun w s => ((after [.cellReceived (sent w)] s).peers.map (fun p => (p.missed, p.damagedCells))).getD 5 (0, 0)
    classifyCell 1 = .damaged ∧ classifyCell four = .good ⟨5, 0, 4, false, [0, 0, 0]⟩ ∧
    classifyCell foreign = .good ⟨6, 8, 0, false, [0, 0, 0]⟩ ∧ (waning 2).rx.disagreement = none ∧
    [1, four, foreign].map (fun w => receivedCell (sent w) (waning 2)) = [1, four, foreign] ∧ 6 ≠ (waning 2).sync.frameIndex ∧
    missed 1 (waning 2) = (3, 1) ∧ missed four (waning 2) = (3, 1) ∧ missed foreign (waning 2) = (3, 0) ∧
    (atFrame 5 (up .locked)).peers[5]? = some ⟨.absent, 0, none, 0⟩ ∧ missed 1 (atFrame 5 (up .locked)) = (0, 1) ∧
    (after [.cellReceived (sent four)] (waning 2)).rx.damagedCells = 1 ∧
    (after [.cellReceived (sent foreign)] (waning 2)).rx.disagreement = some ⟨6, 257⟩ := by decide +kernel

/-- An agreeing cell of station 5, PRESENT with a run: a CLAIM, a malformed item and a RELEASE dispatched, a LEAVE that ends
the cell, a RESTART that ends it in MUTE and is refused in LOCKED, a rejoin. -/
theorem test_w_agreeing_cells :
    let s := waning 2
    let w := carrying [.claim 301 62 2 0, .unknown 9, .release 300 30 2] false
    let v := carrying [.claim 301 62 2 0, .leave, .claim 302 40 1 0] false
    let x := carrying [.command 1 4 14 0] false
    let u := (s.modLoader (fun l => { l with image := some { sample with managers := [5] } })).modSync
      (fun y => { y with state := .mute })
    let t := after [.cellReceived (sent w)] s
    (∀ r ∈ [s, u], r.resetLow = false ∧ r.sync.state.takesCells = true ∧ 5 ≠ r.id ∧ 5 = r.sync.frameIndex ∧
      0 = r.sync.superframe ∧ receivedCell (sent w) r = w ∧ r.peers[5]? = some ⟨.present, 2, none, 0⟩ ∧ MapOk r) ∧
    (match classifyCell w with
      | .good c => some ((c.items.take c.count).map decodeItem)
      | _ => none) = some [.claim 301 62 2 0, .unknown 9, .release 300 30 2] ∧
    t.alloc.dir.map DirEntry.tag = [301] ∧ t.rx.malformedItems = 1 ∧ (t.slot 30).use = .free ∧
    (t.peers.map Peer.missed).getD 5 9 = 0 ∧
    (after [.cellReceived (sent v)] s).alloc.dir = [] ∧
    (after [.cellReceived (sent v)] s).mgmt.notices = [.peer .left 5 0 2] ∧
    s.admits 5 = false ∧ u.admits 5 = true ∧ (after [.cellReceived (sent x)] u).sync.state = .listen ∧
    (after [.cellReceived (sent x)] s).sync.state = .locked ∧
    (after [.cellReceived (sent (carrying [] true))] s).mgmt.notices = [.peer .rejoined 5 0 1] ∧
    (after [.cellReceived (sent (carrying [] true))] s).alloc.dir = [] := by decide +kernel

/-- Station 6's claim of slots 62 and 63 with priority 2. -/
def contended : State := withRun (.pending 6 300 2 4) ⟨300, 6, 62, 2, 2, false, false⟩ (up .locked)

/-- A claim over FREE slots, over a claim it precedes (equal priority, lower id), over one that precedes it, over STRAY. -/
theorem test_w_heard_claims :
    MapOk contended ∧ 5 ≠ contended.id ∧ 8 ≤ 63 ∧ 0 < 1 ∧ 63 + 1 ≤ 64 ∧ (∀ e ∈ contended.alloc.dir, e.tag ≠ 301) ∧
    (∀ e ∈ contended.alloc.dir, e.station = 5 → e.meets 63 1 = false) ∧
    (∀ k ∈ runSlots 63 1, (contended.slot k).use = .pending 6 300 2 4) ∧
    (∀ e ∈ contended.alloc.dir.filter (fun e => e.meets 63 1), e.priority < 2 ∨ (e.priority = 2 ∧ 5 < e.station)) ∧
    (∃ e ∈ contended.alloc.dir.filter (fun e => e.meets 63 1), ¬(e.priority < 2 ∨ (e.priority = 2 ∧ 7 < e.station))) ∧
    (heardClaim 5 301 63 1 2 contended).alloc.dir = [⟨301, 5, 63, 1, 2, false, false⟩] ∧
    (heardClaim 7 301 63 1 2 contended).alloc.dir = contended.alloc.dir ∧
    (∀ k ∈ runSlots 8 1, (contended.slot k).use = .free) ∧
    (∃ k ∈ runSlots 62 1, ((building 63).slot k).use = .stray) ∧ MapOk (building 63) := by decide +kernel

/-- The sample station CLAIMING with both its sources, the later one first in the directory. -/
def claimingBoth : State :=
  let c := (up .locked).modSources (fun l => l.mapIdx (fun n c =>
    { c with state := .claiming, run := some ⟨if n = 0 then 62 else 61, if n = 0 then 2 else 1⟩ }))
  withRun (.pending 1 200 1 4) ⟨200, 1, 62, 2, 1, false, true⟩
    (withRun (.pending 1 201 2 4) ⟨201, 1, 61, 1, 2, false, true⟩ c)

/-- R134: a CLAIM that removes both runs tells source 0 before source 1. -/
theorem test_w_own_claims_defeated : MapOk claimingBoth ∧ SourcesOk claimingBoth ∧ 0 ≠ claimingBoth.id ∧
    claimingBoth.alloc.dir.map DirEntry.tag = [201, 200] ∧ claimingBoth.sources.length ≤ 8 ∧
    (claimingBoth.sources.map Source.state) = [.claiming, .claiming] ∧ claimingBoth.mgmt.notices = [] ∧
    (∀ e ∈ claimingBoth.alloc.dir, e.meets 61 3 = true ∧ e.station = claimingBoth.id ∧ e.priority < 3) ∧
    (heardClaim 0 301 61 3 3 claimingBoth).mgmt.notices =
      [.source 0 200 (.defeated ⟨62, 2⟩ 0), .source 1 201 (.defeated ⟨61, 1⟩ 0)] ∧
    ((heardClaim 0 301 61 3 3 claimingBoth).sources.map (fun c => (c.state, c.backoff))) = [(.backoff, 2), (.backoff, 2)] :=
  by decide +kernel

/-- An OFFER over a claim, an OFFER against a holder of lower id, a RELEASE, an item whose tag a lower id holds. -/
theorem test_w_heard_offers :
    MapOk contended ∧ findTag 301 contended.alloc.dir = none ∧
    (∀ e ∈ contended.alloc.dir, e.meets 62 2 = true → e.active = true → e.station = 9) ∧
    ((heardOffer 9 301 62 2 0 contended).slot 63).use = .held 9 301 0 24 ∧
    MapOk (leased 9) ∧ (∀ e ∈ (leased 9).alloc.dir, e.station = 9 → e.tag ≠ 301 ∧ e.meets 30 1 = false) ∧
    (∃ e ∈ (leased 9).alloc.dir, e.meets 30 1 = true ∧ e.active = true ∧ e.station < 9) ∧
    findTag 300 (leased 9).alloc.dir = some ⟨300, 5, 30, 2, 2, true, false⟩ ∧
    (heardRelease 5 300 (leased 9)).alloc.dir = [] ∧ 5 < 9 ∧
    (heardOffer 9 300 40 1 0 (leased 9)).alloc.counters.tagItemsIgnored = 1 := by decide +kernel

/-- R80, R84, R87: a CLAIM and a higher id's OFFER over the OWNED run draw an objection, as does a higher id's item of its
tag; a waiting OFFER is upgraded; RELEASING and LEAVING draw none. -/
theorem test_w_objections :
    let waiting := owning.modTx (fun t => { t with queue := [.claim 0, .offer 1 false] })
    let releasing := owning.modSource 1 (fun c => { c with state := .releasing })
    let leaving := owning.modSync (fun y => { y with state := .leaving })
    let drawn := fun s => [heardClaim 5 301 20 2 0 s, heardOffer 5 301 19 2 0 s, heardClaim 5 201 40 1 0 s,
      heardOffer 5 201 40 1 0 s].map (fun t => (t.tx.queue, t.alloc.counters.objectionsPosted))
    (∀ s ∈ [owning, waiting, releasing, leaving], MapOk s ∧ SourcesOk s ∧ findTag 301 s.alloc.dir = none ∧
      findTag 201 s.alloc.dir = some ⟨201, 1, 20, 1, 2, true, true⟩ ∧ s.id = 1) ∧
    drawn owning = List.replicate 4 ([.offer 1 true], 1) ∧
    drawn waiting = List.replicate 4 ([.claim 0, .offer 1 true], 1) ∧
    drawn releasing = List.replicate 4 ([], 0) ∧ drawn leaving = List.replicate 4 ([], 0) := by decide +kernel

/-- R84, R78: station 0's OFFER over the OWNED run defeats its source; station 0's CLAIM and OFFER of its tag clash it. -/
theorem test_w_lower_id_takes :
    let t := heardOffer 0 301 19 2 0 owning
    holdings owning = [(.idle, none), (.owned, some ⟨20, 1⟩)] ∧ 0 ≠ owning.id ∧ owning.mgmt.notices = [] ∧
    holdings t = [(.idle, none), (.backoff, none)] ∧ t.alloc.counters.overlapsResolved = 1 ∧
    (t.slot 20).use = .held 0 301 0 24 ∧ t.mgmt.notices = [.source 1 201 (.defeated ⟨20, 1⟩ 0)] ∧
    (∀ u ∈ [heardClaim 0 201 40 1 0 owning, heardOffer 0 201 40 1 0 owning],
      holdings u = [(.idle, none), (.clashed, none)] ∧ u.faultHigh = true ∧ u.alloc.counters.localClashes = 1 ∧
      u.alloc.counters.tagEntriesRemoved = 1 ∧ (u.slot 20).use = .free ∧
      u.mgmt.notices = [.source 1 201 (.clashed (some ⟨20, 1⟩) 0)]) := by decide +kernel

/-- The sample station with its sink 0 (tag 44, two channels) in state `st`. -/
def sinking (st : SinkState) (dir : List DirEntry) : State :=
  ((up .locked).modSinks (fun l => l.take 1 |>.map (fun c => { c with state := st }))).modAlloc (fun a => { a with dir := dir })

/-- What sink 0 and the notices are after the directory becomes `dir`. -/
def turned (dir : List DirEntry) (s : State) : List (SinkState × Option Run) × List Notice :=
  let t := action (fun u => u.modAlloc (fun a => { a with dir := dir })) s
  (t.sinks.map (fun c => (c.state, c.run)), t.mgmt.notices)

/-- A peer's run from slot 30 under tag 44. -/
def run44 (station count : Nat) (active : Bool) : DirEntry := ⟨44, station, 30, count, 2, active, false⟩

/-- CREATED active and pending, ACTIVATED, REPLACED by a run of another count, by a pending one, REMOVED, unchanged; with room
for every notice. -/
theorem test_w_sinks :
    let a := run44 5 2 true
    let p := run44 5 2 false
    let f := run44 4 3 true
    (sinking .filling [a]).mgmt.notices.length + (sinking .filling [a]).sinks.length ≤ 16 ∧
    ((sinking .filling [a]).sinks.map (fun c => (c.cfg.tag, c.cfg.channels))) = [(44, 2)] ∧
    [turned [a] (sinking .unbound []), turned [p] (sinking .unbound []), turned [a] (sinking .unbound [p]),
      turned [a] (sinking .mismatch [p]), turned [f] (sinking .filling [a]), turned [p] (sinking .filling [a]),
      turned [p] (sinking .unbound [a]), turned [] (sinking .filling [a]), turned [a] (sinking .running [a])] =
    [([(.filling, some ⟨30, 2⟩)], [.sink 0 44 (.bound 5 ⟨30, 2⟩)]), ([(.unbound, none)], []),
      ([(.filling, some ⟨30, 2⟩)], [.sink 0 44 (.bound 5 ⟨30, 2⟩)]), ([(.mismatch, none)], []),
      ([(.mismatch, none)], [.sink 0 44 (.mismatch 4 3)]), ([(.unbound, none)], [.sink 0 44 .unbound]),
      ([(.unbound, none)], []), ([(.unbound, none)], [.sink 0 44 .unbound]), ([(.running, none)], [])] ∧
    findTag 44 (sinking .filling [a]).alloc.dir = some a ∧
    ((dispatchItem 5 (.release 44 0 0) (sinking .filling [a])).sinks.map Sink.state) = [.unbound] := by decide +kernel

/-- A PROBE of an OWNED source over slot 20 (R190: 3, 20, 1, 0, 0 in 4, 6, 4, 1 and 16 bits) and of one
that is not there, a COMMAND of a station the manager set leaves out, an ANSWER that matches and one that does not. -/
theorem test_w_requests :
    answering.sync.state = .locked ∧ answering.tx.queue.length < 15 ∧ answering.loader.image = some sample ∧
    sample.managers ≠ [] ∧ 5 ∉ sample.managers ∧ RelaysOk answering ∧
    (dispatchItem 2 (.probe owning.id 9 (Subject.source).code 1) owning).tx.queue =
      [.answer 2 9 .done (.subject .source) 0x35040000] ∧
    (dispatchItem 2 (.probe answering.id 9 (Subject.source).code 2) answering).tx.queue =
      [.answer 2 9 .noSuch (.subject .source) 0] ∧
    answering.relay 1 = some ⟨7, 2, .subject .peer, 3, .awaiting 9⟩ ∧ answering.mgmt.notices = [] ∧
    (dispatchItem 2 (.answer answering.id 7 0 2 77) answering).mgmt.notices =
      [.relay 1 7 2 (.answered .done (.subject .peer) 77)] ∧
    (dispatchItem 2 (.answer answering.id 8 0 2 77) answering).req.counters.lateAnswers = 1 := by decide +kernel

/-- COMMANDs of the manager: each action with its ANSWER, on a record that is there and one that is not. -/
theorem test_w_commands :
    let sent := fun (s : State) (a : Action) (i : Nat) => dispatchItem 2 (.command s.id 9 a.code i) s
    let answers := fun (s : State) (a : Action) (i : Nat) => (sent s a i).tx.queue.filterMap (fun it => match it with
      | .answer 2 9 st c _ => if c = .action a then some st else none
      | _ => none)
    owning.sync.state = .locked ∧ owning.tx.queue.length < 15 ∧ owning.loader.image = some sample ∧ 2 ∈ sample.managers ∧
    holdings owning = [(.idle, none), (.owned, some ⟨20, 1⟩)] ∧ owning.sources.length ≤ 2 ∧
    answers owning .muteSource 1 = [.done] ∧ answers owning .unmuteSink 2 = [.noSuch] ∧
    ((sent owning .muteSource 1).sources.map Source.muted) = [false, true] ∧
    answers owning .reseekSource 1 = [.done] ∧ answers owning .reseekSource 0 = [.notNow] ∧
    answers owning .reseekSource 2 = [.noSuch] ∧ (sent owning .reseekSource 1).tx.queue.length = 2 ∧
    answers owning .restart 63 = [.done] ∧ (sent owning .restart 0).sync.state = .leaving ∧
    answers owning .clearCounters 0 = [.done] ∧ (sent owning .clearCounters 0).req.counters = ⟨0, 1, 0, 0, 0, 0⟩ := by
  decide +kernel

/-- No entry of a fresh relay table awaits anything. -/
theorem test_w_late_answer : ∀ (h : Nat) (r : Relay) (sent : Superframe), (up .locked).relay h = some r →
    r.phase = .awaiting sent → r.target = 5 → r.reqNo ≠ 9 := by
  intro h r sent hr
  have e : (up .locked).req.table = List.replicate 4 none := by decide +kernel
  rw [State.relay, e] at hr
  match h with
  | 0 | 1 | 2 | 3 => simp at hr
  | n + 4 => simp at hr

/-- One RUNNING sink on BRIDGE port 3 with a queue, target 2. -/
def playing (queue : List (List Mark)) (guard : Nat) (last : Option (List Sample)) : State :=
  (up .locked).modSinks (fun _ => [{ Sink.cold ⟨44, 2, 3, 6, 6, .zero⟩ with
    state := .running, run := some ⟨62, 2⟩, queue := queue, slipGuard := guard, lastOutput := last }])

/-- BRIDGE ports 1 and 3 at a strobe: a whole frame, one short by a bit, a lost clock; underflow, skip, repeat and pop. -/
theorem test_w_bridge_strobe :
    let s := fun st => ((up .locked).modPort 1 (fun q => { q with primed := true, watch := 63 })).modSource 0 (fun c =>
      { c with state := st, queue := List.replicate 8 [0, 0] })
    let played := fun t : State => (t.ports.map Port.lanesOut).getD 3 []
    (∀ st ∈ [SourceState.owned, .claiming, .idle], (s st).resetLow = false ∧ (s st).sync.state.timerRuns = true ∧
      ((s st).ports[1]?).bind Port.cfg = some ⟨.input, .bridge⟩ ∧
      ((after [.bridgeStrobe 1 192 numbered] (s st)).sources.map (fun c => (c.queue.getLastD [], c.counters.overflows))).getD 0
        ([], 0) = (if st = .idle then ([0, 0], 0) else ([0, 1], if st = .owned then 1 else 0))) ∧
    ((after [.bridgeStrobe 1 191 (numbered.take 191)] (s .owned)).ports.map Port.shortFrames) = [0, 1, 0, 0] ∧
    (let u := watching .lost 64
     u.mgmt.notices = [] ∧ (after [.bridgeStrobe 1 500 (List.replicate 192 true)] u).mgmt.notices = [.fault (.clockRestored 1 0)]) ∧
    played (after [.bridgeStrobe 3 0 []] (playing [] 0 none)) = [0, 0, 0, 0, 0, 0, 0, 0] ∧
    played (after [.bridgeStrobe 3 0 []] (playing (List.replicate 9 [.good 3, .good 4] ++ [[.good 1, .good 1]]) 128
      none)) = [0, 0, 0, 0, 0, 0, 3, 4] ∧
    played (after [.bridgeStrobe 3 0 []] (playing [[.good 3, .silent]] 128 (some [8, 9]))) = [0, 0, 0, 0, 0, 0, 8, 9] ∧
    played (after [.bridgeStrobe 3 0 []] (playing [[.good 3, .silent]] 127 (some [8, 9]))) = [0, 0, 0, 0, 0, 0, 3, 0] :=
  by decide +kernel

/-- The only sink on port 3 is sink 0, and the pop above is a row of the table. -/
theorem test_w_play_row : (∀ (m : Nat) (d : Sink), (playing [[.good 3, .silent]] 127 none).sinks[m]? = some d →
      d.cfg.port = 3 → m = 0) ∧
    (let c := ((playing [[.good 3, .silent]] 127 none).sinks[0]?).getD (Sink.cold ⟨0, 0, 0, 0, 0, .hold⟩)
     c.cfg.firstLane + c.cfg.channels ≤ 8 ∧ [(3 : Sample), 0].length = c.cfg.channels ∧
      PlayRow true c [3, 0] { c with
        queue := [], lastOutput := some [3, 0], lastGood := [3, 0], slipGuard := 128 }) := by
  refine ⟨fun m d h _ => index_of_one (by decide +kernel) h, by decide +kernel, by decide +kernel, ?_⟩
  exact Or.inr (Or.inr (Or.inr ⟨[.good 3, .silent], [], by decide, by decide, rfl, rfl, rfl⟩))

/-! ### Witnesses: encodings and invariants -/

/-- Lanes that fill their 24 bits, and what follows the 192nd bit. -/
theorem test_w_lanes_round_trip : ([1, 2, 3, 4, 5, 6, 7, -1] : List Sample).length = 8 ∧
    lanesOf (bitsOfLanes [1, 2, 3, 4, 5, 6, 7, -1] ++ [true]) = [1, 2, 3, 4, 5, 6, 7, -1] ∧
    (bitsOfLanes [0x800000, 2, 3, 4, 5, 6, 7, 8])[0]? = some true := by decide +kernel

theorem test_w_cell_round_trip : (31 : Nat) < 32 ∧ 7 < 8 ∧ [(1 : ItemBits), 2, 3].length = 3 ∧
    decodeCell (encodeCell ⟨31, 65535, 7, true, [1, 2, 3]⟩) = some ⟨31, 65535, 7, true, [1, 2, 3]⟩ := by decide +kernel

/-- Every field at its largest value. -/
theorem test_w_item_round_trip : 4095 < 4096 ∧ 63 < 64 ∧ 15 < 16 ∧ 3 < 4 ∧ 31 < 32 ∧ 255 < 256 ∧ 7 < 8 ∧
    decodeItem (Item.offer 4095 63 15 3 true).bits = .offer 4095 63 15 3 true ∧
    decodeItem (Item.answer 31 255 7 15 0xFFFFFFFF).bits = .answer 31 255 7 15 0xFFFFFFFF := by decide +kernel

/-- States with everything in use meet every invariant, and step. -/
theorem test_w_invariants : BootOk owning ∧ NoticesOk owning ∧ QueueOk owning ∧ MapOk owning ∧ SlotsOk owning := by
  decide +kernel

theorem test_w_ranges : RelaysOk answering ∧ SyncOk owning ∧ SourcesOk owning ∧ SinksOk (capturing .running 16 62 [.silent]) := by
  decide +kernel

theorem test_w_steps : step { owning with pending := [.actReseekSource 1] } = .next (after [.actReseekSource 1] owning) :=
  rfl

end Sys2Proof.Tests
end

section
/-! The status lines of the management port, read off the sync state. -/

namespace Sys2Proof.Proofs

open Sys2Proof.Machine

/-- LOCK is high in the two sync states R17 names and in no other. -/
theorem lockHigh_iff (s : State) : s.lockHigh = true ↔ s.sync.state = .locked ∨ s.sync.state = .leaving := by
  simp only [State.lockHigh, Bool.or_eq_true, beq_iff_eq]

@[simp] theorem reset_sync_state : State.reset.sync.state = .configLoad := rfl

/-- A station outside LOCKED and LEAVING holds LOCK low: the half of R17 that the configuration states use. -/
theorem lockHigh_eq_false {s : State} (hlocked : s.sync.state ≠ .locked) (hleaving : s.sync.state ≠ .leaving) :
    s.lockHigh = false :=
  Bool.eq_false_iff.mpr fun high => ((lockHigh_iff s).mp high).elim hlocked hleaving

/-- Settles O10: LOCK is a function of the sync state alone, and cold reset enters CONFIG_LOAD. -/
theorem lockLineFollowsTheState : Obligations.LockLineFollowsTheState := by
  refine ⟨lockHigh_iff, lockHigh_eq_false ?notLocked ?notLeaving⟩
  case notLocked => simp
  case notLeaving => simp

end Sys2Proof.Proofs
end

section
/-! The data word of a slot: its value and its fields, the class a receiver gives it, and the markers in its ticks
(R9, R189). -/

namespace Sys2Proof.Proofs

open Sys2Proof.Machine

/-! ### The slot check -/

theorem flagVal_le_one (v : Bool) : flagVal v ≤ 1 := by cases v <;> decide

/-- The check is never 0 and keeps to the word's last seven ticks. -/
theorem slotCheck_range (k : Nat) (x : Sample) (v : Bool) : 2 ≤ slotCheck k x v ∧ slotCheck k x v ≤ 126 := by
  unfold slotCheck
  omega

theorem slotCheck_even (k : Nat) (x : Sample) (v : Bool) : slotCheck k x v % 2 = 0 := by
  unfold slotCheck
  omega

/-- The check by the sample's three bytes, as R189 words it. -/
theorem slotCheck_eq_bytes (k : Nat) (x : Sample) (v : Bool) :
    slotCheck k x v = 2 * (1 + ((x.extractLsb' 16 8).toNat + (x.extractLsb' 8 8).toNat + (x.extractLsb' 0 8).toNat +
      (if v = true then 1 else 0) + k) % 63) := by
  have high : x.toNat / 65536 % 256 = x.toNat / 65536 := Nat.mod_eq_of_lt (by have := x.isLt; omega)
  simp [slotCheck, flagVal, BitVec.extractLsb'_toNat, Nat.shiftRight_eq_div_pow, high]

/-- Two data slots are less than 63 apart, so no word has the same check in both. -/
theorem slotCheck_ne {j k : Nat} (x : Sample) (v : Bool) (hj : 8 ≤ j ∧ j ≤ 63) (hk : 8 ≤ k ∧ k ≤ 63) (h : j ≠ k) :
    slotCheck j x v ≠ slotCheck k x v := by
  unfold slotCheck
  omega

/-! ### The fields of a window -/

theorem windowSample_eq_extract (w : SlotWindow) : windowSample w = w.extractLsb' 8 24 := by
  apply BitVec.eq_of_toNat_eq
  simp [windowSample, BitVec.extractLsb'_toNat, Nat.shiftRight_eq_div_pow]

theorem windowValid_eq_getLsbD (w : SlotWindow) : windowValid w = w.getLsbD 7 := by
  simp [windowValid, BitVec.getLsbD, Nat.testBit_eq_decide_div_mod_eq, beq_eq_decide]

theorem windowCheck_eq_extract (w : SlotWindow) : windowCheck w = (w.extractLsb' 0 7).toNat := by
  simp [windowCheck, BitVec.extractLsb'_toNat]

/-- A window is the number its three fields make. -/
theorem window_toNat (w : SlotWindow) :
    w.toNat = (windowSample w).toNat * 256 + flagVal (windowValid w) * 128 + windowCheck w := by
  have sample : (windowSample w).toNat = w.toNat / 256 := by
    simpa [windowSample] using (by have := w.isLt; omega : w.toNat / 256 < 16777216)
  have valid : flagVal (windowValid w) = w.toNat / 128 % 2 := by
    simp only [windowValid, flagVal, beq_iff_eq]
    split <;> omega
  simp only [sample, valid, windowCheck]
  omega

/-! ### The data word -/

/-- The fields of a data word do not overlap and fill its 32 ticks. -/
theorem dataWord_toNat (k : Nat) (x : Sample) (v : Bool) :
    (dataWord k x v).toNat = x.toNat * 256 + flagVal v * 128 + slotCheck k x v := by
  have fits : x.toNat * 256 + flagVal v * 128 + slotCheck k x v < 2 ^ 32 := by
    have := x.isLt
    have := flagVal_le_one v
    have := slotCheck_range k x v
    omega
  simpa [dataWord] using Nat.mod_eq_of_lt fits

@[simp] theorem windowSample_dataWord (k : Nat) (x : Sample) (v : Bool) : windowSample (dataWord k x v) = x := by
  have value : (dataWord k x v).toNat / 256 = x.toNat := by
    have := dataWord_toNat k x v
    have := flagVal_le_one v
    have := slotCheck_range k x v
    omega
  simp [windowSample, value]

@[simp] theorem windowValid_dataWord (k : Nat) (x : Sample) (v : Bool) : windowValid (dataWord k x v) = v := by
  have value : (dataWord k x v).toNat / 128 % 2 = flagVal v := by
    have := dataWord_toNat k x v
    have := flagVal_le_one v
    have := slotCheck_range k x v
    omega
  cases v <;> simp [windowValid, value, flagVal]

@[simp] theorem windowCheck_dataWord (k : Nat) (x : Sample) (v : Bool) :
    windowCheck (dataWord k x v) = slotCheck k x v := by
  have := dataWord_toNat k x v
  have := slotCheck_range k x v
  unfold windowCheck
  omega

/-- Every driven word has carrier: its check alone is not 0. -/
theorem dataWord_ne_zero (k : Nat) (x : Sample) (v : Bool) : dataWord k x v ≠ 0 := by
  intro zero
  have value := windowCheck_dataWord k x v
  have positive := (slotCheck_range k x v).1
  simp [zero, windowCheck] at value
  omega

/-- The last tick of a data word, the lowest bit of its even check, is recessive. -/
theorem dataWord_ends_recessive (k : Nat) (x : Sample) (v : Bool) : (dataWord k x v).getLsbD 0 = false := by
  have even : (dataWord k x v).toNat % 2 = 0 := by
    have := dataWord_toNat k x v
    have := slotCheck_even k x v
    omega
  simp [BitVec.getLsbD, even]

/-- A window whose check is the one computed for slot `k` is the word its own fields have there. -/
theorem eq_dataWord_of_windowCheck {k : Nat} {w : SlotWindow}
    (h : windowCheck w = slotCheck k (windowSample w) (windowValid w)) :
    w = dataWord k (windowSample w) (windowValid w) :=
  BitVec.eq_of_toNat_eq (by rw [dataWord_toNat, ← h, ← window_toNat])

/-! ### The class of a window (R9) -/

theorem classifySlot_eq_silent_iff (k : Nat) (w : SlotWindow) : classifySlot k w = .silent ↔ w = 0 := by
  unfold classifySlot
  split
  case isTrue zero => exact iff_of_true rfl zero
  case isFalse carrier => split <;> exact iff_of_false nofun carrier

/-- What a receiver in slot `j` makes of a word driven for slot `k`: the two checks decide. -/
theorem classifySlot_dataWord (j k : Nat) (x : Sample) (v : Bool) :
    classifySlot j (dataWord k x v) = if slotCheck k x v = slotCheck j x v then .good x v else .damaged := by
  rw [classifySlot, if_neg (dataWord_ne_zero k x v)]
  simp

/-- GOOD in slot `k` is being the word of one's fields in slot `k`. -/
theorem classifySlot_eq_good_iff (k : Nat) (w : SlotWindow) (x : Sample) (v : Bool) :
    classifySlot k w = .good x v ↔ w = dataWord k x v := by
  constructor
  · intro good
    unfold classifySlot at good
    split at good
    case isTrue => cases good
    case isFalse =>
      split at good
      case isTrue check => cases good; exact eq_dataWord_of_windowCheck check
      case isFalse => cases good
  · rintro rfl
    simp [classifySlot_dataWord]

/-- A word heard in another data slot than its own is DAMAGED. -/
theorem classifySlot_dataWord_of_ne {j k : Nat} (x : Sample) (v : Bool) (hj : 8 ≤ j ∧ j ≤ 63) (hk : 8 ≤ k ∧ k ≤ 63)
    (h : j ≠ k) : classifySlot j (dataWord k x v) = .damaged := by
  rw [classifySlot_dataWord, if_neg (slotCheck_ne x v hj hk h).symm]

/-! ### Markers in a stretch of ticks (R189) -/

/-- A run that ends after `n` more dominant ticks, `run` of them having stood before: an edge, the run's first tick, exactly
if the 32nd dominant tick is among the `n`. -/
theorem markerEdges_run (t run n : Nat) (rest : List Bool) :
    markerEdges (t + run) run (List.replicate n true ++ false :: rest) =
      (if run < 32 ∧ 32 ≤ run + n then [t] else []) ++ markerEdges (t + run + n + 1) 0 rest := by
  induction n generalizing run with
  | zero =>
    have noEdge : ¬(run < 32 ∧ 32 ≤ run) := by omega
    simp [markerEdges, noEdge]
  | succ n ih =>
    have later := ih (run + 1)
    have place : t + (run + 1) + n + 1 = t + run + (n + 1) + 1 := by omega
    rw [place, ← Nat.add_assoc t run 1] at later
    simp only [List.replicate_succ, List.cons_append, markerEdges, if_true, later]
    by_cases here : run + 1 = 32
    · obtain rfl : run = 31 := by omega
      have reached : 32 ≤ 31 + (n + 1) := by omega
      simp [reached]
    · have same : (run + 1 < 32 ∧ 32 ≤ run + 1 + n) ↔ (run < 32 ∧ 32 ≤ run + (n + 1)) := by omega
      simp [here, same]

/-- A stretch too short to bring a run to 32 ticks holds no marker. -/
theorem markerEdges_of_short {t run : Nat} {ticks : List Bool} (h : run + ticks.length < 32) :
    markerEdges t run ticks = [] := by
  induction ticks generalizing t run with
  | nil => rfl
  | cons b rest ih =>
    rw [List.length_cons] at h
    have inRun : markerEdges (t + 1) (run + 1) rest = [] := ih (by omega)
    have afresh : markerEdges (t + 1) 0 rest = [] := ih (by omega)
    have early : run + 1 ≠ 32 := by omega
    simp [markerEdges, inRun, afresh, early]

/-- A recessive tick at the end adds no marker. -/
theorem markerEdges_append_recessive (t run : Nat) (ticks : List Bool) :
    markerEdges t run (ticks ++ [false]) = markerEdges t run ticks := by
  induction ticks generalizing t run with
  | nil => rfl
  | cons b rest ih => simp [markerEdges, ih]

/-- The bits of a number end in its lowest one. -/
theorem bitsOf_succ_eq_append (w v : Nat) : bitsOf (w + 1) v = bitsOf w (v / 2) ++ [v.testBit 0] := by
  induction w with
  | zero => rfl
  | succ w ih => rw [bitsOf, ih, Nat.testBit_succ]; rfl

/-- A data word holds no marker: 31 ticks are too few for one, and the last is recessive. -/
theorem markerEdges_dataWord (k : Nat) (x : Sample) (v : Bool) :
    markerEdges 0 0 (bitsOf 32 (dataWord k x v).toNat) = [] := by
  have last : (dataWord k x v).toNat.testBit 0 = false := dataWord_ends_recessive k x v
  rw [bitsOf_succ_eq_append, last, markerEdges_append_recessive]
  exact markerEdges_of_short (by simp)

/-- Settles O38: the fields of the word read back, so the checks alone decide the class. -/
theorem dataWordsCarryTheirSlotCheck : Obligations.DataWordsCarryTheirSlotCheck := by
  refine ⟨fun t n rest long => ?run, fun t n rest short => ?noRun, rfl, fun k n x v low high => ?word,
    classifySlot_eq_silent_iff, by decide⟩
  case run => simpa [long] using markerEdges_run t 0 n rest
  case noRun => simpa [Nat.not_le.mpr short] using markerEdges_run t 0 n rest
  case word =>
    have check : ((dataWord k x v).extractLsb' 0 7).toNat = slotCheck k x v := by
      rw [← windowCheck_eq_extract, windowCheck_dataWord]
    obtain ⟨atLeast, atMost⟩ := slotCheck_range k x v
    refine ⟨rfl, ?sample, ?valid, check.trans (slotCheck_eq_bytes k x v), check ▸ atLeast, check ▸ atMost,
      dataWord_ne_zero k x v, dataWord_ends_recessive k x v, markerEdges_dataWord k x v,
      fun u => classifySlot_eq_good_iff k u x v,
      fun j jLow jHigh other => classifySlot_dataWord_of_ne x v ⟨jLow, jHigh⟩ ⟨low, high⟩ other⟩
    case sample => rw [← windowSample_eq_extract, windowSample_dataWord]
    case valid => rw [← windowValid_eq_getLsbD, windowValid_dataWord]

end Sys2Proof.Proofs
end

section
/-! What one command can do to the station, said once: nothing, a level of RESET_N, or one of nineteen events. -/

namespace Sys2Proof.Proofs

open Sys2Proof.Machine

/-- The events the commands of the opcode table come down to: a row named for what comes about inside another event is
that event or nothing (log entry 1), and every READ is a response. -/
inductive Event where
  | bootStart (b : Byte)
  | bootLength (b : Byte)
  | bootComplete (rest : List Byte)
  | respond (status : LmpStatus) (body : List Byte)
  | act (a : Action) (index : Byte)
  | relay (target : Byte) (code : Option Code) (index : Byte)
  | relayResult (handle : Byte)
  | takeNotice
  | load (bytes : List Byte)
  | endTransaction (shifted : Nat)
  | frameStart (shifted : List (List Bool))
  | report (line : OnLine LineTicks)
  | slotStart (start : SlotStart)
  | slotEnd (slot : Nat) (line : OnLine SlotWindow)
  | build
  | sent
  | readback (line : OnLine CellWindow)
  | cell (line : OnLine CellWindow)
  | strobe (port periods : Nat) (bits : List Bool)

/-- What an event does, in the model's own operations. -/
def Event.run : Event → State → State
  | .bootStart b => Machine.bootStart b
  | .bootLength b => Machine.bootLength b
  | .bootComplete rest => Machine.bootComplete rest
  | .respond status body => Machine.respond status body
  | .act a index => Machine.act a index
  | .relay target code index => relayRequest target code index
  | .relayResult handle => Machine.relayResult handle.toNat
  | .takeNotice => takeHead
  | .load bytes => loadRequest bytes
  | .endTransaction shifted => Machine.endTransaction shifted
  | .frameStart shifted => frameStartEvent shifted
  | .report line => reportEvent line
  | .slotStart start => slotStartEvent start.slot (meetingAct start.act)
  | .slotEnd slot line => slotEndEvent slot line
  | .build => whenDue drivesOwnCell buildCell
  | .sent => sentEvent
  | .readback line => readbackEvent line
  | .cell line => cellEvent line
  | .strobe port periods bits => whenDue (takesStrobe port) (Machine.strobe port periods bits)

/-! ### A command with RESET_N high or low -/

theorem underReset_high {s : State} (f : State → State) (high : s.resetLow = false) : underReset f s = .next (f s) := by
  simp [underReset, high]

theorem underReset_low {s : State} (f : State → State) (low : s.resetLow = true) : underReset f s = .next s := by
  simp [underReset, low]

theorem whenDue_of {due : State → Bool} {s : State} (f : State → State) (h : due s = true) : whenDue due f s = f s := by
  simp [whenDue, h]

theorem whenDue_not {due : State → Bool} {s : State} (f : State → State) (h : due s = false) : whenDue due f s = s := by
  simp [whenDue, h]

/-- What a command comes to: an answer that changes nothing, or an event of the station with RESET_N high. -/
def IsEvent (s : State) (o : Host.Outcome State Fault Refusal) : Prop :=
  o = .next s ∨ s.resetLow = false ∧ ∃ e : Event, o = .next (e.run s)

theorem isEvent_underReset {s : State} {f : State → State} (e : Event) (h : f s = e.run s) : IsEvent s (underReset f s) := by
  cases low : s.resetLow with
  | true => exact .inl (underReset_low f low)
  | false => exact .inr ⟨low, e, by rw [underReset_high f low, h]⟩

theorem isEvent_whenDue {s : State} {f : State → State} (due : State → Bool) (e : Event) (h : f s = e.run s) :
    IsEvent s (underReset (whenDue due f) s) := by
  cases isDue : due s with
  | true => exact isEvent_underReset e (by rw [whenDue_of f isDue, h])
  | false => left; cases low : s.resetLow <;> simp [underReset, low, whenDue_not f isDue]

theorem isEvent_read {s : State} (body : State → Option (List Byte)) :
    IsEvent s (underReset (fun t => readGroup (body t) t) s) := by
  cases b : body s with
  | none => exact isEvent_underReset (.respond .noSuch []) (by simp [readGroup, b, Event.run])
  | some bytes => exact isEvent_underReset (.respond .done bytes) (by simp [readGroup, b, Event.run])

theorem isEvent_badRequest (frame : List Byte) (s : State) : IsEvent s (execLmpBadRequest frame s) := by
  cases bad : frameIsBad frame with
  | true => exact isEvent_underReset (.respond .badRequest []) (by simp [bad, Event.run])
  | false => left; cases low : s.resetLow <;> simp [execLmpBadRequest, underReset, low, bad]

/-- Every command but the two levels of RESET_N is an event or changes nothing. -/
theorem exec_isEvent (c : Instr) (s : State) (notCold : c ≠ .coldReset) (notRelease : c ≠ .resetRelease) :
    IsEvent s (exec c s) := by
  cases c with
  | coldReset => exact absurd rfl notCold
  | resetRelease => exact absurd rfl notRelease
  | bootStartByte b => exact isEvent_underReset (.bootStart b) rfl
  | bootLengthByte b => exact isEvent_underReset (.bootLength b) rfl
  | bootReadComplete rest => exact isEvent_underReset (.bootComplete rest) rfl
  | lmpIdent => exact isEvent_underReset (.respond .done (identBody s)) rfl
  | readStation => exact isEvent_read (fun t => some (stationBody t))
  | readSummary => exact isEvent_read (fun t => some (summaryBody t))
  | readSync => exact isEvent_read (fun t => some (syncBody t.sync))
  | readControl => exact isEvent_read (fun t => some (controlBody t.rx t.tx))
  | readPeer i => exact isEvent_read (fun t => if i.toNat < 32 then some (peerBody (t.peer i.toNat)) else none)
  | readAllocator => exact isEvent_read (fun t => some (allocatorBody t.alloc.counters))
  | readSlot i => exact isEvent_read (fun t =>
      if 8 ≤ i.toNat ∧ i.toNat ≤ 63 then some (slotBody (t.slot i.toNat).use) else none)
  | readSource i => exact isEvent_read (fun t => (t.sources[i.toNat]?).map sourceBody)
  | readSink i => exact isEvent_read (fun t => (t.sinks[i.toNat]?).map sinkBody)
  | readPort i => exact isEvent_read (fun t =>
      if i.toNat < 4 then some (portBody (t.ports.getD i.toNat .cold)) else none)
  | readRequest => exact isEvent_read (fun t => some (requestBody t.req t.relayLevel))
  | actMuteSource i => exact isEvent_underReset (.act .muteSource i) rfl
  | actUnmuteSource i => exact isEvent_underReset (.act .unmuteSource i) rfl
  | actReseekSource i => exact isEvent_underReset (.act .reseekSource i) rfl
  | actMuteSink i => exact isEvent_underReset (.act .muteSink i) rfl
  | actUnmuteSink i => exact isEvent_underReset (.act .unmuteSink i) rfl
  | actClearCounters i => exact isEvent_underReset (.act .clearCounters i) rfl
  | actRestart i => exact isEvent_underReset (.act .restart i) rfl
  | relayProbe target code i => exact isEvent_underReset (.relay target _ i) rfl
  | relayCommand target code i => exact isEvent_underReset (.relay target _ i) rfl
  | relayResult h => exact isEvent_underReset (.relayResult h) rfl
  | takeNotice => exact isEvent_underReset .takeNotice rfl
  | loadImage bytes => exact isEvent_underReset (.load bytes) rfl
  | lmpBadRequest frame => exact isEvent_badRequest frame s
  | lmpTransactionEnd k => exact isEvent_underReset (.endTransaction k) rfl
  | frameStart sh => exact isEvent_underReset (.frameStart sh) rfl
  | listenLimitExpiry sh | acquireTimeout sh | learnPeriodComplete sh | enterLocked sh | foundingTrialEnd sh
  | peerClaimMaturity _ sh | ownClaimMaturity _ sh | leaseLapse _ sh | refreshDue _ sh | backoffExpiry _ sh
  | relayTimeout _ sh | clockWatchExpiry _ sh => exact isEvent_whenDue _ (.frameStart sh) rfl
  | markerReport line => exact isEvent_underReset (.report line) rfl
  | edgeMissLimit line | yieldTrunk line | lineFault line => exact isEvent_whenDue _ (.report line) rfl
  | dataSlotStart start => exact isEvent_underReset (.slotStart start) rfl
  | dataSlotReceived k line => exact isEvent_underReset (.slotEnd k line) rfl
  | forcedRelease k line | sinkStarved k line => exact isEvent_whenDue _ (.slotEnd k line) rfl
  | buildOwnCell => exact isEvent_underReset .build rfl
  | ownCellSent => exact isEvent_underReset .sent rfl
  | ownCellReadback line => exact isEvent_underReset (.readback line) rfl
  | duplicateIdMismatch line => exact isEvent_whenDue _ (.readback line) rfl
  | cellReceived line => exact isEvent_underReset (.cell line) rfl
  | peerDeparture line => exact isEvent_whenDue _ (.cell line) rfl
  | bridgeStrobe p k bits => exact isEvent_underReset (.strobe p k bits) rfl

/-- Every command answers a next state. -/
theorem exec_total (c : Instr) (s : State) : ∃ t, exec c s = .next t := by
  by_cases cold : c = .coldReset
  · exact ⟨coldReset s, by rw [cold]; rfl⟩
  by_cases release : c = .resetRelease
  · exact ⟨releaseReset s, by rw [release]; rfl⟩
  obtain same | ⟨-, e, next⟩ := exec_isEvent c s cold release
  · exact ⟨s, same⟩
  · exact ⟨e.run s, next⟩

/-- What a command can lead to. -/
theorem exec_cases {c : Instr} {s t : State} (next : exec c s = .next t) :
    t = s ∨ (c = .coldReset ∧ t = coldReset s) ∨ (c = .resetRelease ∧ t = releaseReset s) ∨
    (s.resetLow = false ∧ ∃ e : Event, t = e.run s) := by
  by_cases cold : c = .coldReset
  · exact .inr (.inl ⟨cold, by subst cold; exact (Host.Outcome.next.inj next).symm⟩)
  by_cases release : c = .resetRelease
  · exact .inr (.inr (.inl ⟨release, by subst release; exact (Host.Outcome.next.inj next).symm⟩))
  obtain same | ⟨high, e, ran⟩ := exec_isEvent c s cold release
  · exact .inl (Host.Outcome.next.inj (next.symm.trans same))
  · exact .inr (.inr (.inr ⟨high, e, Host.Outcome.next.inj (next.symm.trans ran)⟩))

/-! ### Steps -/

theorem step_nil {s : State} (h : s.pending = []) : step s = .next s := by simp [step, h]

theorem step_cons {s : State} {c : Instr} {rest : List Instr} (h : s.pending = c :: rest) :
    step s = exec c { s with pending := rest } := by simp [step, h]

/-- A property that does not look at the waiting commands, and that the levels of RESET_N and every event keep, every step
keeps. -/
theorem step_keeps {P : State → Prop} (blind : ∀ (s : State) (q : List Instr), P s → P { s with pending := q })
    (cold : ∀ s, P s → P (coldReset s)) (release : ∀ s, P s → P (releaseReset s))
    (event : ∀ (e : Event) (s : State), s.resetLow = false → P s → P (e.run s)) {s t : State}
    (next : step s = .next t) (h : P s) : P t := by
  cases waiting : s.pending with
  | nil =>
    rw [step_nil waiting] at next
    exact Host.Outcome.next.inj next ▸ h
  | cons c rest =>
    rw [step_cons waiting] at next
    have h := blind s rest h
    obtain rfl | ⟨-, rfl⟩ | ⟨-, rfl⟩ | ⟨high, e, rfl⟩ := exec_cases next
    · exact h
    · exact cold _ h
    · exact release _ h
    · exact event e _ high h

/-- Settles O1: the two rows of the step. -/
theorem stepRunsTheFrontCommand : Obligations.StepRunsTheFrontCommand :=
  ⟨fun _ _ _ => step_cons, fun _ => step_nil⟩

/-- Settles O3: the cold values are those of the definition. -/
theorem resetLeavesTheColdValues : Obligations.ResetLeavesTheColdValues := by
  unfold Obligations.ResetLeavesTheColdValues
  decide

/-- A command under a low RESET_N changes nothing but for the two levels of RESET_N. -/
theorem exec_of_resetLow {c : Instr} {s : State} (low : s.resetLow = true) (notCold : c ≠ .coldReset)
    (notRelease : c ≠ .resetRelease) : exec c s = .next s := by
  obtain same | ⟨high, -⟩ := exec_isEvent c s notCold notRelease
  · exact same
  · exact absurd (low.symm.trans high) (by decide)

/-- Settles O5: a release keeps what the cold reset left, and nothing else is taken in between. -/
theorem coldResetAndRelease : Obligations.ColdResetAndRelease := by
  intro s
  refine ⟨coldReset s, rfl, rfl, rfl, rfl, rfl, rfl, rfl, fun high => ?_, fun low c => exec_of_resetLow low⟩
  show Host.Outcome.next (releaseReset s) = .next s
  simp [releaseReset, high]

end Sys2Proof.Proofs
end

section
/-! The commands waiting, RESET_N and the loader: what an event leaves of them (R178, R181). -/

namespace Sys2Proof.Proofs

open Sys2Proof.Machine

/-! ### What every event outside the boot and LOAD_IMAGE leaves -/

/-- The commands waiting, the level of RESET_N and the loader are the same. -/
structure SameSetup (s t : State) : Prop where
  pending : t.pending = s.pending
  resetLow : t.resetLow = s.resetLow
  loader : t.loader = s.loader

namespace SameSetup

theorem refl (s : State) : SameSetup s s := ⟨rfl, rfl, rfl⟩

theorem trans {s t u : State} (h : SameSetup s t) (k : SameSetup t u) : SameSetup s u :=
  ⟨k.pending.trans h.pending, k.resetLow.trans h.resetLow, k.loader.trans h.loader⟩

/-- What comes after a change outside the setup. -/
theorem after {s t u : State} (k : SameSetup t u) (h : SameSetup s t) : SameSetup s u := h.trans k

/-- A fold whose rounds leave the setup leaves it. -/
theorem foldl {α : Type} {f : State → α → State} (l : List α) (s : State) (round : ∀ t x, SameSetup t (f t x)) :
    SameSetup s (l.foldl f s) :=
  foldl_inv (SameSetup s) f l s (refl s) (fun t x h => h.trans (round t x))

theorem forEach {f : Nat → State → State} (n : Nat) (s : State) (round : ∀ i t, SameSetup t (f i t)) :
    SameSetup s (Machine.forEach n f s) :=
  foldl _ s (fun t i => round i t)

end SameSetup

theorem respond_sameSetup (st : LmpStatus) (body : List Byte) (s : State) : SameSetup s (respond st body s) := by
  constructor <;> simp

theorem respondThen_sameSetup (st : LmpStatus) (body : List Byte) (c : OnComplete) (s : State) :
    SameSetup s (respondThen st body c s) := by
  constructor <;> simp

theorem reseek_sameSetup (n : Nat) (s : State) : SameSetup s (reseek n s).2 := by
  unfold reseek
  split <;> constructor <;> simp

theorem restart_sameSetup (s : State) : SameSetup s (restart s).2 := by
  unfold restart
  split <;> constructor <;> simp

theorem doAction_sameSetup (a : Action) (n : Nat) (s : State) : SameSetup s (doAction a n s).2 := by
  cases a with
  | muteSource | unmuteSource | muteSink | unmuteSink => unfold doAction; dsimp only; split <;> exact ⟨rfl, rfl, rfl⟩
  | reseekSource =>
    unfold doAction
    dsimp only
    split
    · exact reseek_sameSetup n s
    · exact .refl s
  | clearCounters => constructor <;> simp [doAction]
  | restart =>
    unfold doAction
    exact restart_sameSetup s

theorem act_sameSetup (a : Action) (i : Byte) (s : State) : SameSetup s (act a i s) := by
  unfold act
  split
  · exact respond_sameSetup _ _ s
  · exact (doAction_sameSetup a _ s).trans (respond_sameSetup _ _ _)

theorem meetingAct_sameSetup (a : Option (Byte × Byte)) (s : State) : SameSetup s (meetingAct a s) := by
  cases a with
  | none => exact .refl s
  | some p =>
    obtain ⟨code, i⟩ := p
    show SameSetup s (actRequest code i s)
    unfold actRequest
    split
    · exact act_sameSetup _ i s
    · exact respond_sameSetup _ _ s

theorem acceptRelay_sameSetup (h x : Nat) (code : Code) (i : Nat) (s : State) :
    SameSetup s (acceptRelay h x code i s).2 := by
  constructor <;> simp [acceptRelay]

theorem askRelay_sameSetup (x : Nat) (code : Code) (i : Nat) (s : State) : SameSetup s (askRelay x code i s) := by
  unfold askRelay
  split
  · exact (acceptRelay_sameSetup _ x code i s).trans (respond_sameSetup _ _ _)
  · exact respond_sameSetup _ _ s
  · exact respond_sameSetup _ _ s

theorem relayRequest_sameSetup (x : Byte) (code : Option Code) (i : Byte) (s : State) :
    SameSetup s (relayRequest x code i s) := by
  unfold relayRequest
  repeat' split
  · exact respond_sameSetup _ _ s
  · exact askRelay_sameSetup _ _ _ s
  · exact respond_sameSetup _ _ s

theorem relayResult_sameSetup (h : Nat) (s : State) : SameSetup s (relayResult h s) := by
  unfold relayResult
  repeat' split
  · exact respond_sameSetup _ _ s
  · exact respondThen_sameSetup _ _ _ s
  · exact respond_sameSetup _ _ s
  · exact respond_sameSetup _ _ s

theorem takeHead_sameSetup (s : State) : SameSetup s (takeHead s) := by
  unfold takeHead
  split
  · exact respondThen_sameSetup _ _ _ s
  · exact respond_sameSetup _ _ s

theorem endTransaction_sameSetup (k : Nat) (s : State) : SameSetup s (endTransaction k s) := by constructor <;> simp

theorem frameStartEvent_sameSetup (sh : List (List Bool)) (s : State) : SameSetup s (frameStartEvent sh s) := by
  unfold frameStartEvent
  split
  · constructor <;> simp
  · exact .refl s

theorem slewReport_sameSetup (leads : List Int) (s : State) : SameSetup s (slewReport leads s) := by
  unfold slewReport edgeMissLimit
  dsimp only
  repeat' split
  all_goals constructor <;> simp

theorem driveReport_sameSetup (leads : List Int) (s : State) : SameSetup s (driveReport leads s) := by
  unfold driveReport yieldNow lineFaultNow
  dsimp only
  repeat' split
  all_goals constructor <;> simp

theorem reportMade_sameSetup (leads : List Int) (s : State) : SameSetup s (reportMade leads s) := by
  unfold reportMade
  dsimp only
  split
  case h_1 => exact ⟨rfl, rfl, rfl⟩
  case h_2 | h_3 | h_4 => exact (slewReport_sameSetup _ _).after ⟨rfl, rfl, rfl⟩
  case h_5 | h_6 | h_7 => exact (driveReport_sameSetup _ _).after ⟨rfl, rfl, rfl⟩
  case h_8 | h_9 | h_10 => exact .refl s

theorem reportEvent_sameSetup (line : OnLine LineTicks) (s : State) : SameSetup s (reportEvent line s) := by
  unfold reportEvent
  split
  · exact reportMade_sameSetup _ s
  · exact .refl s

theorem slotStartEvent_sameSetup (k : Nat) (a : Option (Byte × Byte)) (s : State) :
    SameSetup s (slotStartEvent k (meetingAct a) s) := by
  unfold slotStartEvent slotStarted
  split
  · have taken : SameSetup s (forEach s.sources.length (takeAt k) (atTick (32 * k) s)) :=
      SameSetup.trans (t := atTick (32 * k) s) ⟨rfl, rfl, rfl⟩
        (SameSetup.forEach _ _ (fun i t => by constructor <;> simp))
    exact (taken.trans (meetingAct_sameSetup a _)).trans (by constructor <;> simp)
  · exact .refl s

theorem slotEndEvent_sameSetup (k : Nat) (line : OnLine SlotWindow) (s : State) :
    SameSetup s (slotEndEvent k line s) := by
  unfold slotEndEvent
  split
  · constructor <;> simp
  · exact .refl s

/-! ### The own cell -/

/-- What considering one item at the build cannot touch. -/
@[simp] theorem considerItem_frame (it : QItem) (acc : BuildAcc) :
    (considerItem it acc).st.pending = acc.st.pending ∧ (considerItem it acc).st.resetLow = acc.st.resetLow ∧
    (considerItem it acc).st.loader = acc.st.loader ∧ (considerItem it acc).st.sync = acc.st.sync ∧
    (considerItem it acc).st.line = acc.st.line ∧ (considerItem it acc).st.rx = acc.st.rx ∧
    (considerItem it acc).st.peers = acc.st.peers ∧ (considerItem it acc).st.alloc = acc.st.alloc ∧
    (considerItem it acc).st.sinks = acc.st.sinks ∧ (considerItem it acc).st.ports = acc.st.ports ∧
    (considerItem it acc).st.req = acc.st.req := by
  unfold considerItem
  dsimp only
  repeat' split
  all_goals simp [BuildAcc.place, dequeue]

/-- What a build's loop cannot touch. -/
@[simp] theorem buildLoop_frame (items : List QItem) (acc : BuildAcc) :
    (buildLoop items acc).st.pending = acc.st.pending ∧ (buildLoop items acc).st.resetLow = acc.st.resetLow ∧
    (buildLoop items acc).st.loader = acc.st.loader ∧ (buildLoop items acc).st.sync = acc.st.sync ∧
    (buildLoop items acc).st.line = acc.st.line ∧ (buildLoop items acc).st.rx = acc.st.rx ∧
    (buildLoop items acc).st.peers = acc.st.peers ∧ (buildLoop items acc).st.alloc = acc.st.alloc ∧
    (buildLoop items acc).st.sinks = acc.st.sinks ∧ (buildLoop items acc).st.ports = acc.st.ports ∧
    (buildLoop items acc).st.req = acc.st.req := by
  induction items generalizing acc with
  | nil => simp [buildLoop]
  | cons it rest ih =>
    unfold buildLoop
    split
    · simp
    · simpa using ih (considerItem it acc)

theorem buildCell_sameSetup (s : State) : SameSetup s (buildCell s) := by
  constructor <;> simp [buildCell]

theorem itemSent_sameSetup (sf : Superframe) (cell : List Placed) (p : Placed) (s : State) :
    SameSetup s (itemSent sf cell p s) := by
  unfold itemSent
  repeat' split
  all_goals constructor <;> simp

theorem cellSent_sameSetup (b : Built) (s : State) : SameSetup s (cellSent b s) := by
  unfold cellSent
  exact SameSetup.trans (by split <;> exact ⟨rfl, rfl, rfl⟩)
    (SameSetup.foldl _ _ (fun t p => itemSent_sameSetup _ _ p t))

theorem sentEvent_sameSetup (s : State) : SameSetup s (sentEvent s) := by
  unfold sentEvent
  split
  · exact cellSent_sameSetup _ s
  · exact .refl s

theorem readbackEvent_sameSetup (line : OnLine CellWindow) (s : State) : SameSetup s (readbackEvent line s) := by
  unfold readbackEvent
  split
  · constructor <;> simp
  · exact .refl s

/-! ### Received cells -/

theorem serveProbe_sameSetup (x q : Nat) (sub : Subject) (i : Nat) (s : State) :
    SameSetup s (serveProbe x q sub i s) := by
  constructor <;> simp [serveProbe]

theorem serveCommand_sameSetup (x q : Nat) (a : Action) (i : Nat) (s : State) :
    SameSetup s (serveCommand x q a i s) := by
  unfold serveCommand
  dsimp only
  split
  · exact (doAction_sameSetup a i s).trans (by constructor <;> simp)
  · constructor <;> simp

theorem takeAnswer_sameSetup (x q : Nat) (st : AnswerStatus) (c : Code) (v : Payload) (s : State) :
    SameSetup s (takeAnswer x q st c v s) := by
  unfold takeAnswer
  split <;> constructor <;> simp

theorem dispatchItem_sameSetup (x : Nat) (it : Item) (s : State) : SameSetup s (dispatchItem x it s) := by
  cases it with
  | claim | offer | release | leave => constructor <;> simp [dispatchItem]
  | unknown => exact .refl s
  | probe =>
    dsimp only [dispatchItem]
    repeat' split
    · exact serveProbe_sameSetup _ _ _ _ s
    · exact .refl s
    · exact .refl s
  | command =>
    dsimp only [dispatchItem]
    repeat' split
    · exact serveCommand_sameSetup _ _ _ _ s
    · exact .refl s
    · exact .refl s
  | answer =>
    dsimp only [dispatchItem]
    repeat' split
    · exact takeAnswer_sameSetup _ _ _ _ _ s
    · exact .refl s
    · exact .refl s

theorem dispatchItems_sameSetup (x : Nat) (items : List Item) (s : State) : SameSetup s (dispatchItems x items s) := by
  induction items generalizing s with
  | nil => exact .refl s
  | cons it rest ih =>
    unfold dispatchItems
    repeat' split
    · exact (ih _).after ⟨rfl, rfl, rfl⟩
    · constructor <;> simp
    · exact (dispatchItem_sameSetup x it s).trans (ih _)
    · exact .refl s

theorem acceptCell_sameSetup (c : Cell) (s : State) : SameSetup s (acceptCell c s) :=
  SameSetup.trans (by constructor <;> simp) (dispatchItems_sameSetup _ _ (peerHeard c.sender c.superframe c.fresh s))

theorem adopt_sameSetup (c : Cell) (s : State) : SameSetup s (adopt c s) := by constructor <;> simp [adopt]

theorem reportMissed_sameSetup (cause : MissCause) (s : State) : SameSetup s (reportMissed cause s) := by
  unfold reportMissed
  split <;> constructor <;> simp

theorem validCell_sameSetup (c : Cell) (s : State) : SameSetup s (validCell c s) := by
  unfold validCell
  repeat' split
  · constructor <;> simp
  · exact ⟨rfl, rfl, rfl⟩
  · exact (acceptCell_sameSetup c _).after ⟨rfl, rfl, rfl⟩
  · exact (adopt_sameSetup c s).trans (acceptCell_sameSetup c _)
  · exact (reportMissed_sameSetup _ _).after ⟨rfl, rfl, rfl⟩

theorem damagedCell_sameSetup (s : State) : SameSetup s (damagedCell s) :=
  (reportMissed_sameSetup _ _).after ⟨rfl, rfl, rfl⟩

theorem takeCell_sameSetup (cl : CellClass) (s : State) : SameSetup s (takeCell cl s) := by
  unfold takeCell
  split
  · split
    · split
      · exact ⟨rfl, rfl, rfl⟩
      · exact .refl s
    · exact .refl s
  · split
    · split
      · exact reportMissed_sameSetup _ s
      · exact damagedCell_sameSetup s
      · split
        · exact validCell_sameSetup _ s
        · exact damagedCell_sameSetup s
    · exact .refl s

theorem cellEvent_sameSetup (line : OnLine CellWindow) (s : State) : SameSetup s (cellEvent line s) := by
  unfold cellEvent
  split
  · exact (takeCell_sameSetup _ _).after ⟨rfl, rfl, rfl⟩
  · exact .refl s

theorem strobe_sameSetup (p k : Nat) (bits : List Bool) (s : State) : SameSetup s (strobe p k bits s) := by
  constructor <;> simp

end Sys2Proof.Proofs
end

section
/-! The loader over a run: once the frame timer runs nothing but a cold reset changes it (R178, R181). -/

namespace Sys2Proof.Proofs

open Sys2Proof.Machine

/-! ### Judging an image -/

/-- The notice queue after a post (R185). -/
theorem notify_notices (n : Notice) (s : State) : (notify n s).mgmt.notices =
    if s.mgmt.notices.length < 16 then s.mgmt.notices ++ [n] else s.mgmt.notices := by
  rw [notify_mgmt]
  split <;> rfl

/-- The lost count after a post (R185). -/
theorem notify_lost (n : Notice) (s : State) : (notify n s).mgmt.lost =
    if s.mgmt.notices.length < 16 then s.mgmt.lost else bump s.mgmt.lost := by
  rw [notify_mgmt]
  split <;> rfl

@[simp] theorem notify_lmp (n : Notice) (s : State) : (notify n s).mgmt.lmp = s.mgmt.lmp := by
  rw [notify_mgmt]
  split <;> rfl

theorem rejectImage_rejectedAs (reason : FaultReason) (o : Origin) (s : State) :
    RejectedAs o reason s (rejectImage reason o s) := by
  exact ⟨rfl, rfl, notify_notices _ _, notify_lost _ _, rfl, rfl, rfl, rfl, rfl, rfl, rfl, rfl, rfl, rfl, rfl⟩

@[simp] theorem rejectImage_lmp (reason : FaultReason) (o : Origin) (s : State) :
    (rejectImage reason o s).mgmt.lmp = s.mgmt.lmp := by
  simp [rejectImage]

/-- What the first local frame start cannot touch (R156, R157). -/
@[simp] theorem firstFrameStart_frame (s : State) :
    (firstFrameStart s).pending = s.pending ∧ (firstFrameStart s).resetLow = s.resetLow ∧
    (firstFrameStart s).loader = s.loader ∧ (firstFrameStart s).sync = s.sync ∧ (firstFrameStart s).line = s.line ∧
    (firstFrameStart s).rx = s.rx ∧ (firstFrameStart s).tx = s.tx ∧ (firstFrameStart s).peers = s.peers ∧
    (firstFrameStart s).alloc = s.alloc ∧ (firstFrameStart s).req = s.req ∧ (firstFrameStart s).mgmt = s.mgmt := by
  unfold firstFrameStart
  refine forEach_inv (fun t : State => t.pending = s.pending ∧ t.resetLow = s.resetLow ∧ t.loader = s.loader ∧
    t.sync = s.sync ∧ t.line = s.line ∧ t.rx = s.rx ∧ t.tx = s.tx ∧ t.peers = s.peers ∧ t.alloc = s.alloc ∧
    t.req = s.req ∧ t.mgmt = s.mgmt) _ _ _ (by simp) ?_
  intro i t h
  split
  · simpa using h
  · exact h

/-- What acceptance leaves outside the ports, sources and sinks (R19, R181). -/
@[simp] theorem acceptImage_frame (o : Origin) (im : Image) (s : State) :
    (acceptImage o im s).pending = s.pending ∧ (acceptImage o im s).resetLow = s.resetLow ∧
    (acceptImage o im s).loader = ⟨.accepted, none, some o, some im, .released⟩ ∧
    (acceptImage o im s).sync = { s.sync.toListen with tick := 0, frameIndex := 0, superframe := 0 } ∧
    (acceptImage o im s).line = s.line ∧ (acceptImage o im s).rx = s.rx ∧ (acceptImage o im s).tx = s.tx ∧
    (acceptImage o im s).peers = s.peers.modify im.stationId Peer.toSelf ∧
    (acceptImage o im s).alloc = s.alloc ∧ (acceptImage o im s).req = s.req ∧
    (acceptImage o im s).mgmt = s.mgmt := by
  simp [acceptImage, configure, Loader.accept]

/-- A judged image: refused with the first reason, or accepted (R180, R181). -/
theorem judgeImage_cases (o : Origin) (bytes : List Byte) (s : State) :
    (∃ reason, validateImage bytes = some reason ∧ judgeImage o bytes s = (some reason, rejectImage reason o s)) ∨
    (validateImage bytes = none ∧ judgeImage o bytes s = (none, acceptImage o (readImage bytes) s)) := by
  unfold judgeImage
  cases v : validateImage bytes with
  | some reason => exact .inl ⟨reason, rfl, rfl⟩
  | none => exact .inr ⟨rfl, rfl⟩

/-- A LOAD_IMAGE whose image is judged, and one that is not (R181). -/
theorem judgeLoad_cases (bytes : List Byte) (s : State) :
    ((s.sync.state = .configWait ∨ s.sync.state = .configFault) ∧
      ((∃ reason, validateImage bytes = some reason ∧
        judgeLoad bytes s = respond .rejected (byte1 reason.code) (rejectImage reason .lmp s)) ∨
      (validateImage bytes = none ∧ judgeLoad bytes s = respond .accepted [] (acceptImage .lmp (readImage bytes) s)))) ∨
    (¬(s.sync.state = .configWait ∨ s.sync.state = .configFault) ∧ judgeLoad bytes s = respond .notNow [] s) := by
  unfold judgeLoad
  split
  case isTrue waits =>
    refine .inl ⟨waits, ?_⟩
    obtain ⟨reason, fails, judged⟩ | ⟨passes, judged⟩ := judgeImage_cases .lmp bytes s
    · exact .inl ⟨reason, fails, by rw [judged]⟩
    · exact .inr ⟨passes, by rw [judged]⟩
  case isFalse other => exact .inr ⟨other, rfl⟩

/-! ### Events and the setup -/

/-- The events that read or load a configuration image. -/
def Event.configures : Event → Bool
  | .bootStart _ | .bootLength _ | .bootComplete _ | .load _ => true
  | _ => false

theorem Event.run_sameSetup {e : Event} (other : e.configures = false) (s : State) : SameSetup s (e.run s) := by
  cases e with
  | bootStart | bootLength | bootComplete | load => cases other
  | respond => exact respond_sameSetup _ _ s
  | act => exact act_sameSetup _ _ s
  | relay => exact relayRequest_sameSetup _ _ _ s
  | relayResult => exact relayResult_sameSetup _ s
  | takeNotice => exact takeHead_sameSetup s
  | endTransaction => exact endTransaction_sameSetup _ s
  | frameStart => exact frameStartEvent_sameSetup _ s
  | report => exact reportEvent_sameSetup _ s
  | slotStart => exact slotStartEvent_sameSetup _ _ s
  | slotEnd => exact slotEndEvent_sameSetup _ _ s
  | build =>
    cases due : drivesOwnCell s with
    | true => rw [Event.run, whenDue_of _ due]; exact buildCell_sameSetup s
    | false => rw [Event.run, whenDue_not _ due]; exact .refl s
  | sent => exact sentEvent_sameSetup s
  | readback => exact readbackEvent_sameSetup _ s
  | cell => exact cellEvent_sameSetup _ s
  | strobe p =>
    cases due : takesStrobe p s with
    | true => rw [Event.run, whenDue_of _ due]; exact strobe_sameSetup _ _ _ s
    | false => rw [Event.run, whenDue_not _ due]; exact .refl s

/-- Every event leaves the waiting commands and RESET_N. -/
theorem Event.run_pending_resetLow (e : Event) (s : State) :
    (e.run s).pending = s.pending ∧ (e.run s).resetLow = s.resetLow := by
  cases e with
  | bootStart =>
    dsimp only [Event.run, Machine.bootStart]
    repeat' split
    all_goals exact ⟨rfl, rfl⟩
  | bootLength =>
    dsimp only [Event.run, Machine.bootLength]
    repeat' split
    all_goals exact ⟨rfl, rfl⟩
  | bootComplete rest =>
    dsimp only [Event.run, Machine.bootComplete]
    split
    · split
      · obtain ⟨_, -, judged⟩ | ⟨-, judged⟩ := judgeImage_cases .boot (bootImage ‹_› rest) s
        · rw [judged]; exact ⟨rfl, rfl⟩
        · rw [judged]; simp
      · exact ⟨rfl, rfl⟩
    · exact ⟨rfl, rfl⟩
  | load bytes =>
    dsimp only [Event.run, loadRequest]
    split
    · obtain ⟨-, ⟨_, -, judged⟩ | ⟨-, judged⟩⟩ | ⟨-, judged⟩ := judgeLoad_cases ‹_› s
      · rw [judged]; exact ⟨rfl, rfl⟩
      · rw [judged]; simp
      · rw [judged]; exact ⟨rfl, rfl⟩
    · exact ⟨rfl, rfl⟩
  | _ => exact ⟨(Event.run_sameSetup rfl s).pending, (Event.run_sameSetup rfl s).resetLow⟩

/-- Every command leaves the waiting commands (log entry 2). -/
theorem exec_pending {c : Instr} {s t : State} (next : exec c s = .next t) : t.pending = s.pending := by
  obtain rfl | ⟨-, rfl⟩ | ⟨-, rfl⟩ | ⟨-, e, rfl⟩ := exec_cases next
  · rfl
  · rfl
  · unfold releaseReset; split <;> rfl
  · exact (e.run_pending_resetLow s).1

/-- A row that is an event on its occasion answers that event or nothing (log entry 1). -/
theorem whenDue_event_or_nothing (due : State → Bool) (f : State → State) (s : State) :
    underReset (whenDue due f) s = underReset f s ∨ underReset (whenDue due f) s = .next s := by
  cases isDue : due s with
  | true => left; simp [underReset, whenDue, isDue]
  | false => right; simp [underReset, whenDue, isDue]

/-- Settles O2: every command is an event or nothing, and no event touches the waiting commands. -/
theorem everyCommandAnswersANextState : Obligations.EveryCommandAnswersANextState := by
  constructor
  · intro c s
    obtain ⟨t, next⟩ := exec_total c s
    exact ⟨t, next, exec_pending next⟩
  · intro s sh l n w v p listed
    simp only [List.mem_cons, List.not_mem_nil, or_false] at listed
    rcases listed with rfl | rfl | rfl | rfl | rfl | rfl | rfl | rfl | rfl | rfl | rfl | rfl | rfl | rfl | rfl | rfl |
      rfl | rfl | rfl <;> exact whenDue_event_or_nothing _ _ s

/-! ### The configuration states -/

theorem doAction_state_of_stopped (a : Action) (n : Nat) {s : State} (stopped : s.sync.state.timerRuns = false) :
    (doAction a n s).2.sync.state = s.sync.state := by
  cases a with
  | muteSource | unmuteSource | muteSink | unmuteSink => unfold doAction; dsimp only; split <;> rfl
  | reseekSource =>
    unfold doAction reseek
    dsimp only
    repeat' split
    all_goals simp
  | clearCounters => rfl
  | restart =>
    unfold doAction restart
    cases st : s.sync.state <;> simp_all [SyncState.timerRuns]

theorem cellSent_state_of_stopped (b : Built) {s : State} (stopped : s.sync.state.timerRuns = false) :
    (cellSent b s).sync.state = s.sync.state := by
  unfold cellSent
  dsimp only
  refine foldl_inv (fun t : State => t.sync.state = s.sync.state) _ _ _ (by split <;> rfl) ?_
  intro t p same
  have notLeaving : t.sync.state ≠ .leaving := by
    intro h
    rw [← same, h] at stopped
    cases stopped
  unfold itemSent
  split
  case h_7 => rw [if_neg notLeaving, same]
  all_goals simp [same]

/-- With the frame timer stopped no event but those of the configuration moves the sync state (R1, R36). -/
theorem Event.run_state_of_stopped {e : Event} (other : e.configures = false) {s : State}
    (stopped : s.sync.state.timerRuns = false) : (e.run s).sync.state = s.sync.state := by
  have silent : s.sync.state.drives = false := by
    cases st : s.sync.state <;> simp_all [SyncState.timerRuns, SyncState.drives]
  cases e with
  | bootStart | bootLength | bootComplete | load => cases other
  | respond => rfl
  | act a i =>
    dsimp only [Event.run, Machine.act]
    split
    · rfl
    · simpa using doAction_state_of_stopped a i.toNat stopped
  | relay x code i =>
    dsimp only [Event.run, relayRequest, askRelay, acceptRelay]
    repeat' split
    all_goals simp
  | relayResult h =>
    dsimp only [Event.run, Machine.relayResult]
    repeat' split
    all_goals simp
  | takeNotice =>
    dsimp only [Event.run, takeHead]
    split <;> simp
  | endTransaction => simp [Event.run]
  | frameStart => simp [Event.run, frameStartEvent, stopped]
  | report => simp [Event.run, reportEvent, reportDue, stopped]
  | slotStart => simp [Event.run, slotStartEvent, stopped]
  | slotEnd => simp [Event.run, slotEndEvent, stopped]
  | build => simp [Event.run, whenDue, drivesOwnCell, silent]
  | sent =>
    dsimp only [Event.run, sentEvent]
    split
    · exact cellSent_state_of_stopped _ stopped
    · rfl
  | readback line =>
    have unused : countsMismatch s = false := by
      cases st : s.sync.state <;> simp_all [SyncState.timerRuns, countsMismatch]
    dsimp only [Event.run, readbackEvent]
    split
    · simp [cellReadback, countsMismatch] at unused ⊢
      simp [unused]
    · rfl
  | cell => simp [Event.run, cellEvent, stopped]
  | strobe p k bits => simp [Event.run, whenDue, takesStrobe, stopped]

/-! ### The boot and the state of the loader -/

theorem timerRuns_eq_false_of_configLoad {s : State} (h : s.sync.state = .configLoad) :
    s.sync.state.timerRuns = false := by simp [h, SyncState.timerRuns]

/-- Every event keeps the boot read and a low RESET_N states of CONFIG_LOAD (R178, R179). -/
theorem Event.run_bootOk (e : Event) {s : State} (high : s.resetLow = false) (ok : BootOk s) : BootOk (e.run s) := by
  obtain ⟨boot, -⟩ := ok
  have stillHigh : (e.run s).resetLow = false := (e.run_pending_resetLow s).2.trans high
  refine ⟨?_, fun low => absurd (low.symm.trans stillHigh) (by decide)⟩
  cases e with
  | bootStart b =>
    dsimp only [Event.run, Machine.bootStart]
    repeat' split
    · intro _; exact boot (by simp_all)
    · intro h; exact absurd rfl h
    · exact boot
  | bootLength b =>
    dsimp only [Event.run, Machine.bootLength]
    repeat' split
    · intro _; exact boot (by simp_all)
    · intro h; exact absurd rfl h
    · exact boot
  | bootComplete rest =>
    dsimp only [Event.run, Machine.bootComplete]
    split
    · split
      · obtain ⟨_, -, judged⟩ | ⟨-, judged⟩ := judgeImage_cases .boot (bootImage ‹_› rest) s
        · rw [judged]; intro h; exact absurd rfl h
        · rw [judged]; intro h; simp at h
      · exact boot
    · exact boot
  | load bytes =>
    dsimp only [Event.run, loadRequest]
    split
    · obtain ⟨-, ⟨_, -, judged⟩ | ⟨-, judged⟩⟩ | ⟨-, judged⟩ := judgeLoad_cases ‹_› s
      · rw [judged]; intro h; exact absurd rfl h
      · rw [judged]; intro h; simp at h
      · rw [judged]; exact boot
    · exact boot
  | _ =>
    intro reading
    rw [(Event.run_sameSetup rfl s).loader] at reading
    have load := boot reading
    exact (Event.run_state_of_stopped rfl (timerRuns_eq_false_of_configLoad load)).trans load

theorem coldReset_bootOk (s : State) : BootOk (coldReset s) := ⟨fun _ => rfl, fun _ => rfl⟩

theorem releaseReset_bootOk {s : State} (ok : BootOk s) : BootOk (releaseReset s) := by
  unfold releaseReset
  split
  case isTrue low => exact ⟨fun _ => ok.2 low, fun _ => ok.2 low⟩
  case isFalse => exact ok

/-- While the timer runs the boot is over, RESET_N is high, and no event touches the loader (R178, R181). -/
theorem Event.run_loader_of_running (e : Event) {s : State} (ok : BootOk s) (runs : s.sync.state.timerRuns = true) :
    (e.run s).loader = s.loader := by
  have released : s.loader.boot = .released := by
    by_contra reading
    rw [ok.1 reading] at runs
    cases runs
  cases e with
  | bootStart => simp [Event.run, Machine.bootStart, released]
  | bootLength => simp [Event.run, Machine.bootLength, released]
  | bootComplete => simp [Event.run, Machine.bootComplete, released]
  | load bytes =>
    dsimp only [Event.run, loadRequest]
    split
    · obtain ⟨config, -⟩ | ⟨-, judged⟩ := judgeLoad_cases ‹_› s
      · rcases config with h | h <;> rw [h] at runs <;> cases runs
      · rw [judged]; rfl
    · rfl
  | _ => exact (Event.run_sameSetup rfl s).loader

/-- Settles O9: a running timer excludes the boot read and a low RESET_N, and LOAD_IMAGE answers NOT_NOW. -/
theorem configurationStandsUntilColdReset : Obligations.ConfigurationStandsUntilColdReset := by
  intro c s t ok runs notCold next
  obtain rfl | ⟨cold, -⟩ | ⟨-, rfl⟩ | ⟨-, e, rfl⟩ := exec_cases next
  · rfl
  · exact absurd cold notCold
  · unfold releaseReset
    split
    case isTrue low => rw [ok.2 low] at runs; cases runs
    case isFalse => rfl
  · exact e.run_loader_of_running ok runs

/-! ### The first two bytes -/

/-- Settles O6: the rows of the start byte and of the length byte, a bad length being a refused image. -/
theorem bootStartAndLengthBytesDecide : Obligations.BootStartAndLengthBytesDecide := by
  intro b s high
  refine ⟨fun start hit => ?_, fun start miss => ?_, fun reading inRange => ?_, fun reading outOfRange => ?_⟩
  · show underReset _ s = _
    rw [underReset_high _ high]
    simp [Machine.bootStart, start, startValue, hit, State.modLoader]
  · show underReset _ s = _
    rw [underReset_high _ high]
    simp [Machine.bootStart, start, startValue, miss, State.modLoader, State.modSync]
  · show underReset _ s = _
    rw [underReset_high _ high]
    simp [Machine.bootLength, reading, lengthInRange, inRange, State.modLoader]
  · have refused : lengthInRange b.toNat = false := by
      unfold lengthInRange
      rcases outOfRange with h | h <;> simp <;> omega
    refine ⟨rejectImage .badLength .boot s, ?_, rejectImage_rejectedAs _ _ s, rejectImage_lmp _ _ s⟩
    show underReset _ s = _
    rw [underReset_high _ high]
    simp [Machine.bootLength, reading, refused]

end Sys2Proof.Proofs
end

section
/-! What the operations on one member of a table do, and what a loop over every sink does. -/

namespace Sys2Proof.Proofs

open Sys2Proof.Machine

/-! ### One member of a list -/

theorem set_same {α : Type} {l : List α} {n : Nat} {c : α} (h : l[n]? = some c) : l.set n c = l := by
  obtain ⟨inRange, rfl⟩ := List.getElem?_eq_some_iff.mp h
  exact List.set_getElem_self inRange

theorem modify_of_getElem? {α : Type} {l : List α} {n : Nat} {c : α} (f : α → α) (h : l[n]? = some c) :
    l.modify n f = l.set n (f c) := by
  simp [List.modify_eq_set_getElem?, h]

theorem modify_of_none {α : Type} {l : List α} {n : Nat} (f : α → α) (h : l[n]? = none) : l.modify n f = l :=
  List.modify_eq_self (List.getElem?_eq_none_iff.mp h)

theorem set_getElem?_self {α : Type} {l : List α} {n : Nat} {c d : α} (h : l[n]? = some c) :
    (l.set n d)[n]? = some d := by
  obtain ⟨inRange, -⟩ := List.getElem?_eq_some_iff.mp h
  simp [inRange]

theorem modify_getElem?_self {α : Type} {l : List α} {n : Nat} {c : α} (f : α → α) (h : l[n]? = some c) :
    (l.modify n f)[n]? = some (f c) := by
  simp [h]

theorem modify_getElem?_ne {α : Type} {l : List α} {n m : Nat} (f : α → α) (h : n ≠ m) :
    (l.modify n f)[m]? = l[m]? := by
  simp [h]

/-- A property of every member is kept if the changed member has it. -/
theorem forall_mem_modify {α : Type} {P : α → Prop} {l : List α} {n : Nat} {f : α → α} (all : ∀ c ∈ l, P c)
    (changed : ∀ c, P c → P (f c)) : ∀ c ∈ l.modify n f, P c := by
  intro c mem
  obtain ⟨m, at_m⟩ := List.getElem?_of_mem mem
  rw [List.getElem?_modify] at at_m
  cases old : l[m]? with
  | none => simp [old] at at_m
  | some d =>
    have ok := all d (List.mem_of_getElem? old)
    simp only [old, Option.map_eq_map, Option.map_some, Option.some.injEq] at at_m
    split at at_m
    · exact at_m ▸ changed d ok
    · exact at_m ▸ ok

/-- A quantity the change keeps is the same over the whole list. -/
theorem map_modify_of_eq {α β : Type} {g : α → β} {f : α → α} (l : List α) (n : Nat) (same : ∀ c, g (f c) = g c) :
    (l.modify n f).map g = l.map g := by
  apply List.ext_getElem?
  intro m
  rw [List.getElem?_map, List.getElem?_map, List.getElem?_modify]
  cases l[m]? with
  | none => rfl
  | some c => by_cases h : n = m <;> simp [h, same]

/-! ### Loops over the sinks -/

/-- A loop whose round `n` changes sink `n` alone changes every sink below its bound. -/
theorem forEach_sinks {f : Nat → State → State} {G : Sink → Sink}
    (round : ∀ n t, (f n t).sinks = t.sinks.modify n G) (k : Nat) (s : State) (n : Nat) :
    (forEach k f s).sinks[n]? = if n < k then (s.sinks[n]?).map G else s.sinks[n]? := by
  induction k with
  | zero => simp
  | succ k ih =>
    rw [forEach_succ, round, List.getElem?_modify, ih]
    by_cases here : k = n
    · subst here; simp
    · have later : n < k + 1 ↔ n < k := by omega
      simp [here, later]

/-- The loop over every sink. -/
theorem forEach_sinks_map {f : Nat → State → State} {G : Sink → Sink}
    (round : ∀ n t, (f n t).sinks = t.sinks.modify n G) (s : State) :
    (forEach s.sinks.length f s).sinks = s.sinks.map G := by
  apply List.ext_getElem?
  intro n
  rw [forEach_sinks round, List.getElem?_map]
  by_cases h : n < s.sinks.length
  · simp [h]
  · simp [List.getElem?_eq_none (Nat.le_of_not_lt h)]

/-! ### What a directory signal makes of a sink (R138, R139) -/

/-- A sink evaluated against an entry. -/
def sinkEvaluated (e : DirEntry) (c : Sink) : Sink :=
  if e.active then
    if e.count = c.cfg.channels then c.bind e else { c with state := .mismatch, run := none }
  else c

/-- A sink after the signal of its tag's change. -/
def sinkSignalled (ch : Change) (c : Sink) : Sink :=
  match ch with
  | .created e => if c.state = .unbound then sinkEvaluated e c else c
  | .activated e => if c.state = .unbound then sinkEvaluated e c else c
  | .replaced e => sinkEvaluated e c.unbind
  | .removed => c.unbind

/-- A sink after an action that turns the directory `before` into `after`. -/
def sinkAfter (before after : List DirEntry) (c : Sink) : Sink :=
  match changeOf (findTag c.cfg.tag before) (findTag c.cfg.tag after) with
  | some ch => sinkSignalled ch c
  | none => c

@[simp] theorem unbind_cfg (c : Sink) : c.unbind.cfg = c.cfg := rfl

theorem evaluateSink_sinks {n : Nat} {c d : Sink} {s : State} (e : DirEntry) (here : s.sinks[n]? = some d)
    (same : c.cfg = d.cfg) : (evaluateSink n c e s).sinks = s.sinks.set n (sinkEvaluated e d) := by
  have idle : s.sinks.set n d = s.sinks := set_same here
  unfold evaluateSink sinkEvaluated
  rw [same]
  split
  · split <;> simp [modify_of_getElem? _ here]
  · exact idle.symm

theorem signalSink_sinks {n : Nat} {c : Sink} {s : State} (ch : Change) (here : s.sinks[n]? = some c) :
    (signalSink n c ch s).sinks = s.sinks.set n (sinkSignalled ch c) := by
  have idle : s.sinks.set n c = s.sinks := set_same here
  have unbound : (s.modSink n Sink.unbind).sinks = s.sinks.set n c.unbind := modify_of_getElem? _ here
  have unboundHere : (s.modSink n Sink.unbind).sinks[n]? = some c.unbind := modify_getElem?_self _ here
  have evaluated (e : DirEntry) :
      (evaluateSink n c e (s.modSink n Sink.unbind)).sinks = s.sinks.set n (sinkEvaluated e c.unbind) := by
    rw [evaluateSink_sinks (c := c) e unboundHere rfl, unbound, List.set_set]
  cases ch with
  | created e | activated e =>
    dsimp only [signalSink, sinkSignalled]
    split
    · exact evaluateSink_sinks e here rfl
    · exact idle.symm
  | replaced e =>
    dsimp only [signalSink, sinkSignalled]
    split
    · exact evaluated e
    case isFalse inactive =>
      have plain : sinkEvaluated e c.unbind = c.unbind := by simp [sinkEvaluated, inactive]
      rw [plain]
      split <;> simpa using unbound
  | removed =>
    dsimp only [signalSink, sinkSignalled]
    split <;> simpa using unbound

/-- An action changes every sink by the net change of its tag's entry (R108, R109). -/
theorem deliverSignals_sinks (before after : List DirEntry) (s : State) :
    (deliverSignals before after s).sinks = s.sinks.map (sinkAfter before after) := by
  refine forEach_sinks_map (fun n t => ?_) s
  cases here : t.sinks[n]? with
  | none => rw [modify_of_none _ here]
  | some c =>
    rw [modify_of_getElem? _ here]
    unfold sinkAfter
    dsimp only
    cases changeOf (findTag c.cfg.tag before) (findTag c.cfg.tag after) with
    | some ch => exact signalSink_sinks _ here
    | none => exact (set_same here).symm

theorem action_sinks (f : State → State) (s : State) :
    (action f s).sinks = (f s).sinks.map (sinkAfter s.alloc.dir (f s).alloc.dir) :=
  deliverSignals_sinks _ _ _

/-! ### What a captured slot makes of a sink (R140 to R144) -/

/-- The counters with a gap counted, if the capture is one (R141). -/
def gapCounted (marks : List Mark) (k : SinkCounters) : SinkCounters :=
  if isGap marks then { k with gaps := bump k.gaps } else k

/-- A sink with a capture pushed (R142, R145). -/
def sinkPushed (marks : List Mark) (c : Sink) : Sink :=
  let q := pushCapped 16 marks c.queue
  let k := if c.queue.length < 16 then c.counters else { c.counters with overflows := bump c.counters.overflows }
  if c.state = .filling ∧ c.cfg.target ≤ q.length then
    { c with queue := q, counters := k, state := .running, slipGuard := 0, lastOutput := none }
  else { c with queue := q, counters := k }

/-- A sink after a completed capture (R141, R143, R144). -/
def sinkCompleted (marks : List Mark) (c : Sink) : Sink :=
  let k := gapCounted marks c.counters
  match c.state with
  | .filling | .running =>
    if allSilent marks then
      if c.silentRun + 1 < 64 then
        sinkPushed marks { c with silentRun := c.silentRun + 1, counters := { c.counters with gaps := bump c.counters.gaps } }
      else
        { c with state := .starved, silentRun := 64, queue := [], lastOutput := none,
                 counters := { c.counters with gaps := bump c.counters.gaps } }
    else sinkPushed marks { c with silentRun := 0, counters := k }
  | .starved =>
    if allSilent marks then c
    else { c with state := .filling, queue := [marks], silentRun := 0, slipGuard := 0,
                  lastGood := zeroFrame c.cfg.channels, counters := k }
  | .unbound | .mismatch => c

/-- A sink after a classified data slot (R140, R141). -/
def sinkCaptured (slot : Nat) (m : Mark) (c : Sink) : Sink :=
  match c.run with
  | some r =>
    if inRun r.first r.count slot then
      match extendCapture (slot - r.first) m c.capture with
      | some ms => if ms.length = r.count then sinkCompleted ms { c with capture := none } else { c with capture := some ms }
      | none => { c with capture := none }
    else c
  | none => c

theorem notifySink_sinks (n : Nat) (c : Sink) (e : SinkEvent) (s : State) : (notifySink n c e s).sinks = s.sinks := by
  simp

theorem modSink_sinks_of {n : Nat} {c : Sink} {s : State} (f : Sink → Sink) (here : s.sinks[n]? = some c) :
    (s.modSink n f).sinks = s.sinks.set n (f c) := modify_of_getElem? f here

theorem modSink_at {n : Nat} {c : Sink} {s : State} (f : Sink → Sink) (here : s.sinks[n]? = some c) :
    (s.modSink n f).sinks[n]? = some (f c) := modify_getElem?_self f here

/-- Pushing a capture, told by the context the sink has; `c` is the one it had when the capture began to complete. -/
theorem pushSink_sinks {n : Nat} {c d : Sink} {s : State} (marks : List Mark) (here : s.sinks[n]? = some d)
    (state : c.state = d.state) (cfg : c.cfg = d.cfg) (queue : c.queue = d.queue) :
    (pushSink n c marks s).sinks = s.sinks.set n (sinkPushed marks d) := by
  unfold pushSink sinkPushed countSink
  rw [state, cfg, queue]
  by_cases room : d.queue.length < 16 <;>
    by_cases ripe : d.state = .filling ∧ d.cfg.target ≤ (pushCapped 16 marks d.queue).length <;>
    simp [room, ripe, modify_of_getElem? _ here, modify_of_getElem? _ (set_getElem?_self here)]

theorem completeCapture_sinks {n : Nat} {c d : Sink} {s : State} (marks : List Mark) (here : s.sinks[n]? = some d)
    (same : d = { c with capture := d.capture }) :
    (completeCapture n c marks s).sinks = s.sinks.set n (sinkCompleted marks d) := by
  have idle : s.sinks.set n d = s.sinks := set_same here
  obtain ⟨state, cfg, queue, silentRun⟩ :
      c.state = d.state ∧ c.cfg = d.cfg ∧ c.queue = d.queue ∧ c.silentRun = d.silentRun := by
    rw [same]; exact ⟨rfl, rfl, rfl, rfl⟩
  have gap : (countGap n s).sinks[n]? = some { d with counters := { d.counters with gaps := bump d.counters.gaps } } :=
    modSink_at _ here
  have gapSet : (countGap n s).sinks = s.sinks.set n { d with counters := { d.counters with gaps := bump d.counters.gaps } } :=
    modSink_sinks_of _ here
  have counted : (if isGap marks then countGap n s else s).sinks[n]? =
      some { d with counters := gapCounted marks d.counters } := by
    unfold gapCounted
    split
    · exact gap
    · exact here
  have countedSet : (if isGap marks then countGap n s else s).sinks =
      s.sinks.set n { d with counters := gapCounted marks d.counters } := by
    unfold gapCounted
    split
    · exact gapSet
    · exact idle.symm
  unfold completeCapture sinkCompleted
  rw [state]
  cases st : d.state with
  | filling | running =>
    dsimp only
    split
    · rw [silentRun]
      split
      · rw [pushSink_sinks marks (modSink_at _ gap) state cfg queue, modSink_sinks_of _ gap, gapSet, List.set_set,
          List.set_set]
        simp only [st]
      · rw [notifySink_sinks, modSink_sinks_of _ gap, gapSet, List.set_set]
    · rw [pushSink_sinks marks (modSink_at _ counted) state cfg queue, modSink_sinks_of _ counted, countedSet,
        List.set_set, List.set_set]
      simp only [st]
  | starved =>
    dsimp only
    split
    · exact idle.symm
    · rw [notifySink_sinks, modSink_sinks_of _ counted, countedSet, List.set_set]
  | unbound | mismatch => exact idle.symm

/-- A classified data slot changes sink `n` alone (R140). -/
theorem captureSlot_sinks (slot : Nat) (m : Mark) (n : Nat) (s : State) :
    (captureSlot slot m n s).sinks = s.sinks.modify n (sinkCaptured slot m) := by
  cases here : s.sinks[n]? with
  | none => simp [captureSlot, here, modify_of_none]
  | some c =>
    have idle : s.sinks.set n c = s.sinks := set_same here
    rw [modify_of_getElem? _ here]
    unfold captureSlot sinkCaptured
    simp only [here]
    cases bound : c.run with
    | none => exact idle.symm
    | some r =>
      dsimp only
      split
      · cases taken : extendCapture (slot - r.first) m c.capture with
        | none => simp only [modSink_sinks_of _ here, bound]
        | some ms =>
          dsimp only
          split
          · rw [completeCapture_sinks ms (modSink_at _ here) rfl, modSink_sinks_of _ here, List.set_set]
            simp only [bound]
          · simp only [modSink_sinks_of _ here, bound]
      · exact idle.symm

/-- A received data slot changes every sink by its own capture (R140). -/
theorem slotClassified_sinks (k : Nat) (cl : SlotClass) (s : State) :
    (slotClassified k cl s).sinks = s.sinks.map (sinkCaptured k (markOf (sinkClass k cl s))) := by
  unfold slotClassified
  dsimp only
  have before : ((slotReadback k cl (countCarrier k cl (atTick (slotLastTick k s) s))).modLine
      (fun l => { l with drive := .nothing })).sinks = s.sinks := by simp
  conv_lhs => rw [← before]
  rw [forEach_sinks_map (captureSlot_sinks k _), before]

/-! ### Playing out (R145 to R148) -/

/-- A sink after a port frame of port `p` (R145). -/
def sinkPlayed (p : Nat) (bridge : Bool) (c : Sink) : Sink :=
  if c.cfg.port = p ∧ c.state = .running then c.play bridge else c

theorem playSink_sinks (p : Nat) (bridge : Bool) (n : Nat) (s : State) :
    (playSink p bridge n s).sinks = s.sinks.modify n (sinkPlayed p bridge) := by
  cases here : s.sinks[n]? with
  | none => simp [playSink, here, modify_of_none]
  | some c =>
    have idle : s.sinks.set n c = s.sinks := set_same here
    rw [modify_of_getElem? _ here]
    unfold playSink sinkPlayed
    rw [here]
    by_cases port : c.cfg.port = p <;> by_cases running : c.state = .running <;>
      simp [port, running, modify_of_getElem? _ here, idle]

/-- A port frame of an OUT port plays each of its RUNNING sinks (R145, R160). -/
theorem fillLanes_sinks (p : Nat) (bridge : Bool) (s : State) :
    (fillLanes p bridge s).sinks = s.sinks.map (sinkPlayed p bridge) :=
  forEach_sinks_map (playSink_sinks p bridge) (s.modPort p (fun q => { q with lanesOut := zeroFrame 8 }))

end Sys2Proof.Proofs
end

section
/-! The relay table: request numbers of open entries, and the number a new relay takes (R164, R170). -/

namespace Sys2Proof.Proofs

open Sys2Proof.Machine

/-- The number an entry carries while it is open (R170). -/
def openNumber (e : Option Relay) : Option Nat :=
  match e with
  | some r => if r.isOpen then some r.reqNo else none
  | none => none

theorem openNumbers_eq (table : List (Option Relay)) : openNumbers table = table.filterMap openNumber := rfl

theorem relay_eq_some_iff {s : State} {h : Nat} {r : Relay} : s.relay h = some r ↔ s.req.table[h]? = some (some r) := by
  unfold State.relay
  cases s.req.table[h]? <;> simp

theorem split_at_getElem? {α : Type} {l : List α} {n : Nat} {a : α} (h : l[n]? = some a) (b : α) :
    l = l.take n ++ a :: l.drop (n + 1) ∧ l.set n b = l.take n ++ b :: l.drop (n + 1) := by
  obtain ⟨inRange, rfl⟩ := List.getElem?_eq_some_iff.mp h
  exact ⟨by simp, List.set_eq_take_cons_drop b inRange⟩

/-- An entry that carries its old number or none adds no open number. -/
theorem openNumbers_set_sublist {table : List (Option Relay)} {h : Nat} {old new : Option Relay}
    (here : table[h]? = some old) (number : openNumber new = none ∨ openNumber new = openNumber old) :
    (openNumbers (table.set h new)).Sublist (openNumbers table) := by
  obtain ⟨whole, changed⟩ := split_at_getElem? here new
  rw [openNumbers_eq, openNumbers_eq, changed]
  conv_rhs => rw [whole]
  simp only [List.filterMap_append]
  refine List.Sublist.append_left ?_ _
  rcases number with nothing | same
  · rw [List.filterMap_cons_none nothing]
    cases number : openNumber old with
    | none => rw [List.filterMap_cons_none number]
    | some n => rw [List.filterMap_cons_some number]; exact List.sublist_cons_self _ _
  · simp only [List.filterMap_cons, same]
    exact .refl _

/-- An entry put at a free handle adds its number. -/
theorem openNumbers_set_perm {table : List (Option Relay)} {h : Nat} {old : Option Relay} {r : Relay}
    (here : table[h]? = some old) (free : openNumber old = none) (isOpen : r.isOpen = true) :
    (openNumbers (table.set h (some r))).Perm (r.reqNo :: openNumbers table) := by
  obtain ⟨whole, changed⟩ := split_at_getElem? here (some r)
  have number : openNumber (some r) = some r.reqNo := by simp [openNumber, isOpen]
  rw [openNumbers_eq, openNumbers_eq, changed]
  conv_rhs => rw [whole]
  simp only [List.filterMap_append, List.filterMap_cons, number, free]
  exact List.perm_middle

theorem numberInUse_iff (table : List (Option Relay)) (n : Nat) : numberInUse table n = true ↔ n ∈ openNumbers table := by
  simp only [numberInUse, List.any_eq_true, openNumbers_eq, List.mem_filterMap]
  refine exists_congr fun e => and_congr_right fun _ => ?_
  cases e with
  | none => simp [openNumber]
  | some r => cases isOpen : r.isOpen <;> simp [openNumber, isOpen]

/-- The search finds the first number not in use, or all it looked at are in use. -/
theorem freeNumber_cases (table : List (Option Relay)) (fuel n : Nat) (low : n < 256) :
    (∃ j, j < fuel ∧ freeNumber table fuel n = (n + j) % 256 ∧ (n + j) % 256 ∉ openNumbers table ∧
      ∀ i, i < j → (n + i) % 256 ∈ openNumbers table) ∨
    ∀ i, i < fuel → (n + i) % 256 ∈ openNumbers table := by
  induction fuel generalizing n with
  | zero => exact .inr fun i h => absurd h (Nat.not_lt_zero i)
  | succ fuel ih =>
    have self : n % 256 = n := Nat.mod_eq_of_lt low
    have next (i : Nat) : ((n + 1) % 256 + i) % 256 = (n + (i + 1)) % 256 := by omega
    by_cases used : numberInUse table n = true
    · have here : (n + 0) % 256 ∈ openNumbers table := by rw [Nat.add_zero, self]; exact (numberInUse_iff _ _).mp used
      have shift (k : Nat) (later : ∀ i, i < k → ((n + 1) % 256 + i) % 256 ∈ openNumbers table) :
          ∀ i, i < k + 1 → (n + i) % 256 ∈ openNumbers table := by
        intro i h
        cases i with
        | zero => exact here
        | succ i => rw [← next]; exact later i (by omega)
      rw [freeNumber, if_pos used]
      obtain ⟨j, bound, found, fresh, before⟩ | all := ih ((n + 1) % 256) (Nat.mod_lt _ (by omega))
      · rw [next] at found fresh
        exact .inl ⟨j + 1, by omega, found, fresh, shift j before⟩
      · exact .inr (shift fuel all)
    · rw [freeNumber, if_neg used]
      exact .inl ⟨0, by omega, self.symm, by rw [Nat.add_zero, self]; exact fun h => used ((numberInUse_iff _ _).mpr h),
        fun i h => absurd h (Nat.not_lt_zero i)⟩

/-- With at most three open entries one of the four numbers looked at is free (R164, R170). -/
theorem freeNumber_spec (table : List (Option Relay)) (n : Nat) (room : (openNumbers table).length ≤ 3) (low : n < 256) :
    ∃ j, j ≤ 3 ∧ freeNumber table 4 n = (n + j) % 256 ∧ (n + j) % 256 ∉ openNumbers table ∧
      ∀ i, i < j → (n + i) % 256 ∈ openNumbers table := by
  obtain ⟨j, bound, found⟩ | all := freeNumber_cases table 4 n low
  · exact ⟨j, by omega, found⟩
  · have distinct : ((List.range 4).map (fun i => (n + i) % 256)).Nodup := by
      refine List.Nodup.map_on (fun i hi j hj same => ?_) List.nodup_range
      rw [List.mem_range] at hi hj
      omega
    have inside : ((List.range 4).map (fun i => (n + i) % 256)) ⊆ openNumbers table := by
      intro x mem
      obtain ⟨i, low, rfl⟩ := List.mem_map.mp mem
      exact all i (List.mem_range.mp low)
    have many := (distinct.subperm inside).length_le
    simp at many
    omega

/-- A table of four positions with a free one has at most three open entries. -/
theorem openNumbers_length_of_free {table : List (Option Relay)} {h : Nat} (four : table.length = 4)
    (free : table[h]? = some none) : (openNumbers table).length ≤ 3 := by
  obtain ⟨whole, -⟩ := split_at_getElem? free none
  have front := List.length_filterMap_le openNumber (table.take h)
  have back := List.length_filterMap_le openNumber (table.drop (h + 1))
  have parts := congrArg List.length whole
  have numbers : openNumbers table = (table.take h).filterMap openNumber ++ (table.drop (h + 1)).filterMap openNumber := by
    rw [openNumbers_eq]
    conv_lhs => rw [whole]
    rw [List.filterMap_append, List.filterMap_cons_none rfl]
  rw [numbers, List.length_append]
  simp only [List.length_append, List.length_cons] at parts
  omega

theorem freeHandle_eq_some {s : State} {h : Nat} (free : freeHandle s = some h) : s.req.table[h]? = some none := by
  obtain ⟨inRange, isNone, -⟩ := List.findIdx?_eq_some_iff_getElem.mp free
  rw [List.getElem?_eq_getElem inRange]
  exact congrArg some (Option.isNone_iff_eq_none.mp isNone)

end Sys2Proof.Proofs
end

section
/-! The ranges of every table, operation by operation: notices, relays, slots, sources, sinks and the outgoing queue. -/

namespace Sys2Proof.Proofs

open Sys2Proof.Machine

/-! ### The relation -/

/-- The tables in their ranges before are in their ranges after. -/
structure KeepsTables (s t : State) : Prop where
  notices : NoticesOk s → NoticesOk t
  relays : RelaysOk s → RelaysOk t
  slots : SlotsOk s → SlotsOk t
  sources : SourcesOk s → SourcesOk t
  sinks : SinksOk s → SinksOk t

/-- The same of the tables and of the outgoing queue, whose range hangs on the sync state. -/
structure Keeps (s t : State) : Prop extends KeepsTables s t where
  queue : QueueOk s → QueueOk t

namespace KeepsTables

theorem refl (s : State) : KeepsTables s s := ⟨id, id, id, id, id⟩

theorem trans {s t u : State} (h : KeepsTables s t) (k : KeepsTables t u) : KeepsTables s u :=
  ⟨k.notices ∘ h.notices, k.relays ∘ h.relays, k.slots ∘ h.slots, k.sources ∘ h.sources, k.sinks ∘ h.sinks⟩

end KeepsTables

namespace Keeps

theorem refl (s : State) : Keeps s s := ⟨.refl s, id⟩

theorem trans {s t u : State} (h : Keeps s t) (k : Keeps t u) : Keeps s u :=
  ⟨h.toKeepsTables.trans k.toKeepsTables, k.queue ∘ h.queue⟩

/-- What comes after a change that keeps the ranges. -/
theorem after {s t u : State} (k : Keeps t u) (h : Keeps s t) : Keeps s u := h.trans k

theorem foldl {α : Type} {f : State → α → State} (l : List α) (s : State) (round : ∀ t x, Keeps t (f t x)) :
    Keeps s (l.foldl f s) :=
  foldl_inv (Keeps s) f l s (refl s) (fun t x h => h.trans (round t x))

theorem forEach {f : Nat → State → State} (n : Nat) (s : State) (round : ∀ i t, Keeps t (f i t)) :
    Keeps s (Machine.forEach n f s) :=
  foldl _ s (fun t i => round i t)

/-- A change of the other blocks: loader, line, cell receiver, peers, ports, and the sync controller within its state. -/
theorem elsewhere {s t : State} (mgmt : t.mgmt = s.mgmt) (req : t.req = s.req) (alloc : t.alloc = s.alloc)
    (sources : t.sources = s.sources) (sinks : t.sinks = s.sinks) (tx : t.tx = s.tx)
    (state : t.sync.state = s.sync.state) : Keeps s t := by
  refine ⟨⟨?_, ?_, ?_, ?_, ?_⟩, ?_⟩
  · exact fun h => by simpa only [NoticesOk, mgmt] using h
  · exact fun h => by simpa only [RelaysOk, req] using h
  · exact fun h => by simpa only [SlotsOk, alloc] using h
  · exact fun h => by simpa only [SourcesOk, sources] using h
  · exact fun h => by simpa only [SinksOk, sinks] using h
  · exact fun h => by simpa only [QueueOk, tx, state] using h

end Keeps

/-! ### One block at a time -/

theorem notify_noticesOk (n : Notice) {s : State} (ok : NoticesOk s) : NoticesOk (notify n s) := by
  obtain ⟨level, full, count⟩ := ok
  have bound := bump_le s.mgmt.lost
  unfold NoticesOk
  rw [notify_notices, notify_lost]
  split
  case isTrue room =>
    refine ⟨by simp; omega, fun lost => ?_, count⟩
    have := full lost
    omega
  case isFalse noRoom => exact ⟨level, fun _ => by omega, bound⟩

theorem notify_keeps (n : Notice) (s : State) : Keeps s (notify n s) :=
  ⟨⟨notify_noticesOk n, id, id, id, id⟩, id⟩

theorem notifySync_keeps (c : SyncCause) (s : State) : Keeps s (notifySync c s) := notify_keeps _ s

theorem notifySink_keeps (n : Nat) (c : Sink) (e : SinkEvent) (s : State) : Keeps s (notifySink n c e s) := notify_keeps _ s

theorem notifySource_keeps (n : Nat) (e : SourceEvent) (s : State) : Keeps s (notifySource n e s) := by
  unfold notifySource
  split
  · exact notify_keeps _ s
  · exact .refl s

/-- The response of a transaction leaves notices and lost count. -/
theorem respondThen_keeps (st : LmpStatus) (body : List Byte) (c : OnComplete) (s : State) :
    Keeps s (respondThen st body c s) := ⟨⟨id, id, id, id, id⟩, id⟩

theorem respond_keeps (st : LmpStatus) (body : List Byte) (s : State) : Keeps s (respond st body s) :=
  respondThen_keeps st body .nothing s

/-- A change of one source that keeps its ranges and its tag. -/
theorem modSource_keeps {n : Nat} {f : Source → Source} (s : State) (ranges : ∀ c, SourceOk c → SourceOk (f c))
    (tag : ∀ c, (f c).cfg.tag = c.cfg.tag) : Keeps s (s.modSource n f) := by
  refine ⟨⟨id, id, id, fun ⟨ok, tags⟩ => ⟨forall_mem_modify ok ranges, ?_⟩, id⟩, id⟩
  rw [modSource_sources, map_modify_of_eq _ _ tag]
  exact tags

/-- A change of one source that keeps the ranges of the source it meets. -/
theorem modSource_keeps_at {n : Nat} {f : Source → Source} {c : Source} (s : State) (here : s.sources[n]? = some c)
    (ranges : SourceOk c → SourceOk (f c)) (tag : ∀ c, (f c).cfg.tag = c.cfg.tag) : Keeps s (s.modSource n f) := by
  refine ⟨⟨id, id, id, fun ⟨ok, tags⟩ => ⟨fun d mem => ?_, ?_⟩, id⟩, id⟩
  · rw [modSource_sources, modify_of_getElem? f here] at mem
    rcases List.mem_or_eq_of_mem_set mem with old | rfl
    · exact ok d old
    · exact ranges (ok c (List.mem_of_getElem? here))
  · rw [modSource_sources, map_modify_of_eq _ _ tag]
    exact tags

/-- A change of every source that keeps its ranges and its tag. -/
theorem modSources_keeps {f : Source → Source} (s : State) (ranges : ∀ c, SourceOk c → SourceOk (f c))
    (tag : ∀ c, (f c).cfg.tag = c.cfg.tag) : Keeps s (s.modSources (fun l => l.map f)) := by
  refine ⟨⟨id, id, id, fun ⟨ok, tags⟩ => ⟨?_, ?_⟩, id⟩, id⟩
  · intro c mem
    obtain ⟨d, there, rfl⟩ := List.mem_map.mp mem
    exact ranges d (ok d there)
  · simpa [Function.comp_def, tag] using tags

/-- A change of one sink that keeps its ranges. -/
theorem modSink_keeps {n : Nat} {f : Sink → Sink} (s : State) (ranges : ∀ c, SinkOk c → SinkOk (f c)) :
    Keeps s (s.modSink n f) := ⟨⟨id, id, id, id, fun ok => forall_mem_modify ok ranges⟩, id⟩

/-- A change of the slot map, the directory and the allocator's counters that keeps the slots' ranges. -/
theorem modAlloc_keeps {f : Alloc → Alloc} (s : State) (slots : SlotsOk s → SlotsOk (s.modAlloc f)) :
    Keeps s (s.modAlloc f) := ⟨⟨id, id, slots, id, id⟩, id⟩

theorem countAlloc_keeps (f : AllocCounters → AllocCounters) (s : State) : Keeps s (countAlloc f s) :=
  modAlloc_keeps s id

theorem countReq_keeps (f : ReqCounters → ReqCounters) (s : State) : Keeps s (countReq f s) := ⟨⟨id, id, id, id, id⟩, id⟩

theorem countSource_keeps (n : Nat) (f : SourceCounters → SourceCounters) (s : State) : Keeps s (countSource n f s) :=
  modSource_keeps s (fun _ ok => ok) (fun _ => rfl)

theorem atTick_keeps (k : Nat) (s : State) : Keeps s (atTick k s) := ⟨⟨id, id, id, id, id⟩, id⟩

theorem setQueued_keeps (n : Nat) (q : QueuedItem) (s : State) : Keeps s (setQueued n q s) :=
  modSource_keeps s (fun _ ok => ok) (fun _ => rfl)

/-- A change of the queue that lengthens nothing and puts in no new kind of item. -/
theorem modQueue_keeps {f : List QItem → List QItem} (s : State) (length : (f s.tx.queue).length ≤ s.tx.queue.length)
    (items : (∀ it ∈ s.tx.queue, it.isAnswer = true ∨ it = .leave) →
      ∀ it ∈ f s.tx.queue, it.isAnswer = true ∨ it = .leave) : Keeps s (modQueue f s) := by
  refine ⟨⟨id, id, id, id, id⟩, fun ⟨level, empty, leaving⟩ => ⟨length.trans level, fun none => ?_, fun st => items (leaving st)⟩⟩
  have nothing : s.tx.queue = [] := empty none
  rw [nothing] at length
  show f s.tx.queue = []
  rw [nothing]
  exact List.length_eq_zero_iff.mp (Nat.le_zero.mp length)

theorem modQueue_sublist_keeps {f : List QItem → List QItem} (s : State) (sub : (f s.tx.queue).Sublist s.tx.queue) :
    Keeps s (modQueue f s) :=
  modQueue_keeps s sub.length_le (fun all it mem => all it (sub.subset mem))

/-! ### Relays -/

/-- An entry replaced by one that carries its old number or none (R164, R170). -/
theorem setRelay_keeps {h : Nat} {old new : Option Relay} (s : State) (here : s.req.table[h]? = some old)
    (number : openNumber new = none ∨ openNumber new = openNumber old) : Keeps s (setRelay h new s) := by
  refine ⟨⟨id, fun ⟨four, single, byte⟩ => ⟨?_, ?_, byte⟩, id, id, id⟩, id⟩
  · simpa using four
  · exact single.sublist (openNumbers_set_sublist here number)

theorem completeRelay_keeps (h : Nat) (result : RelayOutcome) (s : State) : Keeps s (completeRelay h result s) := by
  unfold completeRelay
  split
  case h_1 r here =>
    split
    · exact (setRelay_keeps s (relay_eq_some_iff.mp here) (.inl rfl)).trans (notify_keeps _ _)
    · exact .refl s
  case h_2 => exact .refl s

theorem completeWhere_keeps (p : Relay → Bool) (result : RelayOutcome) (s : State) :
    Keeps s (completeWhere p result s) := by
  refine Keeps.forEach 4 s (fun h t => ?_)
  split
  · split
    · exact completeRelay_keeps h result t
    · exact .refl t
  · exact .refl t

theorem dropRelay_keeps (h q : Nat) (s : State) : Keeps s (dropRelay h q s) := by
  unfold dropRelay
  split
  · split
    · exact completeRelay_keeps h _ s
    · exact .refl s
  · exact .refl s

theorem relaySent_keeps (sf : Superframe) (h q : Nat) (s : State) : Keeps s (relaySent sf h q s) := by
  unfold relaySent
  split
  case h_1 r here =>
    split
    case isTrue own =>
      refine setRelay_keeps s (relay_eq_some_iff.mp here) (.inr ?_)
      simp [openNumber, Relay.isOpen, own.2]
    case isFalse => exact .refl s
  case h_2 => exact .refl s

theorem relayDeadlines_keeps (s : State) : Keeps s (relayDeadlines s) := by
  refine Keeps.forEach 4 s (fun h t => ?_)
  split
  · split
    · exact (countReq_keeps _ t).trans (completeRelay_keeps h _ _)
    · exact .refl t
  · exact .refl t

/-! ### The outgoing queue -/

theorem returnItem_keeps (it : QItem) (s : State) : Keeps s (returnItem it s) := by
  cases it with
  | claim n => exact setQueued_keeps n _ s
  | offer | leave => exact .refl s
  | release n tag r stale =>
    dsimp only [returnItem]
    split
    · exact .refl s
    · exact setQueued_keeps n _ s
  | probe h q | command h q => exact dropRelay_keeps h q s
  | answer => exact ⟨⟨id, id, id, id, id⟩, id⟩

theorem refuseItem_keeps (it : QItem) (s : State) : Keeps s (refuseItem it s) := by
  cases it with
  | answer => exact countReq_keeps (fun c => { c with unanswered := bump c.unanswered }) s
  | claim n => exact returnItem_keeps (.claim n) s
  | offer n o => exact returnItem_keeps (.offer n o) s
  | release n tag r stale => exact returnItem_keeps (.release n tag r stale) s
  | probe h q target subject i => exact returnItem_keeps (.probe h q target subject i) s
  | command h q target a i => exact returnItem_keeps (.command h q target a i) s
  | leave => exact returnItem_keeps .leave s

theorem noteQueued_keeps (it : QItem) (s : State) : Keeps s (noteQueued it s) := by
  cases it with
  | claim n | release n => exact setQueued_keeps n _ s
  | offer | probe | command | answer | leave => exact .refl s

theorem countLoss_keeps (s : State) : Keeps s (countLoss s) := ⟨⟨id, id, id, id, id⟩, id⟩

theorem takeNewest_sublist {p : QItem → Bool} {q rest : List QItem} {it : QItem}
    (taken : takeNewest p q = some (it, rest)) : rest.Sublist q := by
  unfold takeNewest at taken
  cases newest : q.reverse.find? p with
  | none => simp [newest] at taken
  | some x =>
    simp only [newest, Option.map_some, Option.some.injEq, Prod.mk.injEq] at taken
    obtain ⟨-, rfl⟩ := taken
    simpa using (List.eraseP_sublist (p := p) (l := q.reverse)).reverse

/-- An item put at the tail of a queue with room, in a state that takes it (R49, R51). -/
theorem appendItem_keeps {it : QItem} {f : List QItem → List QItem} (s : State)
    (accepts : queueAccepts s.sync.state it = true) (rest : List QItem) (tail : f s.tx.queue = rest ++ [it])
    (sub : rest.Sublist s.tx.queue) (room : rest.length < 16) : Keeps s (modQueue f s) := by
  refine ⟨⟨id, id, id, id, id⟩, fun ⟨_, _, leaving⟩ => ⟨?_, fun none => ?_, fun st x mem => ?_⟩⟩
  · simp [tail]; omega
  · exfalso
    revert accepts none
    cases h : s.sync.state <;> simp [queueAccepts, SyncState.queues, h]
  · have mem : x ∈ rest ++ [it] := tail ▸ mem
    have leave : s.sync.state = .leaving := st
    rcases List.mem_append.mp mem with old | new
    · exact leaving leave x (sub.subset old)
    · rw [List.mem_singleton.mp new]
      rw [leave] at accepts
      exact .inl accepts

theorem enqueue_keeps (it : QItem) (s : State) (accepts : queueAccepts s.sync.state it = true) :
    Keeps s (enqueue it s) := by
  unfold enqueue
  split
  case isTrue room =>
    exact (appendItem_keeps s accepts s.tx.queue rfl (.refl _) room).trans (noteQueued_keeps it _)
  case isFalse full =>
    split
    · split
      case h_1 old rest taken =>
        have returned := (countLoss_keeps s).trans (returnItem_keeps old (countLoss s))
        refine (noteQueued_keeps it _).after
          ⟨⟨returned.notices, returned.relays, returned.slots, returned.sources, returned.sinks⟩, fun ok => ?_⟩
        have sub := takeNewest_sublist taken
        have shorter := takeNewest_length taken
        have level := ok.1
        exact (appendItem_keeps (returnItem old (countLoss s)) (it := it) (by simpa using accepts) rest rfl
          (by simpa using sub) (by omega)).queue (returned.queue ok)
      case h_2 => exact (countLoss_keeps s).trans (returnItem_keeps it _)
    · exact (countLoss_keeps s).trans (returnItem_keeps it _)

theorem mem_replaceOffer {n : Nat} {flag : Bool} {q : List QItem} {it : QItem} (mem : it ∈ replaceOffer n flag q)
    (all : ∀ x ∈ q, x.isAnswer = true ∨ x = .leave) : it.isAnswer = true ∨ it = .leave := by
  obtain ⟨x, there, rfl⟩ := List.mem_map.mp mem
  rcases all x there with answer | rfl
  · cases x <;> simp_all [QItem.isAnswer]
  · exact .inr rfl

theorem post_keeps (it : QItem) (s : State) : Keeps s (post it s) := by
  unfold post
  split
  case isTrue accepts =>
    split
    · split
      · exact modQueue_keeps s (by simp [replaceOffer]) (fun all it mem => mem_replaceOffer mem all)
      · exact enqueue_keeps _ s accepts
    · exact enqueue_keeps it s accepts
  case isFalse => exact refuseItem_keeps it s

theorem markStale_keeps (n : Nat) (s : State) : Keeps s (markStale n s) := by
  refine modQueue_keeps s (by simp) (fun all it mem => ?_)
  obtain ⟨x, there, rfl⟩ := List.mem_map.mp mem
  rcases all x there with answer | rfl
  · cases x <;> simp_all [QItem.isAnswer]
  · exact .inr rfl

/-! ### Sinks -/

theorem unbind_ok (c : Sink) : SinkOk c.unbind := ⟨Nat.zero_le _, fun _ => rfl, Nat.zero_le _, Nat.zero_le _⟩

theorem bind_ok (e : DirEntry) (c : Sink) : SinkOk (c.bind e) :=
  ⟨Nat.zero_le _, fun _ => rfl, Nat.zero_le _, Nat.zero_le _⟩

/-- Only a sink with an empty queue is evaluated against an entry (R138). -/
theorem sinkEvaluated_ok (e : DirEntry) {c : Sink} (ok : SinkOk c) (empty : c.queue = []) : SinkOk (sinkEvaluated e c) := by
  unfold sinkEvaluated
  obtain ⟨-, -, silent, guard⟩ := ok
  repeat' split
  · exact bind_ok e c
  · exact ⟨by simp [empty], fun _ => empty, silent, guard⟩
  · exact ⟨by simp [empty], fun _ => empty, silent, guard⟩

theorem queue_of_unbound {c : Sink} (ok : SinkOk c) (unbound : c.state = .unbound) : c.queue = [] :=
  ok.2.1 (by rw [unbound]; rfl)

theorem sinkSignalled_ok (ch : Change) {c : Sink} (ok : SinkOk c) : SinkOk (sinkSignalled ch c) := by
  cases ch with
  | created e | activated e =>
    dsimp only [sinkSignalled]
    split
    case isTrue unbound => exact sinkEvaluated_ok e ok (queue_of_unbound ok unbound)
    case isFalse => exact ok
  | replaced e => exact sinkEvaluated_ok e (unbind_ok c) rfl
  | removed => exact unbind_ok c

theorem sinkAfter_ok (before after : List DirEntry) {c : Sink} (ok : SinkOk c) : SinkOk (sinkAfter before after c) := by
  unfold sinkAfter
  split
  · exact sinkSignalled_ok _ ok
  · exact ok

theorem pushCapped_length {α : Type} (cap : Nat) (x : α) (q : List α) (pos : 0 < cap) (level : q.length ≤ cap) :
    (pushCapped cap x q).length ≤ cap := by
  unfold pushCapped
  split
  · simp; omega
  · simp; omega

theorem sinkPushed_ok (marks : List Mark) {c : Sink} (ok : SinkOk c) (holds : c.state.keepsQueue = true) :
    SinkOk (sinkPushed marks c) := by
  obtain ⟨level, -, silent, guard⟩ := ok
  have pushed := pushCapped_length 16 marks c.queue (by decide) level
  unfold sinkPushed
  dsimp only
  split
  · exact ⟨pushed, nofun, silent, by simp⟩
  · exact ⟨pushed, fun none => by simp [holds] at none, silent, guard⟩

theorem sinkCompleted_ok (marks : List Mark) {c : Sink} (ok : SinkOk c) : SinkOk (sinkCompleted marks c) := by
  obtain ⟨level, empty, silent, guard⟩ := ok
  unfold sinkCompleted
  dsimp only
  split
  case h_1 st | h_2 st =>
    have holds : c.state.keepsQueue = true := by rw [st]; rfl
    have keeps (k : SinkCounters) (n : Nat) (low : n ≤ 64) : SinkOk { c with silentRun := n, counters := k } :=
      ⟨level, empty, low, guard⟩
    split
    · split
      · exact sinkPushed_ok marks (keeps _ _ (by omega)) holds
      · exact ⟨by simp, fun _ => rfl, by simp, guard⟩
    · exact sinkPushed_ok marks (keeps _ _ (by omega)) holds
  case h_3 =>
    split
    · exact ⟨level, empty, silent, guard⟩
    · exact ⟨by simp, nofun, by simp, by simp⟩
  case h_4 | h_5 => exact ⟨level, empty, silent, guard⟩

theorem sinkCaptured_ok (slot : Nat) (m : Mark) {c : Sink} (ok : SinkOk c) : SinkOk (sinkCaptured slot m c) := by
  unfold sinkCaptured
  repeat' split
  · exact sinkCompleted_ok _ ok
  all_goals exact ok

theorem guardStep_le (slipped : Bool) (g : Nat) : guardStep slipped g ≤ 128 := by unfold guardStep; omega

theorem play_ok (bridge : Bool) {c : Sink} (ok : SinkOk c) (running : c.state = .running) : SinkOk (c.play bridge) := by
  obtain ⟨level, -, silent, -⟩ := ok
  have holds : c.state.keepsQueue = true := by rw [running]; rfl
  have shape (q : List (List Mark)) (d : Sink) (short : q.length ≤ 16) (slipped : Bool) (st : d.state = c.state)
      (run : d.silentRun = c.silentRun) (queue : d.queue = q) (g : d.slipGuard = guardStep slipped c.slipGuard) :
      SinkOk d := by
    refine ⟨by rw [queue]; exact short, fun none => ?_, by rw [run]; exact silent, by rw [g]; exact guardStep_le _ _⟩
    rw [st, holds] at none
    cases none
  unfold Sink.play
  split
  · exact shape [] _ (by simp) false rfl rfl rfl rfl
  · exact shape (c.queue.drop 2) _ (by simp; omega) true rfl rfl rfl rfl
  · exact shape c.queue _ level true rfl rfl rfl rfl
  · exact shape (c.queue.drop 1) _ (by simp; omega) false rfl rfl rfl rfl

theorem sinkPlayed_ok (p : Nat) (bridge : Bool) {c : Sink} (ok : SinkOk c) : SinkOk (sinkPlayed p bridge c) := by
  unfold sinkPlayed
  split
  case isTrue plays => exact play_ok bridge ok plays.2
  case isFalse => exact ok

theorem forall_mem_map_of {P : Sink → Prop} {G : Sink → Sink} (changed : ∀ c, P c → P (G c)) {l : List Sink}
    (all : ∀ c ∈ l, P c) : ∀ c ∈ l.map G, P c := by
  intro c mem
  obtain ⟨d, there, rfl⟩ := List.mem_map.mp mem
  exact changed d (all d there)

/-- A round over one sink keeps the notices in their range. -/
theorem evaluateSink_noticesOk (n : Nat) (c : Sink) (e : DirEntry) {s : State} (ok : NoticesOk s) :
    NoticesOk (evaluateSink n c e s) := by
  unfold evaluateSink
  repeat' split
  · exact notify_noticesOk _ ok
  · exact notify_noticesOk _ ok
  · exact ok

theorem signalSink_noticesOk (n : Nat) (c : Sink) (ch : Change) {s : State} (ok : NoticesOk s) :
    NoticesOk (signalSink n c ch s) := by
  cases ch with
  | created e | activated e =>
    dsimp only [signalSink]
    split
    · exact evaluateSink_noticesOk n c e ok
    · exact ok
  | replaced e =>
    dsimp only [signalSink]
    repeat' split
    · exact evaluateSink_noticesOk n c e ok
    · exact ok
    · exact notify_noticesOk _ ok
  | removed =>
    dsimp only [signalSink]
    split
    · exact ok
    · exact notify_noticesOk _ ok

theorem deliverSignals_noticesOk (before after : List DirEntry) {s : State} (ok : NoticesOk s) :
    NoticesOk (deliverSignals before after s) := by
  refine forEach_inv NoticesOk _ _ _ ok (fun n t ok => ?_)
  repeat' split
  · exact signalSink_noticesOk _ _ _ ok
  · exact ok
  · exact ok

theorem deliverSignals_keeps (before after : List DirEntry) (s : State) : Keeps s (deliverSignals before after s) := by
  refine ⟨⟨deliverSignals_noticesOk before after, ?_, ?_, ?_, fun ok => ?_⟩, ?_⟩
  · exact fun h => by simpa [RelaysOk] using h
  · exact fun h => by simpa [SlotsOk] using h
  · exact fun h => by simpa [SourcesOk] using h
  · show ∀ c ∈ (deliverSignals before after s).sinks, SinkOk c
    rw [deliverSignals_sinks]
    exact forall_mem_map_of (P := SinkOk) (fun c => sinkAfter_ok before after) ok
  · exact fun h => by simpa [QueueOk] using h

/-- One action of the allocator keeps what its change of the tables keeps. -/
theorem action_keeps {f : State → State} {s : State} (change : Keeps s (f s)) : Keeps s (action f s) :=
  change.trans (deliverSignals_keeps _ _ _)

theorem pushSink_noticesOk (n : Nat) (c : Sink) (marks : List Mark) {s : State} (ok : NoticesOk s) :
    NoticesOk (pushSink n c marks s) := by
  unfold pushSink
  dsimp only
  repeat' split
  · exact notify_noticesOk _ ok
  · exact notify_noticesOk _ ok
  · exact ok
  · exact ok

theorem completeCapture_noticesOk (n : Nat) (c : Sink) (marks : List Mark) {s : State} (ok : NoticesOk s) :
    NoticesOk (completeCapture n c marks s) := by
  have gap : NoticesOk (if isGap marks then countGap n s else s) := by split <;> exact ok
  unfold completeCapture
  dsimp only
  split
  case h_1 | h_2 =>
    split
    · split
      · exact pushSink_noticesOk _ _ _ ok
      · exact notify_noticesOk _ ok
    · exact pushSink_noticesOk _ _ _ gap
  case h_3 =>
    split
    · exact ok
    · exact notify_noticesOk _ gap
  case h_4 | h_5 => exact ok

theorem captureSlot_noticesOk (slot : Nat) (m : Mark) (n : Nat) {s : State} (ok : NoticesOk s) :
    NoticesOk (captureSlot slot m n s) := by
  unfold captureSlot
  repeat' split
  · exact completeCapture_noticesOk _ _ _ ok
  all_goals exact ok

theorem fillLanes_keeps (p : Nat) (bridge : Bool) (s : State) : Keeps s (fillLanes p bridge s) := by
  refine ⟨⟨?_, ?_, ?_, ?_, fun ok => ?_⟩, ?_⟩
  · exact fun h => by simpa [NoticesOk] using h
  · exact fun h => by simpa [RelaysOk] using h
  · exact fun h => by simpa [SlotsOk] using h
  · exact fun h => by simpa [SourcesOk] using h
  · show ∀ c ∈ (fillLanes p bridge s).sinks, SinkOk c
    rw [fillLanes_sinks]
    exact forall_mem_map_of (P := SinkOk) (fun c => sinkPlayed_ok p bridge) ok
  · exact fun h => by simpa [QueueOk] using h

end Sys2Proof.Proofs
end

section
/-! The ranges of every table through the source engine, the allocator and the sync controller's operations. -/

namespace Sys2Proof.Proofs

open Sys2Proof.Machine

/-! ### Sources -/

/-- A source that gives its claim or run up keeps its ranges and its tag (R123 to R125). -/
theorem leaveFor_ok (st : SourceState) {backoff : Nat} (low : backoff ≤ 4) {c : Source} (ok : SourceOk c) :
    SourceOk (c.leaveFor st backoff) :=
  ⟨Nat.zero_le _, low, Nat.zero_le _, Nat.zero_le _, ok.2.2.2.2⟩

theorem backoffCount_le (s : State) : backoffCount s ≤ 4 := by unfold backoffCount; omega

theorem seek_keeps (n : Nat) (s : State) : Keeps s (seek n s) :=
  (post_keeps _ _).after (modSource_keeps s
    (fun _ ⟨level, _, refresh, tally, guard⟩ => ⟨level, Nat.zero_le _, refresh, tally, guard⟩) (fun _ => rfl))

theorem sourcesSeek_keeps (s : State) : Keeps s (sourcesSeek s) :=
  .forEach _ s (fun n t => by
    split
    · exact seek_keeps n t
    · exact .refl t)

theorem enterBackoff_keeps (n : Nat) (s : State) : Keeps s (enterBackoff n s) :=
  (modSource_keeps s (fun _ ok => leaveFor_ok _ (backoffCount_le s) ok) (fun _ => rfl)).trans (markStale_keeps n _)

theorem tellDefeated_keeps (n x : Nat) (s : State) : Keeps s (tellDefeated n x s) := by
  unfold tellDefeated
  split
  · split
    · exact ((countSource_keeps n _ s).trans (notifySource_keeps n _ _)).trans (enterBackoff_keeps n _)
    · exact .refl s
  · exact .refl s

theorem tellClashed_keeps (n x : Nat) (s : State) : Keeps s (tellClashed n x s) := by
  unfold tellClashed
  split
  · split
    · exact (((countAlloc_keeps _ s).trans (notifySource_keeps n _ _)).trans
        (modSource_keeps _ (fun _ ok => leaveFor_ok _ (Nat.zero_le _) ok) (fun _ => rfl))).trans (markStale_keeps n _)
    · exact .refl s
  · exact .refl s

theorem postRelease_keeps (n : Nat) (s : State) : Keeps s (postRelease n s) := by
  unfold postRelease
  repeat' split
  · exact post_keeps _ s
  · exact .refl s
  · exact .refl s

theorem enterReleasing_keeps (n : Nat) (s : State) : Keeps s (enterReleasing n s) :=
  (postRelease_keeps n _).after (modSource_keeps s
    (fun _ ⟨_, backoff, _, _, guard⟩ => ⟨Nat.zero_le _, backoff, Nat.zero_le _, Nat.zero_le _, guard⟩) (fun _ => rfl))

theorem enterBlocked_keeps (n : Nat) (s : State) : Keeps s (enterBlocked n s) :=
  (notifySource_keeps n _ _).after (modSource_keeps s (fun _ ok => ok) (fun _ => rfl))

theorem enterClaiming_keeps (n : Nat) (r : Run) (s : State) : Keeps s (enterClaiming n r s) :=
  modSource_keeps s (fun _ ok => ok) (fun _ => rfl)

/-- At maturity a queue is cut, never lengthened (R119). -/
theorem mature_ok (r : Run) (bridge : Bool) {c : Source} (ok : SourceOk c) : SourceOk (c.mature r bridge) := by
  obtain ⟨level, backoff, -, -, -⟩ := ok
  refine ⟨?_, backoff, Nat.zero_le _, Nat.zero_le _, Nat.zero_le _⟩
  cases bridge with
  | true => simp [Source.mature]; omega
  | false => simpa [Source.mature] using level

theorem enterOwned_keeps (n : Nat) (r : Run) (s : State) : Keeps s (enterOwned n r s) := by
  unfold enterOwned
  split
  · exact (modSource_keeps s (fun _ ok => mature_ok r _ ok) (fun _ => rfl)).trans (notifySource_keeps n _ _)
  · exact .refl s

theorem reseek_keeps (n : Nat) (s : State) : Keeps s (reseek n s).2 := by
  unfold reseek
  split
  · exact enterReleasing_keeps n s
  · exact .refl s

theorem atMute_ok {c : Source} : SourceOk c.atMute :=
  ⟨Nat.zero_le _, Nat.zero_le _, Nat.zero_le _, Nat.zero_le _, Nat.zero_le _⟩

theorem atTeardown_ok {c : Source} : SourceOk c.atTeardown :=
  ⟨Nat.zero_le _, Nat.zero_le _, Nat.zero_le _, Nat.zero_le _, Nat.zero_le _⟩

theorem sourceBoundary_keeps (n : Nat) (s : State) : Keeps s (sourceBoundary n s) := by
  unfold sourceBoundary
  split
  · split
    · exact modSource_keeps s (fun _ ⟨level, backoff, refresh, _, guard⟩ =>
        ⟨level, backoff, refresh, Nat.zero_le _, guard⟩) (fun _ => rfl)
    · split
      · exact seek_keeps n s
      · exact modSource_keeps s (fun _ ⟨level, backoff, refresh, tally, guard⟩ =>
          ⟨level, (Nat.sub_le _ _).trans backoff, refresh, tally, guard⟩) (fun _ => rfl)
    · split
      · exact seek_keeps n s
      · exact .refl s
    · split
      · exact post_keeps _ s
      · exact .refl s
    · split
      · exact postRelease_keeps n s
      · exact .refl s
    · exact .refl s
  · exact .refl s

theorem sourcesBoundary_keeps (s : State) : Keeps s (sourcesBoundary s) :=
  .forEach _ s (fun n t => sourceBoundary_keeps n t)

theorem push_ok (bridge : Bool) (frame : List Sample) {c : Source} (ok : SourceOk c) : SourceOk (c.push bridge frame) := by
  obtain ⟨level, rest⟩ := ok
  unfold Source.push
  split
  · split
    · exact ⟨pushCapped_length 8 frame c.queue (by decide) level, rest⟩
    · exact ⟨by simp, rest⟩
  · exact ⟨level, rest⟩

theorem push_cfg (bridge : Bool) (frame : List Sample) (c : Source) : (c.push bridge frame).cfg = c.cfg := by
  unfold Source.push
  repeat' split
  all_goals rfl

theorem deliverLanes_keeps (p : Nat) (bridge : Bool) (lanes : List Sample) (s : State) :
    Keeps s (deliverLanes p bridge lanes s) := by
  refine modSources_keeps s (fun c ok => ?_) (fun c => ?_)
  · split
    · exact push_ok bridge _ ok
    · exact ok
  · split
    · rw [push_cfg]
    · rfl

theorem take_ok (bridge : Bool) {c : Source} (ok : SourceOk c) : SourceOk (c.take bridge) := by
  obtain ⟨level, backoff, refresh, tally, -⟩ := ok
  unfold Source.take
  split
  · exact ⟨level, backoff, refresh, tally, guardStep_le _ _⟩
  · exact ⟨by simp; omega, backoff, refresh, tally, guardStep_le _ _⟩
  · exact ⟨level, backoff, refresh, tally, guardStep_le _ _⟩
  · exact ⟨by simp; omega, backoff, refresh, tally, guardStep_le _ _⟩

theorem take_cfg (bridge : Bool) (c : Source) : (c.take bridge).cfg = c.cfg := by
  unfold Source.take
  split <;> rfl

theorem modLine_keeps (f : Line → Line) (s : State) : Keeps s (s.modLine f) := ⟨⟨id, id, id, id, id⟩, id⟩

theorem takeAt_keeps (slot n : Nat) (s : State) : Keeps s (takeAt slot n s) := by
  unfold takeAt
  split
  · split
    · split
      · exact (modLine_keeps _ s).trans (modSource_keeps _ (fun _ ok => take_ok _ ok) (fun c => by rw [take_cfg]))
      · exact .refl s
    · exact .refl s
  · exact .refl s

theorem damagedReadback_keeps (n : Nat) (s : State) : Keeps s (damagedReadback n s) := by
  unfold damagedReadback
  split
  · split
    · have counted (c : Source) (k : SourceCounters) (ok : SourceOk c) :
          SourceOk { c with collidedNow := true, tally := min (c.tally + 1) 32, counters := k } := by
        obtain ⟨level, backoff, refresh, _, guard⟩ := ok
        exact ⟨level, backoff, refresh, Nat.min_le_right _ _, guard⟩
      have first := modSource_keeps (n := n) s
        (f := fun c => { c with collidedNow := true, tally := min (c.tally + 1) 32,
                                counters := { c.counters with collisions := bump c.counters.collisions } })
        (fun c ok => counted c _ ok) (fun _ => rfl)
      dsimp only
      split
      · exact (first.trans (enterReleasing_keeps n _)).trans (notifySource_keeps n _ _)
      · exact first
    · exact .refl s
  · exact .refl s

/-! ### The slot map -/

/-- A change slot by slot that keeps each entry's ranges keeps the map's. -/
theorem mapSlots_ok {f : Nat → Slot → Slot} {l : List Slot}
    (keeps : ∀ k, ∀ x ∈ l, x.carrier ≤ 32 ∧ leaseFits x.use = true → (f k x).carrier ≤ 32 ∧ leaseFits (f k x).use = true)
    (ok : ∀ x ∈ l, x.carrier ≤ 32 ∧ leaseFits x.use = true) :
    ∀ x ∈ mapSlots f 8 l, x.carrier ≤ 32 ∧ leaseFits x.use = true := by
  intro x mem
  obtain ⟨i, here⟩ := List.getElem?_of_mem mem
  rw [mapSlots_getElem?] at here
  obtain ⟨y, there, rfl⟩ := Option.map_eq_some_iff.mp here
  have memY := List.mem_of_getElem? there
  exact keeps _ y memY (ok y memY)

/-- A run changed to a use whose lease fits keeps the map's ranges (R73, R74). -/
theorem setRun_ok {use : SlotUse} (fits : leaseFits use = true) (first count : Nat) {l : List Slot}
    (ok : l.length = 56 ∧ ∀ x ∈ l, x.carrier ≤ 32 ∧ leaseFits x.use = true) :
    (setRun first count use l).length = 56 ∧ ∀ x ∈ setRun first count use l, x.carrier ≤ 32 ∧ leaseFits x.use = true := by
  refine ⟨by simpa using ok.1, mapSlots_ok (fun k x _ old => ?_) ok.2⟩
  split
  · exact ⟨old.1, fits⟩
  · exact old

theorem installRun_keeps {use : SlotUse} (fits : leaseFits use = true) (e : DirEntry) (s : State) :
    Keeps s (installRun use e s) := modAlloc_keeps s (setRun_ok fits e.first e.count)

theorem removeRun_keeps {use : SlotUse} (fits : leaseFits use = true) (e : DirEntry) (s : State) :
    Keeps s (removeRun use e s) := modAlloc_keeps s (setRun_ok fits e.first e.count)

theorem removeRuns_keeps {use : SlotUse} (fits : leaseFits use = true) (l : List DirEntry) (s : State) :
    Keeps s (l.foldl (fun t e => removeRun use e t) s) := .foldl l s (fun t e => removeRun_keeps fits e t)

theorem removeWhere_keeps (p : DirEntry → Bool) (s : State) : Keeps s (removeWhere p s) := removeRuns_keeps rfl _ s

theorem purgeHolder_keeps {use : SlotUse} (fits : leaseFits use = true) (x : Nat) (s : State) :
    Keeps s (purgeHolder use x s) := removeRuns_keeps fits _ s

/-- Runs removed one by one, each counted. -/
theorem countedRemovals_keeps (f : AllocCounters → AllocCounters) (l : List DirEntry) (s : State) :
    Keeps s (l.foldl (fun t e => removeRun .free e (countAlloc f t)) s) :=
  .foldl l s (fun t e => (countAlloc_keeps f t).trans (removeRun_keeps rfl e _))

theorem overrideClaims_keeps (x first count : Nat) (s : State) : Keeps s (overrideClaims x first count s) :=
  countedRemovals_keeps _ _ s

theorem resolveOverlaps_keeps (x first count : Nat) (s : State) : Keeps s (resolveOverlaps x first count s) :=
  countedRemovals_keeps _ _ s

/-! ### What the allocator tells its owners -/

theorem tellLosses_keeps (x tag : Nat) (before : List DirEntry) (s : State) : Keeps s (tellLosses x tag before s) :=
  .forEach _ s (fun n t => by
    repeat' split
    · exact tellClashed_keeps n x t
    · exact tellDefeated_keeps n x t
    · exact .refl t
    · exact .refl t)

theorem object_keeps (n : Nat) (s : State) : Keeps s (object n s) := by
  unfold object
  split
  · refine (post_keeps _ _).after ?_
    split
    · exact countAlloc_keeps _ s
    · exact .refl s
  · exact .refl s

theorem objectRuns_keeps (first count : Nat) (s : State) : Keeps s (objectRuns first count s) :=
  .forEach _ s (fun n t => by
    repeat' split
    · exact object_keeps n t
    · exact .refl t
    · exact .refl t)

theorem tellOwner_keeps (e : DirEntry) {tell : Nat → State → State} (s : State) (keeps : ∀ n, Keeps s (tell n s)) :
    Keeps s (tellOwner e tell s) := by
  unfold tellOwner
  split
  · exact keeps _
  · exact .refl s

theorem tagRule_keeps (x tag : Nat) (s : State) : Keeps s (tagRule x tag s).2 := by
  unfold tagRule
  split
  · exact .refl s
  · split
    · exact .refl s
    · split
      · exact (tellOwner_keeps _ _ (fun n => object_keeps n _)).after (countAlloc_keeps _ s)
      · exact (countAlloc_keeps _ s).trans (removeRun_keeps rfl _ _)

/-! ### Heard items -/

theorem claimSteps_keeps (x tag first count priority : Nat) (s : State) :
    Keeps s (claimSteps x tag first count priority s) := by
  have removed := removeWhere_keeps (fun e => e.station == x && (e.tag == tag || e.meets first count)) s
  unfold claimSteps
  dsimp only
  split
  · exact (removed.trans (countAlloc_keeps _ _)).trans (objectRuns_keeps first count _)
  · split
    · exact (removed.trans (overrideClaims_keeps x first count _)).trans (installRun_keeps rfl _ _)
    · exact removed.trans (countAlloc_keeps _ _)

theorem heardClaim_keeps (x tag first count priority : Nat) (s : State) :
    Keeps s (heardClaim x tag first count priority s) := by
  have rule := tagRule_keeps x tag s
  unfold heardClaim
  split
  case h_1 t result => simpa only [result] using rule
  case h_2 t result =>
    rw [result] at rule
    exact (rule.trans (claimSteps_keeps x tag first count priority t)).trans (tellLosses_keeps x tag _ _)

theorem offerSteps_keeps (x tag first count priority : Nat) (s : State) :
    Keeps s (offerSteps x tag first count priority s) := by
  have removed := removeWhere_keeps (fun e => e.station == x &&
    (if e.tag == tag then !(e.first == first && e.count == count) else e.meets first count)) s
  unfold offerSteps
  dsimp only
  split
  · exact ((removed.trans (resolveOverlaps_keeps x first count _)).trans (overrideClaims_keeps x first count _)).trans
      (installRun_keeps rfl _ _)
  · split
    · exact removed.trans (objectRuns_keeps first count _)
    · exact removed

theorem heardOffer_keeps (x tag first count priority : Nat) (s : State) :
    Keeps s (heardOffer x tag first count priority s) := by
  have rule := tagRule_keeps x tag s
  unfold heardOffer
  split
  case h_1 t result => simpa only [result] using rule
  case h_2 t result =>
    rw [result] at rule
    exact (rule.trans (offerSteps_keeps x tag first count priority t)).trans (tellLosses_keeps x tag _ _)

theorem heardRelease_keeps (x tag : Nat) (s : State) : Keeps s (heardRelease x tag s) := by
  unfold heardRelease
  repeat' split
  · exact removeRun_keeps rfl _ s
  · exact .refl s
  · exact .refl s

/-! ### Own items -/

theorem recordClaim_keeps (sf : Superframe) (n : Nat) (c : Source) (r : Run) (s : State) :
    Keeps s (recordClaim sf n c r s) :=
  (installRun_keeps rfl _ s).trans (enterClaiming_keeps n r _)

theorem tellKept_keeps (claims : List (Nat × Run)) (s : State) : Keeps s (tellKept claims s) :=
  .forEach _ s (fun n t => by
    split
    · exact tellClashed_keeps n _ t
    · exact .refl t)

theorem ownClaimSent_keeps (sf : Superframe) (claims : List (Nat × Run)) (n : Nat) (r : Run) (s : State) :
    Keeps s (ownClaimSent sf claims n r s) := by
  unfold ownClaimSent
  split
  · exact tellKept_keeps claims s
  · split
    · split
      · split
        · split
          · exact ((countAlloc_keeps _ s).trans (removeRun_keeps rfl _ _)).trans (recordClaim_keeps sf n _ r _)
          · exact (removeRun_keeps rfl _ s).trans (recordClaim_keeps sf n _ r _)
        · exact recordClaim_keeps sf n _ r s
      · exact .refl s
    · exact .refl s

theorem ownReleaseSent_keeps (n tag : Nat) (s : State) : Keeps s (ownReleaseSent n tag s) := by
  unfold ownReleaseSent
  repeat' split
  · exact (removeRun_keeps rfl _ s).trans (enterBackoff_keeps n _)
  · exact .refl s
  · exact .refl s

/-! ### Upkeep -/

theorem matureOwn_keeps (n : Nat) (e : DirEntry) (s : State) : Keeps s (matureOwn n e s) :=
  ((installRun_keeps rfl _ s).trans (enterOwned_keeps n _ _)).trans (post_keeps _ _)

theorem maturityStep_keeps (s : State) : Keeps s (maturityStep s) := by
  refine Keeps.trans (.foldl _ s (fun t e => installRun_keeps rfl _ t)) (.forEach _ _ (fun n t => ?_))
  repeat' split
  · exact matureOwn_keeps n _ t
  · exact .refl t
  · exact .refl t

theorem leaseOf_le {s : State} (ok : SlotsOk s) (e : DirEntry) : leaseOf s e ≤ 24 := by
  unfold leaseOf
  split
  case h_1 h t p lease use =>
    have fits : leaseFits (s.slot e.first).use = true := by
      unfold State.slot
      rw [List.getD_eq_getElem?_getD]
      cases here : s.alloc.slots[e.first - 8]? with
      | none => rfl
      | some x => exact (ok.2 x (List.mem_of_getElem? here)).2
    rw [use] at fits
    exact of_decide_eq_true fits
  case h_2 => exact Nat.zero_le _

theorem lapseSlot_fits (x : Slot) : leaseFits (lapseSlot x).use = true := by
  unfold lapseSlot
  dsimp only
  split <;> rfl

theorem lapseRun_keeps (e : DirEntry) (s : State) : Keeps s (lapseRun e s) := by
  unfold lapseRun
  dsimp only
  refine (countAlloc_keeps _ _).after (modAlloc_keeps s (fun ok => ⟨(mapSlots_length _ 8 _).trans ok.1, ?_⟩))
  refine mapSlots_ok (fun k x _ old => ?_) ok.2
  split
  · exact ⟨old.1, lapseSlot_fits x⟩
  · exact old

theorem leaseRun_keeps (e : DirEntry) (s : State) : Keeps s (leaseRun e s) := by
  unfold leaseRun
  split
  · exact lapseRun_keeps e s
  · refine modAlloc_keeps s (fun ok => setRun_ok ?_ e.first e.count ok)
    have := leaseOf_le ok e
    simp only [leaseFits, decide_eq_true_eq]
    omega

theorem straySlot_ok {x : Slot} (ok : x.carrier ≤ 32 ∧ leaseFits x.use = true) :
    (straySlot x).carrier ≤ 32 ∧ leaseFits (straySlot x).use = true := by
  unfold straySlot
  repeat' split
  · exact ⟨ok.1, rfl⟩
  · exact ok
  · exact ⟨ok.1, rfl⟩
  · exact ok
  · exact ok

/-- Every slot entry changed in place keeps the map's ranges if the change keeps an entry's. -/
theorem mapAll_keeps {g : Slot → Slot} (s : State)
    (keeps : ∀ x : Slot, x.carrier ≤ 32 ∧ leaseFits x.use = true → (g x).carrier ≤ 32 ∧ leaseFits (g x).use = true) :
    Keeps s (s.modAlloc (fun a => { a with slots := a.slots.map g })) := by
  refine modAlloc_keeps s (fun ok => ⟨by simpa using ok.1, fun x mem => ?_⟩)
  obtain ⟨y, there, rfl⟩ := List.mem_map.mp mem
  exact keeps y (ok.2 y there)

theorem strayStep_keeps (s : State) : Keeps s (strayStep s) :=
  (countAlloc_keeps _ _).after (mapAll_keeps s (fun _ ok => straySlot_ok ok))

theorem clearCarrier_keeps (s : State) : Keeps s (clearCarrier s) :=
  mapAll_keeps s (fun _ ok => ⟨Nat.zero_le _, ok.2⟩)

theorem refreshSource_keeps (n : Nat) (s : State) : Keeps s (refreshSource n s) := by
  unfold refreshSource
  split
  case h_1 c here =>
    split
    case isTrue low =>
      refine modSource_keeps_at s here (fun ⟨level, backoff, _, tally, guard⟩ => ⟨level, backoff, ?_, tally, guard⟩)
        (fun _ => rfl)
      show c.refresh + 1 ≤ 8
      omega
    case isFalse =>
      exact (post_keeps _ _).after (modSource_keeps s (fun _ ⟨level, backoff, _, tally, guard⟩ =>
        ⟨level, backoff, Nat.zero_le _, tally, guard⟩) (fun _ => rfl))
  case h_2 => exact .refl s

theorem upkeepTables_keeps (s : State) : Keeps s (upkeepTables s) := by
  unfold upkeepTables
  dsimp only
  refine Keeps.trans ?_ (.forEach _ _ (fun n t => ?_))
  · exact (((maturityStep_keeps s).trans (.foldl _ _ (fun t e => leaseRun_keeps e t))).trans (strayStep_keeps _)).trans
      (clearCarrier_keeps _)
  · split
    · exact refreshSource_keeps n t
    · exact .refl t

theorem upkeep_keeps (s : State) : Keeps s (upkeep s) := by
  unfold upkeep
  split
  · exact action_keeps (upkeepTables_keeps s)
  · exact .refl s

end Sys2Proof.Proofs
end

section
/-! The ranges of every table through the events: peers, requests, cells, frames, slots, ports and the management port. -/

namespace Sys2Proof.Proofs

open Sys2Proof.Machine

/-! ### The sync controller's operations -/

theorem queueOk_of_empty {s : State} (empty : s.tx.queue = []) : QueueOk s := by
  unfold QueueOk
  rw [empty]
  exact ⟨Nat.zero_le _, fun _ => rfl, fun _ _ mem => absurd mem List.not_mem_nil⟩

/-- A change of the sync controller keeps the outgoing queue's range if it keeps the state, enters LOCKED or FOUNDING, or
leaves a state that queues nothing (R49). -/
theorem modSync_keeps {f : Sync → Sync} (s : State) (state : (f s.sync).state = s.sync.state ∨
    (f s.sync).state = .locked ∨ (f s.sync).state = .founding ∨ s.sync.state.queues = false) : Keeps s (s.modSync f) := by
  refine ⟨⟨id, id, id, id, id⟩, fun ok => ?_⟩
  have entering (st : SyncState) (queues : st.queues = true) (stays : st ≠ .leaving) (is : (f s.sync).state = st) :
      QueueOk (s.modSync f) := by
    refine ⟨ok.1, fun none => ?_, fun leaving => absurd (is.symm.trans leaving) stays⟩
    rw [show (s.modSync f).sync.state = st from is, queues] at none
    cases none
  rcases state with same | locked | founding | idle
  · refine ⟨ok.1, fun none => ok.2.1 ?_, fun leaving => ok.2.2 ?_⟩
    · exact same ▸ none
    · exact same ▸ leaving
  · exact entering .locked rfl (by decide) locked
  · exact entering .founding rfl (by decide) founding
  · exact queueOk_of_empty (ok.2.1 idle)

/-- A change of the sync controller within its state. -/
theorem modSync_keeps_of_same {f : Sync → Sync} (s : State) (same : (f s.sync).state = s.sync.state) :
    Keeps s (s.modSync f) := modSync_keeps s (.inl same)

theorem countSync_keeps (f : SyncCounters → SyncCounters) (s : State) : Keeps s (countSync f s) :=
  modSync_keeps_of_same s rfl

theorem modRx_keeps (f : CellRx → CellRx) (s : State) : Keeps s (s.modRx f) := ⟨⟨id, id, id, id, id⟩, id⟩

theorem modPeers_keeps (f : List Peer → List Peer) (s : State) : Keeps s (s.modPeers f) := ⟨⟨id, id, id, id, id⟩, id⟩

theorem modPeer_keeps (x : Nat) (f : Peer → Peer) (s : State) : Keeps s (s.modPeer x f) := modPeers_keeps _ s

theorem modPort_keeps (p : Nat) (f : Port → Port) (s : State) : Keeps s (s.modPort p f) := ⟨⟨id, id, id, id, id⟩, id⟩

theorem modSinks_keeps {f : Sink → Sink} (s : State) (ranges : ∀ c, SinkOk c → SinkOk (f c)) :
    Keeps s (s.modSinks (fun l => l.map f)) :=
  ⟨⟨id, id, id, id, forall_mem_map_of (P := SinkOk) ranges⟩, id⟩

/-- A change of the cell transmitter that leaves its queue. -/
theorem modTx_keeps {f : CellTx → CellTx} (s : State) (queue : (f s.tx).queue = s.tx.queue) : Keeps s (s.modTx f) := by
  refine ⟨⟨id, id, id, id, id⟩, fun ok => ?_⟩
  show QueueOk { s with tx := f s.tx }
  simpa only [QueueOk, queue] using ok

theorem abortRelays_keeps (s : State) : Keeps s (abortRelays s) := completeWhere_keeps _ _ s

theorem coldSlots_ok : (List.replicate 56 Slot.cold).length = 56 ∧
    ∀ x ∈ List.replicate 56 Slot.cold, x.carrier ≤ 32 ∧ leaseFits x.use = true := by
  refine ⟨List.length_replicate, fun x mem => ?_⟩
  rw [List.eq_of_mem_replicate mem]
  exact ⟨Nat.zero_le _, rfl⟩

theorem sinkTeardown_ok (c : Sink) : SinkOk c.teardown := unbind_ok c

/-- Full teardown leaves every table in its range, and an empty queue (R39). -/
theorem teardownBlocks_keeps (s : State) : Keeps s (teardownBlocks s) := by
  refine ⟨⟨id, id, fun _ => coldSlots_ok, fun ok => ?_, fun _ => ?_⟩, fun _ => queueOk_of_empty rfl⟩
  · exact (modSources_keeps (f := Source.atTeardown) s (fun _ _ => atTeardown_ok) (fun _ => rfl)).sources ok
  · intro c mem
    obtain ⟨d, -, rfl⟩ := List.mem_map.mp mem
    exact sinkTeardown_ok d

theorem teardown_keeps {report : State → State} (s : State) (keeps : ∀ t, Keeps t (report t)) :
    Keeps s (teardown report s) :=
  ((teardownBlocks_keeps s).trans (keeps _)).trans (abortRelays_keeps _)

theorem removeOwnRuns_keeps (s : State) : Keeps s (removeOwnRuns s) := removeWhere_keeps _ s

theorem enterMute_keeps (s : State) : Keeps s (enterMute s) := by
  refine (action_keeps (removeOwnRuns_keeps _)).after ((abortRelays_keeps _).after ((notify_keeps _ _).after ?_))
  refine ⟨⟨id, id, id, fun ok => ?_, id⟩, fun _ => queueOk_of_empty rfl⟩
  exact (modSources_keeps (f := Source.atMute) s (fun _ _ => atMute_ok) (fun _ => rfl)).sources ok

/-- The queue the purge leaves: the ANSWERs (R37). -/
theorem purgeQueue_queue (s : State) : (purgeQueue s).tx.queue = s.tx.queue.filter QItem.isAnswer := by
  unfold purgeQueue
  dsimp only
  refine forEach_inv (fun t => t.tx.queue = s.tx.queue.filter QItem.isAnswer) _ _ _ ?_ (fun h t same => ?_)
  · exact foldl_inv (fun t => t.tx.queue = s.tx.queue.filter QItem.isAnswer) _ _ _ rfl (fun t it same => by simpa using same)
  · refine foldl_inv (fun t => t.tx.queue = s.tx.queue.filter QItem.isAnswer) _ _ _ same (fun u it same => ?_)
    repeat' split
    all_goals simpa using same

theorem purgeQueue_keepsTables (s : State) : KeepsTables s (purgeQueue s) := by
  have cut : Keeps s (modQueue (fun q => q.filter QItem.isAnswer) s) := modQueue_sublist_keeps s List.filter_sublist
  unfold purgeQueue
  dsimp only
  refine (Keeps.trans (cut.trans (.foldl _ _ (fun t it => returnItem_keeps it t))) (.forEach _ _ (fun h t => ?_))).toKeepsTables
  refine .foldl _ t (fun u it => ?_)
  repeat' split
  · exact dropRelay_keeps _ _ u
  · exact .refl u
  · exact dropRelay_keeps _ _ u
  · exact .refl u
  · exact .refl u

/-- The LEAVE joins a queue of ANSWERs, the newest of 16 making room (R37). -/
theorem queueLeave_queue_ok {s : State} (level : s.tx.queue.length ≤ 16) (answers : ∀ it ∈ s.tx.queue, it.isAnswer = true)
    (leaving : s.sync.state = .leaving) : QueueOk (queueLeave s) := by
  have joined (rest : List QItem) (t : State) (sub : ∀ it ∈ rest, it ∈ s.tx.queue) (room : rest.length < 16)
      (queue : t.tx.queue = rest ++ [.leave]) (state : t.sync.state = s.sync.state) : QueueOk t := by
    refine ⟨by rw [queue]; simp; omega, fun none => ?_, fun _ it mem => ?_⟩
    · rw [state, leaving] at none
      cases none
    · rw [queue] at mem
      rcases List.mem_append.mp mem with old | new
      · exact .inl (answers it (sub it old))
      · exact .inr (List.mem_singleton.mp new)
  unfold queueLeave
  split
  case isTrue room => exact joined s.tx.queue _ (fun _ h => h) room rfl rfl
  case isFalse full =>
    split
    case h_1 it rest taken =>
      have shorter := takeNewest_length taken
      exact joined rest _ (fun it mem => (takeNewest_sublist taken).subset mem) (by omega) rfl rfl
    case h_2 none =>
      exfalso
      cases q : s.tx.queue with
      | nil => simp [q] at full
      | cons it rest =>
        have found : (s.tx.queue.reverse.find? QItem.isAnswer).isSome = true := by
          refine List.find?_isSome.mpr ⟨it, ?_, answers it (by simp [q])⟩
          simp [q]
        simp only [takeNewest, Option.map_eq_none_iff] at none
        rw [none] at found
        cases found

theorem queueLeave_keepsTables (s : State) : KeepsTables s (queueLeave s) := by
  unfold queueLeave
  repeat' split
  all_goals exact ⟨id, id, id, id, id⟩

theorem enterLeaving_keeps (s : State) : Keeps s (enterLeaving s) := by
  have entered : KeepsTables s (s.modSync (fun y => { y with state := .leaving })) := ⟨id, id, id, id, id⟩
  refine ⟨(entered.trans (purgeQueue_keepsTables _)).trans (queueLeave_keepsTables _), fun ok => ?_⟩
  refine queueLeave_queue_ok ?_ ?_ (by simp)
  · rw [purgeQueue_queue]
    exact (List.length_filter_le _ _).trans ok.1
  · rw [purgeQueue_queue]
    exact fun it mem => (List.mem_filter.mp mem).2

theorem restart_keeps (s : State) : Keeps s (restart s).2 := by
  unfold restart
  split
  · exact enterLeaving_keeps s
  · exact enterLeaving_keeps s
  · exact teardown_keeps s (notifySync_keeps _)
  · exact teardown_keeps s (notifySync_keeps _)
  case h_5 st => exact modSync_keeps s (.inr (.inr (.inr (by rw [st]; rfl))))
  case h_6 st => exact modSync_keeps s (.inr (.inr (.inr (by rw [st]; rfl))))
  all_goals exact .refl s

theorem clearCounters_keeps (s : State) : Keeps s (clearCounters s) := by
  refine ⟨⟨id, id, id, fun ⟨ok, tags⟩ => ⟨?_, ?_⟩, fun ok => ?_⟩, id⟩
  · intro c mem
    obtain ⟨d, there, rfl⟩ := List.mem_map.mp mem
    exact ok d there
  · simpa [clearCounters, Function.comp_def] using tags
  · intro c mem
    obtain ⟨d, there, rfl⟩ := List.mem_map.mp mem
    exact ok d there

theorem doAction_keeps (a : Action) (n : Nat) (s : State) : Keeps s (doAction a n s).2 := by
  cases a with
  | muteSource | unmuteSource =>
    dsimp only [doAction]
    split
    · exact modSource_keeps s (fun _ ok => ok) (fun _ => rfl)
    · exact .refl s
  | muteSink | unmuteSink =>
    dsimp only [doAction]
    split
    · exact modSink_keeps s (fun _ ok => ok)
    · exact .refl s
  | reseekSource =>
    dsimp only [doAction]
    split
    · exact reseek_keeps n s
    · exact .refl s
  | clearCounters => exact clearCounters_keeps s
  | restart => exact restart_keeps s

/-! ### The management port -/

theorem act_keeps (a : Action) (i : Byte) (s : State) : Keeps s (act a i s) := by
  unfold act
  split
  · exact respond_keeps _ _ s
  · exact (doAction_keeps a _ s).trans (respond_keeps _ _ _)

theorem meetingAct_keeps (a : Option (Byte × Byte)) (s : State) : Keeps s (meetingAct a s) := by
  rcases a with _ | ⟨code, i⟩
  · exact .refl s
  · dsimp only [meetingAct, actRequest]
    split
    · exact act_keeps _ i s
    · exact respond_keeps _ _ s

/-- A relay accepted at a free handle takes a number no open entry carries (R170). -/
theorem acceptRelay_keeps {h : Nat} (target : Nat) (code : Code) (i : Nat) {s : State} (free : freeHandle s = some h) :
    Keeps s (acceptRelay h target code i s).2 := by
  have here := freeHandle_eq_some free
  refine (post_keeps _ _).after ⟨⟨id, fun ⟨four, single, byte⟩ => ⟨?_, ?_, Nat.mod_lt _ (by decide)⟩, id, id, id⟩, id⟩
  · exact (List.length_set).trans four
  · obtain ⟨j, -, number, fresh, -⟩ := freeNumber_spec s.req.table s.req.nextNo (openNumbers_length_of_free four here) byte
    refine (openNumbers_set_perm here rfl rfl).symm.nodup (List.nodup_cons.mpr ⟨?_, single⟩)
    rw [number]
    exact fresh

theorem askRelay_keeps (target : Nat) (code : Code) (i : Nat) (s : State) : Keeps s (askRelay target code i s) := by
  unfold askRelay
  split
  case h_1 h _ free => exact (acceptRelay_keeps target code i free).trans (respond_keeps _ _ _)
  case h_2 => exact respond_keeps _ _ s
  case h_3 => exact respond_keeps _ _ s

theorem relayRequest_keeps (target : Byte) (code : Option Code) (i : Byte) (s : State) :
    Keeps s (relayRequest target code i s) := by
  unfold relayRequest
  repeat' split
  · exact respond_keeps _ _ s
  · exact askRelay_keeps _ _ _ s
  · exact respond_keeps _ _ s

theorem relayResult_keeps (h : Nat) (s : State) : Keeps s (relayResult h s) := by
  unfold relayResult
  repeat' split
  · exact respond_keeps _ _ s
  · exact respondThen_keeps _ _ _ s
  · exact respond_keeps _ _ s
  · exact respond_keeps _ _ s

theorem takeHead_keeps (s : State) : Keeps s (takeHead s) := by
  unfold takeHead
  split
  · exact respondThen_keeps _ _ _ s
  · exact respond_keeps _ _ s

/-- Taking the head makes room, and a full queue with losses is full again with none counted (R185). -/
theorem removeNotice_noticesOk {s : State} (ok : NoticesOk s) : NoticesOk (s.modMgmt removeNotice) := by
  obtain ⟨level, full, count⟩ := ok
  show (removeNotice s.mgmt).notices.length ≤ 16 ∧
    (0 < (removeNotice s.mgmt).lost → (removeNotice s.mgmt).notices.length = 16) ∧ (removeNotice s.mgmt).lost ≤ 65535
  by_cases losses : 16 ≤ s.mgmt.notices.length ∧ 0 < s.mgmt.lost
  · rw [removeNotice, if_pos losses]
    exact ⟨by simp; omega, nofun, Nat.zero_le _⟩
  · rw [removeNotice, if_neg losses]
    refine ⟨by simp; omega, fun lost => absurd ⟨(full lost).ge, lost⟩ losses, count⟩

theorem completeLmp_keeps (c : OnComplete) (s : State) : Keeps s (completeLmp c s) := by
  cases c with
  | nothing => exact .refl s
  | removeNotice => exact ⟨⟨removeNotice_noticesOk, id, id, id, id⟩, id⟩
  | freeRelay h =>
    dsimp only [completeLmp]
    cases here : s.req.table[h]? with
    | some old => exact setRelay_keeps s here (.inl rfl)
    | none =>
      refine Keeps.elsewhere rfl ?_ rfl rfl rfl rfl rfl
      have same : s.req.table.set h none = s.req.table := List.set_eq_of_length_le (List.getElem?_eq_none_iff.mp here)
      show { s.req with table := s.req.table.set h none } = s.req
      rw [same]

theorem endTransaction_keeps (k : Nat) (s : State) : Keeps s (endTransaction k s) := by
  unfold endTransaction
  split
  · have ended : Keeps s (s.modMgmt (fun m => { m with lmp := none })) := ⟨⟨id, id, id, id, id⟩, id⟩
    dsimp only
    split
    · exact ended.trans (completeLmp_keeps _ _)
    · exact ended
  · exact .refl s

/-! ### Peers and requests -/

theorem loseTarget_keeps (x : Nat) (s : State) : Keeps s (loseTarget x s) := completeWhere_keeps _ _ s

theorem peerHeard_keeps (x : Nat) (sf : Superframe) (fresh : Bool) (s : State) : Keeps s (peerHeard x sf fresh s) := by
  have heard := modPeer_keeps x (Peer.heard sf) s
  unfold peerHeard
  dsimp only
  split
  · exact heard.trans (notify_keeps _ _)
  · exact heard.trans (notify_keeps _ _)
  · split
    · exact heard.trans (action_keeps ((purgeHolder_keeps rfl x _).trans (notify_keeps _ _)))
    · exact heard
  · exact .refl s

/-- A departure or a LEAVE: the runs purged, the notice, the relays of the peer completed (R67, R69). -/
theorem farewell_keeps {use : SlotUse} (fits : leaseFits use = true) (x : Nat) (n : State → Notice) (s : State) :
    Keeps s (action (fun t => loseTarget x (notify (n t) (purgeHolder use x t))) s) :=
  action_keeps (((purgeHolder_keeps fits x s).trans (notify_keeps _ _)).trans (loseTarget_keeps x _))

theorem departPeer_keeps (x : Nat) (s : State) : Keeps s (departPeer x s) :=
  (farewell_keeps rfl x (fun t => .peer .departed x t.sync.superframe (runsOf x t)) _).after (modPeer_keeps x _ s)

theorem peerLeft_keeps (x : Nat) (s : State) : Keeps s (peerLeft x s) :=
  (farewell_keeps rfl x (fun t => .peer .left x t.sync.superframe (runsOf x t)) _).after (modPeer_keeps x _ s)

theorem peerMissed_keeps (x : Nat) (cause : MissCause) (s : State) : Keeps s (peerMissed x cause s) := by
  have counted : Keeps s (countDamagedTurn x cause s) := by
    unfold countDamagedTurn
    split
    · exact modPeer_keeps x _ s
    · exact .refl s
  unfold peerMissed
  dsimp only
  split
  · split
    · exact counted.trans (departPeer_keeps x _)
    · exact counted.trans (modPeer_keeps x _ _)
  · exact counted
  · exact counted
  · exact .refl s

theorem reportMissed_keeps (cause : MissCause) (s : State) : Keeps s (reportMissed cause s) := by
  unfold reportMissed
  split
  · exact .refl s
  · exact peerMissed_keeps _ _ s

theorem serveProbe_keeps (x q : Nat) (sub : Subject) (i : Nat) (s : State) : Keeps s (serveProbe x q sub i s) :=
  (countReq_keeps _ s).trans (post_keeps _ _)

theorem serveCommand_keeps (x q : Nat) (a : Action) (i : Nat) (s : State) : Keeps s (serveCommand x q a i s) := by
  unfold serveCommand
  split
  · exact ((doAction_keeps a i s).trans (countReq_keeps _ _)).trans (post_keeps _ _)
  · exact (countReq_keeps _ s).trans (post_keeps _ _)

theorem takeAnswer_keeps (x q : Nat) (st : AnswerStatus) (c : Code) (v : Payload) (s : State) :
    Keeps s (takeAnswer x q st c v s) := by
  unfold takeAnswer
  split
  · exact completeRelay_keeps _ _ s
  · exact countReq_keeps _ s

/-! ### Cells -/

theorem dispatchItem_keeps (x : Nat) (it : Item) (s : State) : Keeps s (dispatchItem x it s) := by
  cases it with
  | claim tag first count priority => exact action_keeps (heardClaim_keeps x tag first count priority s)
  | offer tag first count priority => exact action_keeps (heardOffer_keeps x tag first count priority s)
  | release tag => exact action_keeps (heardRelease_keeps x tag s)
  | leave => exact peerLeft_keeps x s
  | probe =>
    dsimp only [dispatchItem]
    repeat' split
    · exact serveProbe_keeps _ _ _ _ s
    · exact .refl s
    · exact .refl s
  | command =>
    dsimp only [dispatchItem]
    repeat' split
    · exact serveCommand_keeps _ _ _ _ s
    · exact .refl s
    · exact .refl s
  | answer =>
    dsimp only [dispatchItem]
    repeat' split
    · exact takeAnswer_keeps _ _ _ _ _ s
    · exact .refl s
    · exact .refl s
  | unknown => exact .refl s

theorem dispatchItems_keeps (x : Nat) (items : List Item) (s : State) : Keeps s (dispatchItems x items s) := by
  induction items generalizing s with
  | nil => exact .refl s
  | cons it rest ih =>
    rw [dispatchItems]
    split
    · split
      · exact (modRx_keeps _ s).trans (ih _)
      · split
        · exact peerLeft_keeps x s
        · exact (dispatchItem_keeps x it s).trans (ih _)
    · exact .refl s

theorem acceptCell_keeps (c : Cell) (s : State) : Keeps s (acceptCell c s) :=
  (peerHeard_keeps _ _ _ s).trans (dispatchItems_keeps _ _ _)

theorem adopt_keeps (c : Cell) (s : State) : Keeps s (adopt c s) :=
  (((modSync_keeps_of_same (f := fun y => { y with frameIndex := c.sender, superframe := c.superframe }) s rfl).trans
    (modRx_keeps _ _)).trans (countSync_keeps _ _)).trans (notifySync_keeps _ _)

theorem discardCell_keeps (c : Cell) (s : State) : Keeps s (discardCell c s) :=
  ((countSync_keeps _ s).trans (modRx_keeps _ _)).trans (reportMissed_keeps _ _)

theorem damagedCell_keeps (s : State) : Keeps s (damagedCell s) := (modRx_keeps _ s).trans (reportMissed_keeps _ _)

theorem validCell_keeps (c : Cell) (s : State) : Keeps s (validCell c s) := by
  unfold validCell
  repeat' split
  · exact enterMute_keeps s
  · exact modRx_keeps _ s
  · exact (modRx_keeps _ s).trans (acceptCell_keeps c _)
  · exact (adopt_keeps c s).trans (acceptCell_keeps c _)
  · exact discardCell_keeps c s

theorem enterLearn_keeps (c : Cell) {s : State} (acquiring : s.sync.state = .acquire) : Keeps s (enterLearn c s) :=
  (modRx_keeps _ _).after (modSync_keeps s (.inr (.inr (.inr (by rw [acquiring]; rfl)))))

theorem takeCell_keeps (cl : CellClass) (s : State) : Keeps s (takeCell cl s) := by
  unfold takeCell
  split
  case isTrue acquiring =>
    repeat' split
    · exact enterLearn_keeps _ acquiring
    · exact .refl s
    · exact .refl s
  case isFalse =>
    repeat' split
    · exact reportMissed_keeps _ s
    · exact damagedCell_keeps s
    · exact validCell_keeps _ s
    · exact damagedCell_keeps s
    · exact .refl s

theorem cellEvent_keeps (line : OnLine CellWindow) (s : State) : Keeps s (cellEvent line s) := by
  unfold cellEvent
  split
  · exact ((atTick_keeps _ s).trans (modLine_keeps _ _)).trans (takeCell_keeps _ _)
  · exact .refl s

theorem cellReadback_keeps (own : Cell) (w : CellWindow) (s : State) : Keeps s (cellReadback own w s) := by
  have cleared := modLine_keeps (fun l => { l with ownCell := none, drive := .nothing }) s
  unfold cellReadback
  dsimp only
  repeat' split
  · exact cleared.trans (modSync_keeps_of_same _ rfl)
  · exact cleared.trans (modSync_keeps_of_same _ rfl)
  · exact cleared.trans (enterMute_keeps _)
  · exact cleared

theorem readbackEvent_keeps (line : OnLine CellWindow) (s : State) : Keeps s (readbackEvent line s) := by
  unfold readbackEvent
  split
  · exact (atTick_keeps _ s).trans (cellReadback_keeps _ _ _)
  · exact .refl s

theorem itemSent_keeps (sf : Superframe) (cell : List Placed) (p : Placed) (s : State) : Keeps s (itemSent sf cell p s) := by
  unfold itemSent
  repeat' split
  · exact action_keeps (ownClaimSent_keeps sf _ _ _ s)
  · exact action_keeps (ownReleaseSent_keeps _ _ s)
  · exact relaySent_keeps sf _ _ s
  · exact relaySent_keeps sf _ _ s
  · exact .refl s
  · exact .refl s
  · exact teardown_keeps s (notifySync_keeps _)
  · exact .refl s

theorem cellSent_keeps (b : Built) (s : State) : Keeps s (cellSent b s) := by
  have counted : Keeps s ((atTick 255 s).modTx (fun t => { t with built := none, cellsSent := bump t.cellsSent })) :=
    (atTick_keeps 255 s).trans (modTx_keeps _ rfl)
  unfold cellSent
  dsimp only
  refine Keeps.trans ?_ (.foldl _ _ (fun t p => itemSent_keeps _ _ p t))
  split
  · exact counted.trans (modSync_keeps_of_same _ rfl)
  · exact counted

theorem sentEvent_keeps (s : State) : Keeps s (sentEvent s) := by
  unfold sentEvent
  split
  · exact cellSent_keeps _ s
  · exact .refl s

theorem dequeue_keeps (it : QItem) (s : State) : Keeps s (dequeue it s) := modQueue_sublist_keeps s List.erase_sublist

theorem considerItem_keeps (it : QItem) (acc : BuildAcc) : Keeps acc.st (considerItem it acc).st := by
  have taken := dequeue_keeps it acc.st
  cases it with
  | claim n =>
    dsimp only [considerItem]
    repeat' split
    · exact taken.trans (setQueued_keeps n _ _)
    · exact taken.trans (enterBlocked_keeps n _)
    · exact taken
  | release n tag r stale =>
    have told : Keeps acc.st (if stale then dequeue (.release n tag r stale) acc.st else
        setQueued n .nothing (dequeue (.release n tag r stale) acc.st)) := by
      split
      · exact taken
      · exact taken.trans (setQueued_keeps n _ _)
    dsimp only [considerItem]
    split
    · exact told
    · exact told
  | offer | probe | command =>
    dsimp only [considerItem]
    repeat' split
    all_goals exact taken
  | answer | leave => exact taken

theorem buildLoop_keeps (l : List QItem) (acc : BuildAcc) : Keeps acc.st (buildLoop l acc).st := by
  induction l generalizing acc with
  | nil => exact .refl _
  | cons it rest ih =>
    rw [buildLoop]
    split
    · exact .refl _
    · exact (considerItem_keeps it acc).trans (ih _)

theorem buildCell_keeps (s : State) : Keeps s (buildCell s) := by
  have placed := (atTick_keeps 32 s).trans (buildLoop_keeps (buildOrder s) ⟨atTick 32 s, []⟩)
  unfold buildCell
  exact (modLine_keeps _ _).after ((modTx_keeps _ (by rfl)).after placed)

/-! ### Data slots -/

theorem slotStarted_keeps (k : Nat) {meeting : State → State} (s : State) (keeps : ∀ t, Keeps t (meeting t)) :
    Keeps s (slotStarted k meeting s) := by
  unfold slotStarted decideSlot
  exact (modLine_keeps _ _).after ((keeps _).after
    (Keeps.trans (atTick_keeps (32 * k) s) (.forEach _ _ (fun n t => takeAt_keeps k n t))))

theorem slotStartEvent_keeps (k : Nat) (a : Option (Byte × Byte)) (s : State) :
    Keeps s (slotStartEvent k (meetingAct a) s) := by
  unfold slotStartEvent
  split
  · exact slotStarted_keeps k s (meetingAct_keeps a)
  · exact .refl s

theorem countCarrier_keeps (k : Nat) (cl : SlotClass) (s : State) : Keeps s (countCarrier k cl s) := by
  unfold countCarrier
  split
  · refine modAlloc_keeps s (fun ok => ⟨(List.length_modify _ _ _).trans ok.1, ?_⟩)
    exact forall_mem_modify (P := fun x : Slot => x.carrier ≤ 32 ∧ leaseFits x.use = true) ok.2
      (fun x old => ⟨Nat.min_le_right _ _, old.2⟩)
  · exact .refl s

theorem slotReadback_keeps (k : Nat) (cl : SlotClass) (s : State) : Keeps s (slotReadback k cl s) := by
  unfold slotReadback
  split
  · exact damagedReadback_keeps _ s
  · exact .refl s

theorem captureSlot_keeps (k : Nat) (m : Mark) (n : Nat) (s : State) : Keeps s (captureSlot k m n s) := by
  refine ⟨⟨captureSlot_noticesOk k m n, ?_, ?_, ?_, fun ok => ?_⟩, ?_⟩
  · exact fun h => by simpa [RelaysOk] using h
  · exact fun h => by simpa [SlotsOk] using h
  · exact fun h => by simpa [SourcesOk] using h
  · show ∀ c ∈ (captureSlot k m n s).sinks, SinkOk c
    rw [captureSlot_sinks]
    exact forall_mem_modify (P := SinkOk) ok (fun c => sinkCaptured_ok k m)
  · exact fun h => by simpa [QueueOk] using h

theorem slotEndEvent_keeps (k : Nat) (line : OnLine SlotWindow) (s : State) : Keeps s (slotEndEvent k line s) := by
  unfold slotEndEvent
  split
  · refine Keeps.trans ?_ (.forEach _ _ (fun n t => captureSlot_keeps _ _ n t))
    exact (modLine_keeps _ _).after ((slotReadback_keeps _ _ _).after ((countCarrier_keeps _ _ _).after (atTick_keeps _ s)))
  · exact .refl s

/-! ### Marker reports -/

theorem slewReport_keeps (leads : List Int) (s : State) : Keeps s (slewReport leads s) := by
  unfold slewReport
  split
  · exact modSync_keeps_of_same s rfl
  · have missed := modSync_keeps_of_same (f := fun y => { y with advance := 0, edgeMiss := y.edgeMiss + 1 }) s rfl
    dsimp only
    split
    · refine missed.trans ?_
      unfold edgeMissLimit
      split
      case h_1 st => exact modSync_keeps _ (.inr (.inr (.inr (by rw [st]; rfl))))
      case h_2 => exact teardown_keeps _ (notifySync_keeps _)
      case h_3 => exact modSync_keeps_of_same _ rfl
    · exact missed

theorem driveReport_keeps (leads : List Int) (s : State) : Keeps s (driveReport leads s) := by
  unfold driveReport
  dsimp only
  have counted := (countSync_keeps (fun k => { k with foreignLater := bumpBy (foreignLaterEdges leads) k.foreignLater }) s).trans
    (modSync_keeps_of_same (f := Sync.driveReport leads) _ rfl)
  repeat' split
  · exact (teardown_keeps _ (notifySync_keeps _)).after ((countSync_keeps _ _).after counted)
  · exact (teardown_keeps _ (notify_keeps _)).after ((countSync_keeps _ _).after counted)
  · exact counted

theorem listenReport_keeps (leads : List Int) (s : State) (listening : s.sync.state = .listen) :
    Keeps s (s.modSync (Sync.listenReport leads)) := modSync_keeps s (.inr (.inr (.inr (by rw [listening]; rfl))))

theorem reportEvent_keeps (line : OnLine LineTicks) (s : State) : Keeps s (reportEvent line s) := by
  have ticked := atTick_keeps 1023 s
  unfold reportEvent
  split
  · unfold reportMade
    dsimp only
    split
    case h_1 st => exact ticked.trans (listenReport_keeps _ _ st)
    case h_2 | h_3 | h_4 => exact ticked.trans (slewReport_keeps _ _)
    case h_5 | h_6 | h_7 => exact ticked.trans (driveReport_keeps _ _)
    all_goals exact .refl s
  · exact .refl s

/-! ### Ports and frame starts -/

theorem portFrame_keeps (p : Nat) (bridge whole : Bool) (lanes : List Sample) (s : State) :
    Keeps s (portFrame p bridge whole lanes s) := by
  unfold portFrame
  repeat' split
  · exact deliverLanes_keeps p bridge lanes s
  · exact .refl s
  · exact fillLanes_keeps p bridge s
  · exact .refl s

theorem countShort_keeps (p : Nat) (s : State) : Keeps s (countShort p s) := modPort_keeps p _ s

theorem countShortIf_keeps (c : Bool) (p : Nat) (s : State) : Keeps s (if c then countShort p s else s) := by
  split
  · exact countShort_keeps p s
  · exact .refl s

theorem followFrame_keeps (short : Bool) (p : Nat) (bits : List Bool) (s : State) :
    Keeps s (followFrame short p bits s) := by
  unfold followFrame
  split
  · exact (modPort_keeps p _ _).after ((portFrame_keeps p false _ _ _).after (countShortIf_keeps _ p s))
  · exact .refl s

theorem watchClock_keeps (p : Nat) (s : State) : Keeps s (watchClock p s) := by
  unfold watchClock
  repeat' split
  · exact modPort_keeps p _ s
  · exact (notify_keeps _ _).after (modPort_keeps p _ s)
  · exact .refl s
  · exact .refl s

theorem portsAtFrameStart_keeps (short : Bool) (sh : List (List Bool)) (s : State) :
    Keeps s (portsAtFrameStart short sh s) := by
  refine .forEach 4 s (fun p t => ?_)
  unfold portAtFrameStart
  split
  · exact followFrame_keeps short p _ t
  · exact watchClock_keeps p t
  · exact .refl t

theorem strobe_keeps (p k : Nat) (bits : List Bool) (s : State) : Keeps s (strobe p k bits s) := by
  have restored : Keeps s (restoreClock p s) := by
    unfold restoreClock
    dsimp only
    repeat' split
    · exact (notify_keeps _ _).after (modPort_keeps p _ s)
    · exact modPort_keeps p _ s
    · exact .refl s
  unfold strobe
  dsimp only
  split
  · exact (modPort_keeps p _ _).after ((portFrame_keeps p true _ _ _).after ((countShortIf_keeps _ p _).after restored))
  · exact .refl s

theorem enterLockedNow_keeps (s : State) : Keeps s (enterLockedNow s) :=
  (sourcesSeek_keeps _).after ((notifySync_keeps _ _).after (modSync_keeps s (.inr (.inl rfl))))

theorem syncAtFrameStart_keeps (s : State) : Keeps s (syncAtFrameStart s) := by
  unfold syncAtFrameStart
  split
  case h_1 => exact modSync_keeps_of_same s rfl
  case h_2 st =>
    split
    · exact modSync_keeps_of_same s rfl
    · refine Keeps.after ?_ (modSync_keeps_of_same (f := fun y => { y with acquireCount := 64 }) s rfl)
      exact modSync_keeps _ (.inr (.inr (.inr (by show s.sync.state.queues = false; rw [st]; rfl))))
  case h_3 =>
    split
    · exact (enterLockedNow_keeps _).after (modSync_keeps_of_same s rfl)
    · exact .refl s
  case h_4 => exact .refl s

theorem endFrame_keeps (s : State) : Keeps s (endFrame s) := by
  unfold endFrame
  refine Keeps.after (modSources_keeps _ ?_ ?_) (Keeps.after (modSync_keeps_of_same _ ?_) (modLine_keeps _ s))
  · exact fun _ ok => ok
  · exact fun _ => rfl
  · rfl

theorem stepIndex_state (y : Sync) : y.stepIndex.state = y.state := by
  unfold Sync.stepIndex
  split <;> rfl

theorem frameSync_keeps (s : State) : Keeps s (frameSync s) := by
  unfold frameSync
  split
  · exact (notifySync_keeps _ _).after ((modSync_keeps _ (.inr (.inr (.inl rfl)))).after
      ((modSync_keeps_of_same _ rfl).after (endFrame_keeps s)))
  · exact (syncAtFrameStart_keeps _).after ((modSync_keeps_of_same _ (stepIndex_state _)).after (endFrame_keeps s))

theorem syncAtBoundary_keeps (s : State) : Keeps s (syncAtBoundary s) := by
  unfold syncAtBoundary
  split
  · exact modSync_keeps_of_same s rfl
  · exact enterLockedNow_keeps s
  · exact .refl s

theorem boundary_keeps (s : State) : Keeps s (boundary s) := by
  have kept := (syncAtBoundary_keeps s).trans (upkeep_keeps _)
  unfold boundary
  dsimp only
  refine Keeps.after (relayDeadlines_keeps _) ?_
  split
  · exact kept
  · exact kept.trans (sourcesBoundary_keeps _)

theorem frameStartEvent_keeps (sh : List (List Bool)) (s : State) : Keeps s (frameStartEvent sh s) := by
  have started : Keeps s (portsAtFrameStart (followCutShort s.sync.jump) sh (driveMarker (frameSync s))) :=
    (portsAtFrameStart_keeps _ sh _).after ((modLine_keeps _ _).after (frameSync_keeps s))
  unfold frameStartEvent frameStarted
  dsimp only
  repeat' split
  · exact started.trans (boundary_keeps _)
  · exact started
  · exact .refl s

/-! ### The configuration events -/

theorem rejectImage_keepsTables (reason : FaultReason) (o : Origin) (s : State) :
    KeepsTables s (rejectImage reason o s) := by
  have faulted : KeepsTables s ((s.modSync (fun y => { y with state := .configFault })).modLoader (fun l =>
      { l with status := .faulted, reason := some reason, origin := some o, boot := .released })) := ⟨id, id, id, id, id⟩
  exact faulted.trans (notify_keeps _ _).toKeepsTables

theorem hasRepeat_eq_false {l : List Nat} (single : hasRepeat l = false) : l.Nodup := by
  induction l with
  | nil => exact .nil
  | cons x rest ih =>
    simp only [hasRepeat, Bool.or_eq_false_iff, List.contains_eq_mem, decide_eq_false_iff_not] at single
    exact List.nodup_cons.mpr ⟨single.1, ih single.2⟩

/-- An image that passes the fifth test of R180 has no source tag twice. -/
theorem sourceTags_nodup {bytes : List Byte} (valid : validateImage bytes = none) :
    ((readImage bytes).sources.map SourceConfig.tag).Nodup := by
  unfold validateImage at valid
  dsimp only at valid
  repeat' split at valid
  all_goals try cases valid
  next fifth _ _ _ =>
    simp only [Bool.or_eq_true, not_or, Bool.not_eq_true] at fifth
    exact hasRepeat_eq_false fifth.1.1

theorem coldSource_ok (cfg : SourceConfig) : SourceOk (Source.cold cfg) :=
  ⟨Nat.zero_le _, Nat.zero_le _, Nat.zero_le _, Nat.zero_le _, Nat.zero_le _⟩

theorem coldSink_ok (cfg : SinkConfig) : SinkOk (Sink.cold cfg) :=
  ⟨Nat.zero_le _, fun _ => rfl, Nat.zero_le _, Nat.zero_le _⟩

theorem acceptImage_keepsTables (o : Origin) {im : Image} (tags : (im.sources.map SourceConfig.tag).Nodup) (s : State) :
    KeepsTables s (acceptImage o im s) := by
  have configured : KeepsTables s ((configure o im s).modSync
      (fun y => { y.toListen with tick := 0, frameIndex := 0, superframe := 0 })) := by
    refine ⟨id, id, id, fun _ => ⟨fun c mem => ?_, ?_⟩, fun _ c mem => ?_⟩
    · obtain ⟨cfg, -, rfl⟩ := List.mem_map.mp mem
      exact coldSource_ok cfg
    · simpa [configure, Function.comp_def, Source.cold] using tags
    · obtain ⟨cfg, -, rfl⟩ := List.mem_map.mp mem
      exact coldSink_ok cfg
  unfold acceptImage firstFrameStart
  refine configured.trans (Keeps.toKeepsTables (.forEach 4 _ (fun p t => ?_)))
  split
  · exact followFrame_keeps false p [] t
  · exact .refl t

theorem judgeImage_keepsTables (o : Origin) (bytes : List Byte) (s : State) :
    KeepsTables s (judgeImage o bytes s).2 := by
  unfold judgeImage
  split
  · exact rejectImage_keepsTables _ o s
  case h_2 valid => exact acceptImage_keepsTables o (sourceTags_nodup valid) s

theorem judgeImage_tx (o : Origin) (bytes : List Byte) (s : State) : (judgeImage o bytes s).2.tx = s.tx := by
  unfold judgeImage
  split
  · simp [rejectImage]
  · simp

theorem bootStart_keepsTables (b : Byte) (s : State) : KeepsTables s (bootStart b s) := by
  unfold bootStart
  repeat' split
  all_goals exact ⟨id, id, id, id, id⟩

theorem bootLength_keepsTables (b : Byte) (s : State) : KeepsTables s (bootLength b s) := by
  unfold bootLength
  repeat' split
  · exact ⟨id, id, id, id, id⟩
  · exact rejectImage_keepsTables _ _ s
  · exact .refl s

theorem bootComplete_keepsTables (rest : List Byte) (s : State) : KeepsTables s (bootComplete rest s) := by
  unfold bootComplete
  repeat' split
  · exact judgeImage_keepsTables _ _ s
  · exact .refl s
  · exact .refl s

theorem judgeLoad_keepsTables (bytes : List Byte) (s : State) : KeepsTables s (judgeLoad bytes s) := by
  have judged := judgeImage_keepsTables .lmp bytes s
  unfold judgeLoad
  split
  · split
    case h_1 result => exact (result ▸ judged).trans (respond_keeps _ _ _).toKeepsTables
    case h_2 result => exact (result ▸ judged).trans (respond_keeps _ _ _).toKeepsTables
  · exact (respond_keeps _ _ s).toKeepsTables

theorem loadRequest_keepsTables (bytes : List Byte) (s : State) : KeepsTables s (loadRequest bytes s) := by
  unfold loadRequest
  split
  · exact judgeLoad_keepsTables _ s
  · exact .refl s

/-! ### Every event -/

/-- Every event but those of the configuration keeps every range. -/
theorem Event.run_keeps {e : Event} (other : e.configures = false) (s : State) : Keeps s (e.run s) := by
  cases e with
  | bootStart | bootLength | bootComplete | load => cases other
  | respond st body => exact respond_keeps st body s
  | act a i => exact act_keeps a i s
  | relay target code i => exact relayRequest_keeps target code i s
  | relayResult h => exact relayResult_keeps _ s
  | takeNotice => exact takeHead_keeps s
  | endTransaction k => exact endTransaction_keeps k s
  | frameStart sh => exact frameStartEvent_keeps sh s
  | report line => exact reportEvent_keeps line s
  | slotStart start => exact slotStartEvent_keeps start.slot start.act s
  | slotEnd k line => exact slotEndEvent_keeps k line s
  | build =>
    show Keeps s (whenDue drivesOwnCell buildCell s)
    unfold whenDue
    split
    · exact buildCell_keeps s
    · exact .refl s
  | sent => exact sentEvent_keeps s
  | readback line => exact readbackEvent_keeps line s
  | cell line => exact cellEvent_keeps line s
  | strobe p k bits =>
    show Keeps s (whenDue (takesStrobe p) (Machine.strobe p k bits) s)
    unfold whenDue
    split
    · exact strobe_keeps p k bits s
    · exact .refl s

theorem Event.run_keepsTables (e : Event) (s : State) : KeepsTables s (e.run s) := by
  cases e with
  | bootStart b => exact bootStart_keepsTables b s
  | bootLength b => exact bootLength_keepsTables b s
  | bootComplete rest => exact bootComplete_keepsTables rest s
  | load bytes => exact loadRequest_keepsTables bytes s
  | _ => exact (Event.run_keeps rfl s).toKeepsTables

end Sys2Proof.Proofs
end

section
/-! Every step keeps the ranges of the tables and of the queues: O57 and O60, and the half of O58 and of O59 on ranges. -/

namespace Sys2Proof.Proofs

open Sys2Proof.Machine

/-- The configuration events leave the cell transmitter. -/
theorem Event.run_tx_of_configures {e : Event} (configures : e.configures = true) (s : State) : (e.run s).tx = s.tx := by
  cases e with
  | bootStart b =>
    dsimp only [Event.run, Machine.bootStart]
    repeat' split
    all_goals rfl
  | bootLength b =>
    dsimp only [Event.run, Machine.bootLength]
    repeat' split
    · rfl
    · simp [rejectImage]
    · rfl
  | bootComplete rest =>
    dsimp only [Event.run, Machine.bootComplete]
    repeat' split
    · exact judgeImage_tx _ _ s
    · rfl
    · rfl
  | load bytes =>
    dsimp only [Event.run, loadRequest]
    split
    · have judged := judgeImage_tx .lmp ‹_› s
      unfold judgeLoad
      split
      · split
        case h_1 result => simpa [result] using judged
        case h_2 result => simpa [result] using judged
      · simp
    · rfl
  | _ => cases configures

/-- Outside the configuration states the configuration events leave the sync controller (R178 to R181). -/
theorem Event.run_sync_of_configures {e : Event} (configures : e.configures = true) {s : State} (ok : BootOk s)
    (runs : s.sync.state.timerRuns = true) : (e.run s).sync = s.sync := by
  have released : s.loader.boot = .released := by
    by_contra reading
    rw [ok.1 reading] at runs
    cases runs
  cases e with
  | bootStart b => simp [Event.run, Machine.bootStart, released]
  | bootLength b => simp [Event.run, Machine.bootLength, released]
  | bootComplete rest => simp [Event.run, Machine.bootComplete, released]
  | load bytes =>
    dsimp only [Event.run, loadRequest]
    split
    · unfold judgeLoad
      split
      case isTrue waits => rcases waits with waits | waits <;> (rw [waits] at runs; cases runs)
      case isFalse => rfl
    · rfl
  | _ => cases configures

theorem timerRuns_of_queues {st : SyncState} (queues : st.queues = true) : st.timerRuns = true := by
  revert queues
  cases st <;> simp [SyncState.queues, SyncState.timerRuns]

/-- Every event keeps the outgoing queue in its range (R37, R48, R49). -/
theorem Event.run_queueOk (e : Event) {s : State} (boot : BootOk s) (ok : QueueOk s) : QueueOk (e.run s) := by
  cases configures : e.configures with
  | false => exact (Event.run_keeps configures s).queue ok
  | true =>
    have tx := Event.run_tx_of_configures configures s
    cases queues : s.sync.state.queues with
    | false => exact queueOk_of_empty (tx ▸ ok.2.1 queues)
    | true =>
      have sync := Event.run_sync_of_configures configures boot (timerRuns_of_queues queues)
      simpa only [QueueOk, tx, sync] using ok

/-! ### Cold reset -/

theorem coldReset_keeps (s : State) : KeepsTables s (coldReset s) ∧ QueueOk (coldReset s) :=
  ⟨⟨fun _ => ⟨Nat.zero_le _, nofun, Nat.zero_le _⟩, fun _ => ⟨rfl, List.nodup_nil, Nat.succ_pos 255⟩, fun _ => coldSlots_ok,
    fun _ => ⟨nofun, List.nodup_nil⟩, fun _ => nofun⟩, queueOk_of_empty rfl⟩

theorem releaseReset_keeps (s : State) : Keeps s (releaseReset s) := by
  unfold releaseReset
  split
  · exact .elsewhere rfl rfl rfl rfl rfl rfl rfl
  · exact .refl s

/-! ### Steps -/

/-- Settles O57: each command keeps the boot read's states, the notice queue by its rule, and the outgoing queue by the
sync state it leaves. -/
theorem stepKeepsTheQueues : Obligations.StepKeepsTheQueues := by
  intro s t boot next
  have bootKept (s t : State) (next : step s = .next t) : BootOk s → BootOk t :=
    step_keeps (P := BootOk) (fun _ _ ok => ok) (fun s _ => coldReset_bootOk s) (fun _ ok => releaseReset_bootOk ok)
      (fun e _ high ok => e.run_bootOk high ok) next
  refine ⟨bootKept s t next boot, ?_, fun ok => ?_⟩
  · exact step_keeps (P := NoticesOk) (fun _ _ ok => ok) (fun s => (coldReset_keeps s).1.notices)
      (fun s => (releaseReset_keeps s).notices) (fun e s _ => (e.run_keepsTables s).notices) next
  · refine (step_keeps (P := fun s => BootOk s ∧ QueueOk s) (fun _ _ ok => ok) ?_ ?_ ?_ next ⟨boot, ok⟩).2
    · exact fun s _ => ⟨coldReset_bootOk s, (coldReset_keeps s).2⟩
    · exact fun s ok => ⟨releaseReset_bootOk ok.1, (releaseReset_keeps s).queue ok.2⟩
    · exact fun e s high ok => ⟨e.run_bootOk high ok.1, e.run_queueOk ok.1 ok.2⟩

/-- Settles O60: each operation on a source or a sink keeps its ranges, and acceptance gives cold ones with single tags. -/
theorem stepKeepsSourcesAndSinks : Obligations.StepKeepsSourcesAndSinks := fun _ _ next =>
  ⟨step_keeps (P := SourcesOk) (fun _ _ ok => ok) (fun s => (coldReset_keeps s).1.sources)
      (fun s => (releaseReset_keeps s).sources) (fun e s _ => (e.run_keepsTables s).sources) next,
    step_keeps (P := SinksOk) (fun _ _ ok => ok) (fun s => (coldReset_keeps s).1.sinks)
      (fun s => (releaseReset_keeps s).sinks) (fun e s _ => (e.run_keepsTables s).sinks) next⟩

theorem step_keeps_relaysOk {s t : State} (next : step s = .next t) : RelaysOk s → RelaysOk t :=
  step_keeps (P := RelaysOk) (fun _ _ ok => ok) (fun s => (coldReset_keeps s).1.relays)
    (fun s => (releaseReset_keeps s).relays) (fun e s _ => (e.run_keepsTables s).relays) next

theorem step_keeps_slotsOk {s t : State} (next : step s = .next t) : SlotsOk s → SlotsOk t :=
  step_keeps (P := SlotsOk) (fun _ _ ok => ok) (fun s => (coldReset_keeps s).1.slots)
    (fun s => (releaseReset_keeps s).slots) (fun e s _ => (e.run_keepsTables s).slots) next

end Sys2Proof.Proofs
end

section
/-! The ranges of the sync controller, operation by operation, and what O59 says of it. -/

namespace Sys2Proof.Proofs

open Sys2Proof.Machine

/-- An operation that keeps the sync controller in its ranges (R15, R16, R18). -/
def SyncKept (s t : State) : Prop := SyncOk s → SyncOk t

namespace SyncKept

theorem refl (s : State) : SyncKept s s := id

theorem trans {s t u : State} (h : SyncKept s t) (k : SyncKept t u) : SyncKept s u := k ∘ h

theorem after {s t u : State} (k : SyncKept t u) (h : SyncKept s t) : SyncKept s u := h.trans k

theorem foldl {α : Type} {f : State → α → State} (l : List α) (s : State) (round : ∀ t x, SyncKept t (f t x)) :
    SyncKept s (l.foldl f s) :=
  foldl_inv (SyncKept s) f l s (refl s) (fun t x h => h.trans (round t x))

/-- An operation of another block. -/
theorem of_same {s t : State} (same : t.sync = s.sync) : SyncKept s t := fun ok => by
  simpa only [SyncOk, same] using ok

end SyncKept

/-- An advance of 0 lies in its range (R15). -/
theorem zero_ge_low : (-2 : Int) ≤ 0 := by decide

theorem zero_le_high : (0 : Int) ≤ 2 := by decide

/-! ### The sync controller's operations -/

theorem enterListen_syncKept (s : State) : SyncKept s (enterListen s) := fun ok => by
  obtain ⟨index, -, -, -, -, -, -, acquire, -, learn, -, -⟩ := ok
  exact ⟨index, zero_ge_low, zero_le_high, fun _ => rfl, fun _ => le_refl 0, fun _ => rfl, Nat.zero_le _, acquire, Nat.zero_le _,
    learn, Nat.zero_le _, Nat.zero_le _⟩

theorem teardown_syncOk {report : State → State} (s : State) (keeps : ∀ t, (report t).sync = t.sync) :
    SyncOk (teardown report s) := by
  have torn : (teardown report s).sync = s.sync.teardown := by simp [keeps, teardownBlocks]
  unfold SyncOk
  rw [torn]
  exact ⟨Nat.succ_pos 31, zero_ge_low, zero_le_high, fun _ => rfl, fun _ => le_refl 0, fun _ => rfl, Nat.zero_le _, Nat.zero_le _,
    Nat.zero_le _, Nat.zero_le _, Nat.zero_le _, Nat.zero_le _⟩

theorem notifySync_sync (c : SyncCause) (s : State) : (notifySync c s).sync = s.sync := rfl

theorem enterMute_syncKept (s : State) : SyncKept s (enterMute s) := fun ok => by
  obtain ⟨index, low, high, -, -, -, edges, acquire, -, learn, -, -⟩ := ok
  have muted : (enterMute s).sync = s.sync.toMute := by simp [enterMute, abortRelays]
  unfold SyncOk
  rw [muted]
  exact ⟨index, low, high, nofun, nofun, fun _ => rfl, edges, acquire, Nat.zero_le _, learn, Nat.zero_le _, Nat.zero_le _⟩

/-- Between two states that drive nothing changes in the ranges (R16, R18). -/
theorem syncOk_of_drives {s t : State} {st : SyncState} (ok : SyncOk s) (drove : s.sync.state.drives = true)
    (drives : st.drives = true) (sync : t.sync = { s.sync with state := st }) : SyncOk t := by
  obtain ⟨index, low, high, -, forward, -, rest⟩ := ok
  unfold SyncOk
  rw [sync]
  refine ⟨index, low, high, fun listens => ?_, fun _ => forward drove, fun still => ?_, rest⟩
  · rw [show st = .listen from listens] at drives
    cases drives
  · rw [show st.drives = false from still] at drives
    cases drives

theorem restart_syncKept (s : State) : SyncKept s (restart s).2 := by
  have leaving : (enterLeaving s).sync = { s.sync with state := .leaving } := by simp [enterLeaving]
  unfold restart
  split
  case h_1 st => exact fun ok => syncOk_of_drives (st := .leaving) ok (by rw [st]; rfl) rfl leaving
  case h_2 st => exact fun ok => syncOk_of_drives (st := .leaving) ok (by rw [st]; rfl) rfl leaving
  case h_3 | h_4 => exact fun _ => teardown_syncOk s (notifySync_sync _)
  case h_5 | h_6 => exact enterListen_syncKept s
  all_goals exact .refl s

theorem doAction_syncKept (a : Action) (n : Nat) (s : State) : SyncKept s (doAction a n s).2 := by
  cases a with
  | muteSource | unmuteSource | muteSink | unmuteSink =>
    dsimp only [doAction]
    split
    all_goals exact .of_same rfl
  | reseekSource =>
    dsimp only [doAction, reseek]
    repeat' split
    · exact .of_same (by simp)
    · exact .refl s
    · exact .refl s
  | clearCounters => exact fun ok => ok
  | restart => exact restart_syncKept s

theorem act_syncKept (a : Action) (i : Byte) (s : State) : SyncKept s (act a i s) := by
  unfold act
  split
  · exact .of_same rfl
  · exact (doAction_syncKept a i.toNat s).trans (.of_same rfl)

theorem meetingAct_syncKept (a : Option (Byte × Byte)) (s : State) : SyncKept s (meetingAct a s) := by
  rcases a with _ | ⟨code, i⟩
  · exact .refl s
  · dsimp only [meetingAct, actRequest]
    split
    · exact act_syncKept _ i s
    · exact .of_same rfl

theorem relayRequest_sync (target : Byte) (code : Option Code) (i : Byte) (s : State) :
    (relayRequest target code i s).sync = s.sync := by
  unfold relayRequest askRelay
  repeat' split
  all_goals simp [acceptRelay]

theorem relayResult_sync (h : Nat) (s : State) : (relayResult h s).sync = s.sync := by
  unfold relayResult
  repeat' split
  all_goals rfl

theorem takeHead_sync (s : State) : (takeHead s).sync = s.sync := by
  unfold takeHead
  split <;> rfl

/-! ### Cells -/

/-- The sender id a cell decodes to is a number of five bits (R190). -/
theorem decodeCell_sender_lt {w : CellWindow} {c : Cell} (decoded : decodeCell w = some c) : c.sender < 32 := by
  unfold decodeCell at decoded
  obtain ⟨bits, -, read⟩ := Option.bind_eq_some_iff.mp decoded
  unfold readCell at read
  split at read
  · cases Option.some.inj read
    have short := natOf_lt ((bits.drop 0).take 5)
    have five : ((bits.drop 0).take 5).length ≤ 5 := List.length_take_le _ _
    exact lt_of_lt_of_le short (Nat.pow_le_pow_right (by decide) five)
  · cases read

theorem classifyCell_sender_lt {w : CellWindow} {c : Cell} (good : classifyCell w = .good c) : c.sender < 32 := by
  unfold classifyCell at good
  repeat' split at good
  · cases good
  · cases good
    exact decodeCell_sender_lt ‹_›
  · cases good

theorem adopt_syncKept {c : Cell} (sender : c.sender < 32) (s : State) : SyncKept s (adopt c s) :=
  fun ⟨_, rest⟩ => ⟨sender, rest⟩

theorem enterLearn_syncKept {c : Cell} (sender : c.sender < 32) {s : State} (acquiring : s.sync.state = .acquire) :
    SyncKept s (enterLearn c s) := fun ok => by
  obtain ⟨-, low, high, -, -, leading, edges, acquire, misses, -, rest⟩ := ok
  exact ⟨sender, low, high, nofun, nofun, fun _ => leading (by rw [acquiring]; rfl), edges, acquire, misses, Nat.zero_le _, rest⟩

theorem serveCommand_syncKept (x q : Nat) (a : Action) (i : Nat) (s : State) : SyncKept s (serveCommand x q a i s) := by
  unfold serveCommand
  split
  · refine (doAction_syncKept a i s).trans (.of_same ?_)
    simp [countReq]
  · exact .of_same (by simp [countReq])

theorem dispatchItem_syncKept (x : Nat) (it : Item) (s : State) : SyncKept s (dispatchItem x it s) := by
  cases it with
  | claim | offer | release | leave => exact .of_same (by simp [dispatchItem])
  | probe =>
    dsimp only [dispatchItem]
    repeat' split
    all_goals exact .of_same (by simp [serveProbe, countReq])
  | command =>
    dsimp only [dispatchItem]
    repeat' split
    · exact serveCommand_syncKept x _ _ _ s
    · exact .refl s
    · exact .refl s
  | answer =>
    dsimp only [dispatchItem, takeAnswer]
    repeat' split
    all_goals exact .of_same (by simp [countReq])
  | unknown => exact .refl s

theorem dispatchItems_syncKept (x : Nat) (items : List Item) (s : State) : SyncKept s (dispatchItems x items s) := by
  induction items generalizing s with
  | nil => exact .refl s
  | cons it rest ih =>
    rw [dispatchItems]
    repeat' split
    · exact ih (s.modRx _)
    · exact .of_same (by simp)
    · exact (dispatchItem_syncKept x it s).trans (ih _)
    · exact .refl s

theorem acceptCell_syncKept (c : Cell) (s : State) : SyncKept s (acceptCell c s) :=
  (SyncKept.of_same (by simp)).trans (dispatchItems_syncKept _ _ _)

theorem reportMissed_sync (cause : MissCause) (s : State) : (reportMissed cause s).sync = s.sync := by
  unfold reportMissed
  split <;> simp

theorem damagedCell_sync (s : State) : (damagedCell s).sync = s.sync := reportMissed_sync _ _

theorem discardCell_syncKept (c : Cell) (s : State) : SyncKept s (discardCell c s) :=
  (SyncKept.of_same (reportMissed_sync _ _)).after (fun ok => ok)

theorem validCell_syncKept {c : Cell} (sender : c.sender < 32) (s : State) : SyncKept s (validCell c s) := by
  unfold validCell
  repeat' split
  · exact enterMute_syncKept s
  · exact .of_same rfl
  · exact (acceptCell_syncKept c _).after (fun ok => ok)
  · exact (adopt_syncKept sender s).trans (acceptCell_syncKept c _)
  · exact discardCell_syncKept c s

theorem takeCell_syncKept {w : CellWindow} (s : State) : SyncKept s (takeCell (classifyCell w) s) := by
  have sender (c : Cell) : classifyCell w = .good c → c.sender < 32 := classifyCell_sender_lt
  revert sender
  generalize classifyCell w = cl
  intro sender
  unfold takeCell
  split
  case isTrue acquiring =>
    cases cl with
    | silent | damaged => exact .refl s
    | good c =>
      dsimp only
      split
      · exact enterLearn_syncKept (sender c rfl) acquiring
      · exact .refl s
  case isFalse =>
    split
    · cases cl with
      | silent => exact .of_same (reportMissed_sync _ s)
      | damaged => exact .of_same (damagedCell_sync s)
      | good c =>
        dsimp only
        split
        · exact validCell_syncKept (sender c rfl) s
        · exact .of_same (damagedCell_sync s)
    · exact .refl s

theorem cellEvent_syncKept (line : OnLine CellWindow) (s : State) : SyncKept s (cellEvent line s) := by
  unfold cellEvent
  split
  · exact (takeCell_syncKept _).after (fun ok => ok)
  · exact .refl s

theorem readbackEvent_syncKept (line : OnLine CellWindow) (s : State) : SyncKept s (readbackEvent line s) := by
  unfold readbackEvent
  split
  · refine SyncKept.trans (t := atTick 255 s) (fun ok => ok) ?_
    unfold cellReadback
    dsimp only
    repeat' split
    · exact fun ⟨a, b, c, d, e, f, g, h, i, j, k, _⟩ => ⟨a, b, c, d, e, f, g, h, i, j, k, Nat.zero_le _⟩
    case isTrue low =>
      exact fun ⟨a, b, c, d, e, f, g, h, i, j, k, _⟩ => ⟨a, b, c, d, e, f, g, h, i, j, k, low.le⟩
    · exact (enterMute_syncKept _).after (fun ok => ok)
    · exact fun ok => ok
  · exact .refl s

theorem itemSent_syncKept (sf : Superframe) (cell : List Placed) (p : Placed) (s : State) :
    SyncKept s (itemSent sf cell p s) := by
  unfold itemSent
  repeat' split
  · exact .of_same (by simp)
  · exact .of_same (by simp)
  · exact .of_same (by simp)
  · exact .of_same (by simp)
  · exact .refl s
  · exact .refl s
  · exact fun _ => teardown_syncOk s (notifySync_sync _)
  · exact .refl s

theorem sentEvent_syncKept (s : State) : SyncKept s (sentEvent s) := by
  unfold sentEvent
  split
  · unfold cellSent
    dsimp only
    refine SyncKept.trans ?_ (.foldl _ _ (fun t p => itemSent_syncKept _ _ p t))
    split <;> exact fun ok => ok
  · exact .refl s

theorem buildCell_syncKept (s : State) : SyncKept s (buildCell s) := by
  refine SyncKept.trans (t := atTick 32 s) (fun ok => ok) (.of_same ?_)
  simp [buildCell]

/-! ### Marker reports -/

theorem limitLead_range (lead : Int) : -2 ≤ limitLead lead ∧ limitLead lead ≤ 2 := by
  unfold limitLead
  omega

theorem slewReport_syncKept (leads : List Int) {s : State} (notListen : s.sync.state ≠ .listen)
    (undriven : s.sync.state.drives = false) : SyncKept s (slewReport leads s) := fun ok => by
  obtain ⟨index, -, -, -, -, leading, edges, acquire, misses, rest⟩ := ok
  have scheduled (advance : Int) (count : Nat) (low : -2 ≤ advance) (high : advance ≤ 2) (few : count ≤ 4) :
      SyncOk (s.modSync (fun y => { y with advance := advance, edgeMiss := count })) :=
    ⟨index, low, high, fun listens => absurd listens notListen,
      fun drives => absurd (undriven.symm.trans drives) (by decide), leading, edges, acquire, few, rest⟩
  unfold slewReport
  split
  · exact scheduled _ 0 (limitLead_range _).1 (limitLead_range _).2 (Nat.zero_le _)
  · dsimp only
    split
    · unfold edgeMissLimit
      split
      case h_1 =>
        exact ⟨index, zero_ge_low, zero_le_high, fun _ => rfl, fun _ => le_refl 0, fun _ => rfl, Nat.zero_le _, acquire,
          Nat.zero_le _, rest.1, Nat.zero_le _, Nat.zero_le _⟩
      case h_2 => exact teardown_syncOk _ (notifySync_sync _)
      case h_3 => exact scheduled 0 3 (by decide) (by decide) (by decide)
    · next fewer =>
      have few : s.sync.edgeMiss + 1 < 3 := not_le.mp fewer
      exact scheduled 0 _ (by decide) (by decide) (by omega)

theorem driveAdvance_range (first : Option Int) : 0 ≤ driveAdvance first ∧ driveAdvance first ≤ 2 := by
  cases first with
  | none => exact ⟨le_refl _, by decide⟩
  | some d =>
    dsimp only [driveAdvance]
    repeat' split
    all_goals omega

theorem driveReport_syncKept (leads : List Int) {s : State} (drives : s.sync.state.drives = true) :
    SyncKept s (driveReport leads s) := fun ok => by
  obtain ⟨index, -, -, -, -, -, edges, acquire, misses, learn, earlier, mismatch⟩ := ok
  have range := driveAdvance_range leads.head?
  unfold driveReport
  dsimp only
  split
  · exact teardown_syncOk _ (notifySync_sync _)
  · next notYield =>
    split
    · exact teardown_syncOk _ (fun _ => rfl)
    · next notFault =>
      refine ⟨index, by show -2 ≤ driveAdvance _; omega, range.2, fun listens => ?_, fun _ => range.1, fun still => ?_, edges,
        acquire, by omega, learn, by omega, mismatch⟩
      · rw [show s.sync.state = .listen from listens] at drives
        cases drives
      · exact absurd (drives.symm.trans still) (by decide)

theorem listenReport_syncKept (leads : List Int) {s : State} (listening : s.sync.state = .listen) :
    SyncKept s (s.modSync (Sync.listenReport leads)) := fun ok => by
  obtain ⟨index, low, high, still, forward, leading, -, acquire, misses, rest⟩ := ok
  have quiet : s.sync.leading = false := leading (by rw [listening]; rfl)
  show SyncOk { s with sync := s.sync.listenReport leads }
  unfold Sync.listenReport
  repeat' split
  · exact ⟨index, low, high, still, forward, leading, Nat.zero_le _, acquire, misses, rest⟩
  · exact ⟨index, zero_ge_low, zero_le_high, nofun, nofun, fun _ => quiet, le_refl 2, Nat.zero_le _, Nat.zero_le _, rest⟩
  · next few => exact ⟨index, low, high, still, forward, leading, by dsimp only; omega, acquire, misses, rest⟩

theorem reportEvent_syncKept (line : OnLine LineTicks) (s : State) : SyncKept s (reportEvent line s) := by
  have ticked : SyncKept s (atTick 1023 s) := fun ok => ok
  unfold reportEvent
  split
  · unfold reportMade
    dsimp only
    split
    case h_1 st => exact ticked.trans (listenReport_syncKept _ st)
    case h_2 st | h_3 st | h_4 st =>
      refine ticked.trans (slewReport_syncKept _ ?_ ?_)
      · rw [atTick_sync, st]; decide
      · rw [atTick_sync, st]; rfl
    case h_5 st | h_6 st | h_7 st =>
      refine ticked.trans (driveReport_syncKept _ ?_)
      rw [atTick_sync, st]; rfl
    all_goals exact .refl s
  · exact .refl s

/-! ### Frame starts -/

/-- At a frame start the advance is cleared (R16). -/
theorem endFrame_syncOk {s : State} (ok : SyncOk s) : SyncOk (endFrame s) := by
  obtain ⟨index, -, -, -, -, rest⟩ := ok
  exact ⟨index, zero_ge_low, zero_le_high, fun _ => rfl, fun _ => le_refl 0, rest⟩

theorem endFrame_advance (s : State) : (endFrame s).sync.advance = 0 := rfl

theorem stepIndex_eq (y : Sync) : y.stepIndex =
    { y with frameIndex := if y.frameIndex = 31 then 0 else y.frameIndex + 1
             superframe := if y.frameIndex = 31 then y.superframe + 1 else y.superframe } := by
  unfold Sync.stepIndex
  split <;> rfl

theorem stepIndex_syncKept (s : State) : SyncKept s (s.modSync Sync.stepIndex) := fun ok => by
  obtain ⟨index, rest⟩ := ok
  show SyncOk { s with sync := s.sync.stepIndex }
  rw [stepIndex_eq]
  refine ⟨?_, rest⟩
  dsimp only
  split <;> omega

theorem enterLockedNow_sync (s : State) : (enterLockedNow s).sync = { s.sync with state := .locked } := by
  simp [enterLockedNow]

/-- Entry to LOCKED with no advance behind the trunk (R16, R24, R27). -/
theorem enterLockedNow_syncOk {s : State} (ok : SyncOk s) (forward : 0 ≤ s.sync.advance) : SyncOk (enterLockedNow s) := by
  obtain ⟨index, low, high, -, -, -, rest⟩ := ok
  unfold SyncOk
  rw [enterLockedNow_sync]
  exact ⟨index, low, high, nofun, fun _ => forward, nofun, rest⟩

theorem syncAtFrameStart_syncKept {s : State} (cleared : s.sync.advance = 0) : SyncKept s (syncAtFrameStart s) := by
  unfold syncAtFrameStart
  split
  · exact fun ok => ok
  · split
    case isTrue low =>
      exact fun ⟨a, b, c, d, e, f, g, _, rest⟩ => ⟨a, b, c, d, e, f, g, by dsimp only [State.modSync]; omega, rest⟩
    case isFalse =>
      refine (enterListen_syncKept _).after ?_
      exact fun ⟨a, b, c, d, e, f, g, _, rest⟩ => ⟨a, b, c, d, e, f, g, le_refl 64, rest⟩
  · split
    · refine fun ⟨a, b, c, d, e, f, g, h, _, j, _, _⟩ => enterLockedNow_syncOk ?_ cleared.ge
      exact ⟨a, b, c, d, e, f, g, h, Nat.zero_le _, j, Nat.zero_le _, Nat.zero_le _⟩
    · exact .refl s
  · exact .refl s

theorem enterFounding_syncKept {s : State} (cleared : s.sync.advance = 0) : SyncKept s (enterFounding s) := fun ok => by
  obtain ⟨-, low, high, -, -, -, -, acquire, -, learn, -, -⟩ := ok
  exact ⟨Nat.succ_pos 31, low, high, nofun, fun _ => cleared.ge, nofun, Nat.zero_le _, acquire, Nat.zero_le _, learn,
    Nat.zero_le _, Nat.zero_le _⟩

theorem frameSync_syncKept (s : State) : SyncKept s (frameSync s) := fun ok => by
  have ended := endFrame_syncOk ok
  unfold frameSync
  split
  · exact enterFounding_syncKept rfl ended
  · refine syncAtFrameStart_syncKept ?_ (stepIndex_syncKept _ ended)
    show (endFrame s).sync.stepIndex.advance = 0
    rw [stepIndex_eq]
    rfl

theorem syncAtBoundary_syncKept (s : State) : SyncKept s (syncAtBoundary s) := by
  unfold syncAtBoundary
  split
  · exact fun ⟨a, b, c, d, e, f, g, h, i, _, rest⟩ => ⟨a, b, c, d, e, f, g, h, i, Nat.min_le_right _ _, rest⟩
  case h_2 founding => exact fun ok => enterLockedNow_syncOk ok (ok.2.2.2.2.1 (by rw [founding]; rfl))
  · exact .refl s

theorem boundary_syncKept (s : State) : SyncKept s (boundary s) := by
  refine (syncAtBoundary_syncKept s).trans (.of_same ?_)
  unfold boundary
  dsimp only
  split <;> simp

theorem frameStartEvent_syncKept (sh : List (List Bool)) (s : State) : SyncKept s (frameStartEvent sh s) := by
  have started : SyncKept s (portsAtFrameStart (followCutShort s.sync.jump) sh (driveMarker (frameSync s))) :=
    (frameSync_syncKept s).trans (.of_same (by simp))
  unfold frameStartEvent frameStarted
  dsimp only
  repeat' split
  · exact started.trans (boundary_syncKept _)
  · exact started
  · exact .refl s

/-! ### Data slots -/

theorem slotStartEvent_syncKept (k : Nat) (a : Option (Byte × Byte)) (s : State) :
    SyncKept s (slotStartEvent k (meetingAct a) s) := by
  unfold slotStartEvent
  split
  · unfold slotStarted
    have taken : SyncKept (atTick (32 * k) s) (forEach s.sources.length (takeAt k) (atTick (32 * k) s)) :=
      .foldl _ _ (fun t n => .of_same (by simp))
    have met := (meetingAct_syncKept a _).after (taken.after (fun ok => ok))
    exact (SyncKept.of_same (by simp)).after met
  · exact .refl s

theorem slotEndEvent_syncKept (k : Nat) (line : OnLine SlotWindow) (s : State) : SyncKept s (slotEndEvent k line s) := by
  unfold slotEndEvent
  split
  · refine SyncKept.trans (t := atTick (slotLastTick k s) s) (fun ok => ok) (.of_same ?_)
    unfold slotClassified
    exact forEach_inv (fun t => t.sync = (atTick (slotLastTick k s) s).sync) _ _ _ (by simp) (fun n t same => by simpa using same)
  · exact .refl s

/-! ### The configuration events -/

/-- A refused image enters CONFIG_FAULT from a state that does not drive either (R18, R181). -/
theorem rejectImage_syncKept (reason : FaultReason) (o : Origin) {s : State} (stopped : s.sync.state.timerRuns = false) :
    SyncKept s (rejectImage reason o s) := fun ok => by
  obtain ⟨index, low, high, -, -, leading, rest⟩ := ok
  refine ⟨index, low, high, nofun, nofun, fun _ => leading ?_, rest⟩
  revert stopped
  cases s.sync.state <;> simp [SyncState.timerRuns, SyncState.drives]

theorem acceptImage_sync (o : Origin) (im : Image) (s : State) : (acceptImage o im s).sync =
    { s.sync.toListen with tick := 0, frameIndex := 0, superframe := 0 } := by simp

theorem acceptImage_syncKept (o : Origin) (im : Image) (s : State) : SyncKept s (acceptImage o im s) := fun ok => by
  obtain ⟨-, -, -, -, -, -, -, acquire, -, learn, -, -⟩ := ok
  unfold SyncOk
  rw [acceptImage_sync]
  exact ⟨Nat.succ_pos 31, zero_ge_low, zero_le_high, fun _ => rfl, fun _ => le_refl 0, fun _ => rfl, Nat.zero_le _, acquire,
    Nat.zero_le _, learn, Nat.zero_le _, Nat.zero_le _⟩

theorem judgeImage_syncKept (o : Origin) (bytes : List Byte) {s : State} (stopped : s.sync.state.timerRuns = false) :
    SyncKept s (judgeImage o bytes s).2 := by
  unfold judgeImage
  split
  · exact rejectImage_syncKept _ o stopped
  · exact acceptImage_syncKept o _ s

theorem bootStart_syncKept (b : Byte) {s : State} (stopped : s.sync.state.timerRuns = false) :
    SyncKept s (bootStart b s) := by
  unfold bootStart
  repeat' split
  · exact .of_same rfl
  · intro ok
    obtain ⟨index, low, high, -, -, leading, rest⟩ := ok
    refine ⟨index, low, high, nofun, nofun, fun _ => leading ?_, rest⟩
    revert stopped
    cases s.sync.state <;> simp [SyncState.timerRuns, SyncState.drives]
  · exact .refl s

theorem Event.run_syncKept_of_configures {e : Event} (configures : e.configures = true) {s : State}
    (stopped : s.sync.state.timerRuns = false) : SyncKept s (e.run s) := by
  cases e with
  | bootStart b => exact bootStart_syncKept b stopped
  | bootLength b =>
    dsimp only [Event.run, Machine.bootLength]
    repeat' split
    · exact .of_same rfl
    · exact rejectImage_syncKept _ _ stopped
    · exact .refl s
  | bootComplete rest =>
    dsimp only [Event.run, Machine.bootComplete]
    repeat' split
    · exact judgeImage_syncKept _ _ stopped
    · exact .refl s
    · exact .refl s
  | load bytes =>
    dsimp only [Event.run, loadRequest, judgeLoad]
    split
    · have judged := judgeImage_syncKept .lmp ‹_› stopped
      split
      · split
        case h_1 t result =>
          have kept : SyncKept s t := by simpa only [result] using judged
          exact kept.trans (.of_same rfl)
        case h_2 t result =>
          have kept : SyncKept s t := by simpa only [result] using judged
          exact kept.trans (.of_same rfl)
      · exact .of_same rfl
    · exact .refl s
  | _ => cases configures

theorem Event.run_syncOk (e : Event) {s : State} (boot : BootOk s) : SyncKept s (e.run s) := by
  cases configures : e.configures with
  | true =>
    cases runs : s.sync.state.timerRuns with
    | false => exact Event.run_syncKept_of_configures configures runs
    | true => exact .of_same (Event.run_sync_of_configures configures boot runs)
  | false =>
    cases e with
    | bootStart | bootLength | bootComplete | load => cases configures
    | respond => exact .of_same rfl
    | act a i => exact act_syncKept a i s
    | relay target code i => exact .of_same (relayRequest_sync target code i s)
    | relayResult h => exact .of_same (relayResult_sync _ s)
    | takeNotice => exact .of_same (takeHead_sync s)
    | endTransaction k => exact .of_same (by simp [Event.run])
    | frameStart sh => exact frameStartEvent_syncKept sh s
    | report line => exact reportEvent_syncKept line s
    | slotStart start => exact slotStartEvent_syncKept start.slot start.act s
    | slotEnd k line => exact slotEndEvent_syncKept k line s
    | build =>
      show SyncKept s (whenDue drivesOwnCell buildCell s)
      unfold whenDue
      split
      · exact buildCell_syncKept s
      · exact .refl s
    | sent => exact sentEvent_syncKept s
    | readback line => exact readbackEvent_syncKept line s
    | cell line => exact cellEvent_syncKept line s
    | strobe p k bits =>
      refine .of_same ?_
      show (whenDue (takesStrobe p) (Machine.strobe p k bits) s).sync = s.sync
      unfold whenDue
      split <;> simp

theorem coldReset_syncOk (s : State) : SyncOk (coldReset s) :=
  ⟨Nat.succ_pos 31, zero_ge_low, zero_le_high, nofun, nofun, fun _ => rfl, Nat.zero_le _, Nat.zero_le _, Nat.zero_le _,
    Nat.zero_le _, Nat.zero_le _, Nat.zero_le _⟩

theorem releaseReset_syncKept (s : State) : SyncKept s (releaseReset s) := by
  unfold releaseReset
  split <;> exact .of_same rfl

/-- Settles O59: relay entries are opened with fresh numbers alone, and the sync controller's counts are cleared or the
state left where they would pass their ranges. -/
theorem stepKeepsRelaysAndSync : Obligations.StepKeepsRelaysAndSync := fun _ _ next => by
  refine ⟨step_keeps_relaysOk next, fun boot ok => ?_⟩
  refine (step_keeps (P := fun s => BootOk s ∧ SyncOk s) (fun _ _ ok => ok) ?_ ?_ ?_ next ⟨boot, ok⟩).2
  · exact fun s _ => ⟨coldReset_bootOk s, coldReset_syncOk s⟩
  · exact fun s ok => ⟨releaseReset_bootOk ok.1, releaseReset_syncKept s ok.2⟩
  · exact fun e s high ok => ⟨e.run_bootOk high ok.1, e.run_syncOk ok.1 ok.2⟩

end Sys2Proof.Proofs
end

section
/-! The slot map and the directory: what removing runs and installing one do, and that their agreement is kept. -/

namespace Sys2Proof.Proofs

open Sys2Proof.Machine

/-! ### Runs and entries -/

theorem inRun_iff {first count k : Nat} : inRun first count k = true ↔ first ≤ k ∧ k < first + count := by
  simp [inRun]

theorem mem_runSlots {first count k : Nat} : k ∈ runSlots first count ↔ first ≤ k ∧ k < first + count := by
  simp only [runSlots, List.mem_map, List.mem_range]
  constructor
  · rintro ⟨i, low, rfl⟩
    omega
  · rintro ⟨low, high⟩
    exact ⟨k - first, by omega, by omega⟩

theorem mem_runSlots_iff_inRun {first count k : Nat} : k ∈ runSlots first count ↔ inRun first count k = true :=
  mem_runSlots.trans inRun_iff.symm

/-- A slot in two runs makes them meet (R79, R81, R84). -/
theorem meets_of_inRun {e : DirEntry} {first count k : Nat} (inE : inRun e.first e.count k = true)
    (inRun' : inRun first count k = true) : e.meets first count = true := by
  rw [inRun_iff] at inE inRun'
  simp only [DirEntry.meets, runsOverlap, Bool.and_eq_true, decide_eq_true_eq]
  omega

theorem entry_unique {dir : List DirEntry} (single : (dir.map DirEntry.tag).Nodup) {d e : DirEntry} (hd : d ∈ dir)
    (he : e ∈ dir) (tag : d.tag = e.tag) : d = e := List.inj_on_of_nodup_map single hd he tag

theorem findTag_mem {tag : Nat} {dir : List DirEntry} {e : DirEntry} (found : findTag tag dir = some e) :
    e ∈ dir ∧ e.tag = tag := ⟨List.mem_of_find?_eq_some found, by simpa using List.find?_some found⟩

theorem findTag_eq_none {tag : Nat} {dir : List DirEntry} : findTag tag dir = none ↔ ∀ e ∈ dir, e.tag ≠ tag := by
  simp [findTag, List.find?_eq_none]

/-- With single tags, the entry of a tag is the one that carries it. -/
theorem findTag_eq_some {dir : List DirEntry} (single : (dir.map DirEntry.tag).Nodup) {tag : Nat} {e : DirEntry} :
    findTag tag dir = some e ↔ e ∈ dir ∧ e.tag = tag := by
  refine ⟨findTag_mem, fun ⟨mem, carries⟩ => ?_⟩
  cases found : findTag tag dir with
  | none => exact absurd carries (findTag_eq_none.mp found e mem)
  | some d =>
    obtain ⟨memD, tagD⟩ := findTag_mem found
    rw [entry_unique single memD mem (tagD.trans carries.symm)]

/-! ### What the agreement gives -/

/-- An entry's run lies in the map. -/
theorem MapOk.bounds {s : State} (ok : MapOk s) {e : DirEntry} (mem : e ∈ s.alloc.dir) :
    8 ≤ e.first ∧ 0 < e.count ∧ e.first + e.count ≤ 64 := by
  obtain ⟨first, count, last, -⟩ := ok.2.2.1 e mem
  exact ⟨first, count, last⟩

theorem MapOk.slot_range {s : State} (ok : MapOk s) {e : DirEntry} (mem : e ∈ s.alloc.dir) {k : Nat}
    (inside : inRun e.first e.count k = true) : 8 ≤ k ∧ k < 64 := by
  have bounds := MapOk.bounds ok mem
  rw [inRun_iff] at inside
  omega

/-- The slots of an entry's run carry it. -/
theorem MapOk.carries {s : State} (ok : MapOk s) {e : DirEntry} (mem : e ∈ s.alloc.dir) {k : Nat}
    (inside : inRun e.first e.count k = true) : accountedBy e (s.slot k).use = true := by
  obtain ⟨-, -, -, carries⟩ := ok.2.2.1 e mem
  exact carries k (mem_runSlots_iff_inRun.mpr inside)

/-- A slot with a holder lies in the run of an entry that accounts for it. -/
theorem MapOk.holder {s : State} (ok : MapOk s) {k : Nat} (low : 8 ≤ k) (high : k < 64)
    (held : (s.slot k).use.holder ≠ none) :
    ∃ e ∈ s.alloc.dir, inRun e.first e.count k = true ∧ accountedBy e (s.slot k).use = true :=
  ok.2.2.2 k (mem_runSlots.mpr ⟨low, by omega⟩) held

/-- A slot tells the tag of the entry that accounts for it. -/
theorem accountedBy_tag {e : DirEntry} {u : SlotUse} (accounted : accountedBy e u = true) : u.tag = some e.tag := by
  cases u <;> simp_all [accountedBy, SlotUse.tag]

theorem accountedBy_holder {e : DirEntry} {u : SlotUse} (accounted : accountedBy e u = true) :
    u.holder = some e.station := by
  cases u <;> simp_all [accountedBy, SlotUse.holder]

/-- Two entries with a slot in common are one. -/
theorem MapOk.sameEntry {s : State} (ok : MapOk s) {d e : DirEntry} (hd : d ∈ s.alloc.dir) (he : e ∈ s.alloc.dir)
    {k : Nat} (inD : inRun d.first d.count k = true) (inE : inRun e.first e.count k = true) : d = e := by
  have tagD := accountedBy_tag (MapOk.carries ok hd inD)
  have tagE := accountedBy_tag (MapOk.carries ok he inE)
  exact entry_unique ok.1 hd he (Option.some.inj (tagD.symm.trans tagE))

/-! ### Three ways the agreement is kept -/

/-- The map unchanged. -/
theorem MapOk.of_same {s t : State} (dir : t.alloc.dir = s.alloc.dir) (slots : t.alloc.slots = s.alloc.slots)
    (ok : MapOk s) : MapOk t := by
  simpa only [MapOk, DirOk, State.slot, dir, slots] using ok

/-- The entries with `p` gone, their slots without a holder, every other slot in its use. -/
theorem MapOk.of_removal {s t : State} (p : DirEntry → Bool) (ok : MapOk s)
    (dir : t.alloc.dir = s.alloc.dir.filter (fun e => !p e)) (length : t.alloc.slots.length = 56)
    (gone : ∀ e ∈ s.alloc.dir, p e = true → ∀ k, inRun e.first e.count k = true → (t.slot k).use.holder = none)
    (kept : ∀ k, 8 ≤ k → k < 64 → (∀ e ∈ s.alloc.dir, p e = true → inRun e.first e.count k = false) →
      (t.slot k).use = (s.slot k).use) : MapOk t := by
  have old {e : DirEntry} (mem : e ∈ t.alloc.dir) : e ∈ s.alloc.dir ∧ p e = false := by
    rw [dir] at mem
    simpa using mem
  have apart {d e : DirEntry} (hd : d ∈ s.alloc.dir) (keeps : p d = false) (he : e ∈ s.alloc.dir) (goes : p e = true) {k : Nat}
      (inD : inRun d.first d.count k = true) : inRun e.first e.count k = false := by
    by_contra inE
    rw [MapOk.sameEntry ok hd he inD (by simpa using inE)] at keeps
    exact absurd (keeps.symm.trans goes) (by decide)
  refine ⟨?_, length, fun e mem => ?_, fun k range held => ?_⟩
  · show (t.alloc.dir.map DirEntry.tag).Nodup
    rw [dir]
    exact ok.1.sublist (List.Sublist.map _ List.filter_sublist)
  · obtain ⟨mem, keeps⟩ := old mem
    obtain ⟨first, count, last⟩ := MapOk.bounds ok mem
    refine ⟨first, count, last, fun k run => ?_⟩
    have inside := mem_runSlots_iff_inRun.mp run
    obtain ⟨low, high⟩ := MapOk.slot_range ok mem inside
    rw [kept k low high (fun d there goes => apart mem keeps there goes inside)]
    exact MapOk.carries ok mem inside
  · obtain ⟨low, high⟩ := mem_runSlots.mp range
    have untouched : ∀ e ∈ s.alloc.dir, p e = true → inRun e.first e.count k = false := by
      intro e mem goes
      by_contra inside
      exact held (gone e mem goes k (by simpa using inside))
    have same := kept k low (by omega) untouched
    rw [same] at held ⊢
    obtain ⟨e, mem, inside, accounted⟩ := MapOk.holder ok low (by omega) held
    refine ⟨e, ?_, inside, accounted⟩
    rw [dir]
    refine List.mem_filter.mpr ⟨mem, ?_⟩
    by_contra goes
    have absent := untouched e mem (by simpa using goes)
    exact absurd (absent.symm.trans inside) (by decide)

/-- An entry put in over slots that no entry of another tag holds and that its own tag's old run does not leave. -/
theorem MapOk.of_install {s t : State} (e : DirEntry) (ok : MapOk s) (dir : t.alloc.dir = withEntry e s.alloc.dir)
    (length : t.alloc.slots.length = 56) (bounds : 8 ≤ e.first ∧ 0 < e.count ∧ e.first + e.count ≤ 64)
    (set : ∀ k, inRun e.first e.count k = true → accountedBy e (t.slot k).use = true)
    (kept : ∀ k, 8 ≤ k → k < 64 → inRun e.first e.count k = false → (t.slot k).use = (s.slot k).use)
    (others : ∀ d ∈ s.alloc.dir, d.tag ≠ e.tag → ∀ k, inRun d.first d.count k = true → inRun e.first e.count k = false)
    (own : ∀ d ∈ s.alloc.dir, d.tag = e.tag → ∀ k, inRun d.first d.count k = true → inRun e.first e.count k = true) :
    MapOk t := by
  have mem_iff (d : DirEntry) : d ∈ t.alloc.dir ↔ (d ∈ s.alloc.dir ∧ d.tag ≠ e.tag) ∨ d = e := by
    rw [dir]
    simp [withEntry, withoutTag]
  refine ⟨?_, length, fun d mem => ?_, fun k range held => ?_⟩
  · show (t.alloc.dir.map DirEntry.tag).Nodup
    rw [dir]
    exact tags_withEntry_nodup e ok.1
  · rcases (mem_iff d).mp mem with ⟨there, other⟩ | rfl
    · obtain ⟨first, count, last⟩ := MapOk.bounds ok there
      refine ⟨first, count, last, fun k run => ?_⟩
      have inside := mem_runSlots_iff_inRun.mp run
      obtain ⟨low, high⟩ := MapOk.slot_range ok there inside
      rw [kept k low high (others d there other k inside)]
      exact MapOk.carries ok there inside
    · exact ⟨bounds.1, bounds.2.1, bounds.2.2, fun k run => set k (mem_runSlots_iff_inRun.mp run)⟩
  · obtain ⟨low, high⟩ := mem_runSlots.mp range
    cases inNew : inRun e.first e.count k with
    | true => exact ⟨e, (mem_iff e).mpr (.inr rfl), inNew, set k inNew⟩
    | false =>
      have same := kept k low (by omega) inNew
      rw [same] at held ⊢
      obtain ⟨d, there, inside, accounted⟩ := MapOk.holder ok low (by omega) held
      refine ⟨d, (mem_iff d).mpr (.inl ⟨there, fun tag => ?_⟩), inside, accounted⟩
      exact absurd (inNew.symm.trans (own d there tag k inside)) (by decide)

/-- The directory unchanged, and every slot accounted for as before. -/
theorem MapOk.of_uses {s t : State} (ok : MapOk s) (dir : t.alloc.dir = s.alloc.dir) (length : t.alloc.slots.length = 56)
    (accounted : ∀ k, 8 ≤ k → k < 64 → ∀ e ∈ s.alloc.dir, inRun e.first e.count k = true →
      accountedBy e (s.slot k).use = true → accountedBy e (t.slot k).use = true)
    (holder : ∀ k, 8 ≤ k → k < 64 → (t.slot k).use.holder ≠ none → (s.slot k).use.holder ≠ none) : MapOk t := by
  refine ⟨?_, length, fun e mem => ?_, fun k range held => ?_⟩
  · show (t.alloc.dir.map DirEntry.tag).Nodup
    rw [dir]
    exact ok.1
  · rw [dir] at mem
    obtain ⟨first, count, last⟩ := MapOk.bounds ok mem
    refine ⟨first, count, last, fun k run => ?_⟩
    have inside := mem_runSlots_iff_inRun.mp run
    obtain ⟨low, high⟩ := MapOk.slot_range ok mem inside
    exact accounted k low high e mem inside (MapOk.carries ok mem inside)
  · obtain ⟨low, high⟩ := mem_runSlots.mp range
    obtain ⟨e, mem, inside, carried⟩ := MapOk.holder ok low (by omega) (holder k low (by omega) held)
    exact ⟨e, dir ▸ mem, inside, accounted k low (by omega) e mem inside carried⟩

/-! ### Runs removed -/

/-- The entries with `p` removed from the map, the slots of their runs left in `use` (R74). -/
structure Removed (p : DirEntry → Bool) (use : SlotUse) (s t : State) : Prop where
  dir : t.alloc.dir = s.alloc.dir.filter (fun e => !p e)
  length : t.alloc.slots.length = s.alloc.slots.length
  slot : ∀ k, 8 ≤ k → k < 64 → t.slot k =
    if s.alloc.dir.any (fun e => p e && inRun e.first e.count k) then { s.slot k with use := use } else s.slot k

theorem Removed.mapOk {p : DirEntry → Bool} {use : SlotUse} {s t : State} (removed : Removed p use s t)
    (vacant : use.holder = none) (ok : MapOk s) : MapOk t := by
  refine MapOk.of_removal p ok removed.dir (removed.length.trans ok.2.1) (fun e mem goes k inside => ?_)
    (fun k low high untouched => ?_)
  · obtain ⟨low, high⟩ := MapOk.slot_range ok mem inside
    have hit : s.alloc.dir.any (fun e => p e && inRun e.first e.count k) = true :=
      List.any_eq_true.mpr ⟨e, mem, by simp [goes, inside]⟩
    rw [removed.slot k low high, if_pos hit]
    exact vacant
  · have miss : s.alloc.dir.any (fun e => p e && inRun e.first e.count k) = false := by
      rw [List.any_eq_false]
      intro e mem both
      rw [Bool.and_eq_true] at both
      exact absurd ((untouched e mem both.1).symm.trans both.2) (by decide)
    rw [removed.slot k low high, miss]
    rfl

/-- What a round of a loop over entries does to the map: one run removed. -/
def RemovesRun (use : SlotUse) (f : State → DirEntry → State) : Prop :=
  ∀ t e, (f t e).alloc.dir = withoutTag e.tag t.alloc.dir ∧ (f t e).alloc.slots = setRun e.first e.count use t.alloc.slots

theorem removesRun_removeRun (use : SlotUse) : RemovesRun use (fun t e => removeRun use e t) := fun _ _ => ⟨rfl, rfl⟩

theorem removesRun_counted (g : AllocCounters → AllocCounters) :
    RemovesRun .free (fun t e => removeRun .free e (countAlloc g t)) := fun _ _ => ⟨rfl, rfl⟩

/-- The directory after a loop that removes the runs of a list. -/
theorem removeRuns_dir {use : SlotUse} {f : State → DirEntry → State} (rounds : RemovesRun use f) (l : List DirEntry)
    (s : State) : (l.foldl f s).alloc.dir = s.alloc.dir.filter (fun d => l.all (fun e => d.tag != e.tag)) := by
  induction l generalizing s with
  | nil => simp
  | cons e rest ih =>
    rw [List.foldl_cons, ih, (rounds s e).1, withoutTag, List.filter_filter]
    simp [Bool.and_comm]

/-- A slot after a loop that removes the runs of a list. -/
theorem removeRuns_slot {use : SlotUse} {f : State → DirEntry → State} (rounds : RemovesRun use f) (l : List DirEntry)
    (s : State) (length : s.alloc.slots.length = 56) :
    (l.foldl f s).alloc.slots.length = 56 ∧
    ∀ k, 8 ≤ k → k < 64 → (l.foldl f s).slot k =
      if l.any (fun e => inRun e.first e.count k) then { s.slot k with use := use } else s.slot k := by
  induction l generalizing s with
  | nil => exact ⟨length, fun _ _ _ => rfl⟩
  | cons e rest ih =>
    obtain ⟨-, slotsRound⟩ := rounds s e
    obtain ⟨len, slot⟩ := ih (f s e) (by rw [slotsRound]; simpa using length)
    refine ⟨len, fun k low high => ?_⟩
    have one : (f s e).slot k = if inRun e.first e.count k then { s.slot k with use := use } else s.slot k := by
      have set := setRun_slot e.first e.count k use s.alloc.slots low (by omega)
      unfold State.slot
      rw [slotsRound]
      exact set
    rw [List.foldl_cons, slot k low high, one, List.any_cons]
    cases inRun e.first e.count k <;> cases rest.any (fun e => inRun e.first e.count k) <;> rfl

/-- With single tags a loop over the entries with `p` leaves the others in the directory. -/
theorem removed_foldl_dir {use : SlotUse} {f : State → DirEntry → State} (rounds : RemovesRun use f) (p : DirEntry → Bool)
    {s : State} (single : DirOk s) :
    ((s.alloc.dir.filter p).foldl f s).alloc.dir = s.alloc.dir.filter (fun e => !p e) := by
  rw [removeRuns_dir rounds]
  refine List.filter_congr (fun d mem => ?_)
  cases keeps : p d with
  | true =>
    rw [Bool.not_true]
    exact List.all_eq_false.mpr ⟨d, List.mem_filter.mpr ⟨mem, keeps⟩, by simp⟩
  | false =>
    rw [Bool.not_false, List.all_eq_true]
    intro e goes
    obtain ⟨there, isP⟩ := List.mem_filter.mp goes
    refine bne_iff_ne.mpr (fun tag => ?_)
    rw [entry_unique single mem there tag] at keeps
    exact absurd (keeps.symm.trans isP) (by decide)

/-- A loop over the entries with `p` removes them. -/
theorem removed_foldl {use : SlotUse} {f : State → DirEntry → State} (rounds : RemovesRun use f) (p : DirEntry → Bool)
    {s : State} (single : DirOk s) (length : s.alloc.slots.length = 56) :
    Removed p use s ((s.alloc.dir.filter p).foldl f s) := by
  obtain ⟨len, slot⟩ := removeRuns_slot rounds (s.alloc.dir.filter p) s length
  refine ⟨removed_foldl_dir rounds p single, len.trans length.symm, fun k low high => ?_⟩
  rw [slot k low high, List.any_filter]

theorem removeWhere_removed (p : DirEntry → Bool) {s : State} (single : DirOk s) (length : s.alloc.slots.length = 56) :
    Removed p .free s (removeWhere p s) := removed_foldl (removesRun_removeRun _) p single length

theorem purgeHolder_removed (use : SlotUse) (x : Nat) {s : State} (single : DirOk s)
    (length : s.alloc.slots.length = 56) : Removed (fun e => e.station == x) use s (purgeHolder use x s) :=
  removed_foldl (removesRun_removeRun _) _ single length

theorem overrideClaims_removed (x first count : Nat) {s : State} (single : DirOk s)
    (length : s.alloc.slots.length = 56) :
    Removed (fun e => !e.active && e.station != x && e.meets first count) .free s (overrideClaims x first count s) :=
  removed_foldl (removesRun_counted _) _ single length

theorem resolveOverlaps_removed (x first count : Nat) {s : State} (single : DirOk s)
    (length : s.alloc.slots.length = 56) :
    Removed (fun e => e.active && e.station != x && e.meets first count) .free s (resolveOverlaps x first count s) :=
  removed_foldl (removesRun_counted _) _ single length

/-- One entry's run removed. -/
theorem removeRun_removed (use : SlotUse) {e : DirEntry} {s : State} (single : DirOk s)
    (length : s.alloc.slots.length = 56) (mem : e ∈ s.alloc.dir) :
    Removed (fun d => d.tag == e.tag) use s (removeRun use e s) := by
  refine ⟨rfl, by simp, fun k low high => ?_⟩
  rw [removeRun_slot use e s k low (by omega)]
  have only : s.alloc.dir.any (fun d => d.tag == e.tag && inRun d.first d.count k) = inRun e.first e.count k := by
    rw [Bool.eq_iff_iff, List.any_eq_true]
    constructor
    · rintro ⟨d, there, both⟩
      obtain ⟨tag, inside⟩ := Bool.and_eq_true_iff.mp both
      rw [entry_unique single there mem (by simpa using tag)] at inside
      exact inside
    · exact fun inside => ⟨e, mem, by simp [inside]⟩
  rw [only]

/-! ### A run installed -/

/-- A run installed over slots that no entry of another tag holds, and that its own tag's old run lies in. -/
theorem installRun_mapOk {use : SlotUse} {e : DirEntry} {s : State} (ok : MapOk s) (carries : accountedBy e use = true)
    (bounds : 8 ≤ e.first ∧ 0 < e.count ∧ e.first + e.count ≤ 64)
    (others : ∀ d ∈ s.alloc.dir, d.tag ≠ e.tag → ∀ k, inRun d.first d.count k = true → inRun e.first e.count k = false)
    (own : ∀ d ∈ s.alloc.dir, d.tag = e.tag → ∀ k, inRun d.first d.count k = true → inRun e.first e.count k = true) :
    MapOk (installRun use e s) := by
  have slot (k : Nat) (low : 8 ≤ k) (high : k < 64) := installRun_slot use e s k low (by rw [ok.2.1]; omega)
  refine MapOk.of_install e ok rfl (by simpa using ok.2.1) bounds (fun k inside => ?_) (fun k low high outside => ?_) others own
  · have range := inRun_iff.mp inside
    rw [slot k (by omega) (by omega), if_pos inside]
    exact carries
  · rw [slot k low high, outside]
    rfl

/-- An entry's run installed again, for its own tag. -/
theorem installRun_mapOk_of_mem {use : SlotUse} {e d : DirEntry} {s : State} (ok : MapOk s) (mem : d ∈ s.alloc.dir)
    (tag : d.tag = e.tag) (run : d.first = e.first ∧ d.count = e.count) (carries : accountedBy e use = true) :
    MapOk (installRun use e s) := by
  have bounds := MapOk.bounds ok mem
  rw [run.1, run.2] at bounds
  refine installRun_mapOk ok carries bounds (fun other there notOwn k inside => ?_) (fun same there isOwn k inside => ?_)
  · by_contra both
    have inD : inRun d.first d.count k = true := by rw [run.1, run.2]; simpa using both
    exact notOwn (by rw [MapOk.sameEntry ok there mem inside inD, tag])
  · rw [entry_unique ok.1 there mem (isOwn.trans tag.symm), run.1, run.2] at inside
    exact inside

end Sys2Proof.Proofs
end

section
/-! The slot map and the directory stay in agreement through the allocator and every event: O58. -/

namespace Sys2Proof.Proofs

open Sys2Proof.Machine

/-- An operation that keeps the slot map and the directory in agreement (R74, R101, R102). -/
def MapKept (s t : State) : Prop := MapOk s → MapOk t

namespace MapKept

theorem refl (s : State) : MapKept s s := id

theorem trans {s t u : State} (h : MapKept s t) (k : MapKept t u) : MapKept s u := k ∘ h

theorem after {s t u : State} (k : MapKept t u) (h : MapKept s t) : MapKept s u := h.trans k

theorem foldl {α : Type} {f : State → α → State} (l : List α) (s : State) (round : ∀ t x, MapKept t (f t x)) :
    MapKept s (l.foldl f s) :=
  foldl_inv (MapKept s) f l s (refl s) (fun t x h => h.trans (round t x))

/-- An operation that leaves slots and entries. -/
theorem of_same {s t : State} (dir : t.alloc.dir = s.alloc.dir) (slots : t.alloc.slots = s.alloc.slots) : MapKept s t :=
  MapOk.of_same dir slots

/-- An operation of another block. -/
theorem of_alloc {s t : State} (alloc : t.alloc = s.alloc) : MapKept s t := of_same (by rw [alloc]) (by rw [alloc])

theorem action {f : State → State} {s : State} (change : MapKept s (f s)) : MapKept s (Machine.action f s) :=
  change.trans (of_alloc (by simp [Machine.action]))

end MapKept

/-! ### Runs removed -/

theorem removeWhere_mapKept (p : DirEntry → Bool) (s : State) : MapKept s (removeWhere p s) := fun ok =>
  (removeWhere_removed p ok.1 ok.2.1).mapOk rfl ok

theorem purgeHolder_mapKept {use : SlotUse} (vacant : use.holder = none) (x : Nat) (s : State) :
    MapKept s (purgeHolder use x s) := fun ok => (purgeHolder_removed use x ok.1 ok.2.1).mapOk vacant ok

theorem overrideClaims_mapKept (x first count : Nat) (s : State) : MapKept s (overrideClaims x first count s) :=
  fun ok => (overrideClaims_removed x first count ok.1 ok.2.1).mapOk rfl ok

theorem resolveOverlaps_mapKept (x first count : Nat) (s : State) : MapKept s (resolveOverlaps x first count s) :=
  fun ok => (resolveOverlaps_removed x first count ok.1 ok.2.1).mapOk rfl ok

theorem removeRun_mapOk {s : State} (ok : MapOk s) {e : DirEntry} (mem : e ∈ s.alloc.dir) : MapOk (removeRun .free e s) :=
  (removeRun_removed .free ok.1 ok.2.1 mem).mapOk rfl ok

theorem countAlloc_mapKept (f : AllocCounters → AllocCounters) (s : State) : MapKept s (countAlloc f s) :=
  .of_same rfl rfl

/-! ### Objections -/

theorem object_tables (n : Nat) (s : State) :
    (object n s).alloc.dir = s.alloc.dir ∧ (object n s).alloc.slots = s.alloc.slots := by
  unfold object
  repeat' split
  all_goals simp

/-- Objecting changes no run (R87). -/
theorem objectRuns_tables (first count : Nat) (s : State) :
    (objectRuns first count s).alloc.dir = s.alloc.dir ∧ (objectRuns first count s).alloc.slots = s.alloc.slots := by
  refine forEach_inv (fun t => t.alloc.dir = s.alloc.dir ∧ t.alloc.slots = s.alloc.slots) _ _ _ ⟨rfl, rfl⟩ (fun n t same => ?_)
  have objected := object_tables n t
  rw [same.1, same.2] at objected
  repeat' split
  · exact objected
  · exact same
  · exact same

theorem objectRuns_mapKept (first count : Nat) (s : State) : MapKept s (objectRuns first count s) :=
  .of_same (objectRuns_tables first count s).1 (objectRuns_tables first count s).2

theorem tellOwner_object_mapKept (e : DirEntry) (s : State) : MapKept s (tellOwner e object s) := by
  unfold tellOwner
  split
  · exact .of_same (object_tables _ s).1 (object_tables _ s).2
  · exact .refl s

/-! ### Heard items -/

theorem runMalformed_eq_false {tag first count : Nat} (formed : runMalformed tag first count = false) :
    tag ≠ 0 ∧ 8 ≤ first ∧ 0 < count ∧ count ≤ 8 ∧ first + count ≤ 64 := by
  simp only [runMalformed, Bool.or_eq_false_iff, decide_eq_false_iff_not, beq_eq_false_iff_ne] at formed
  omega

/-- The tag rule removes an entry of the tag whole, and lets an item go on only where its tag is the sender's or no one's
(R104, R106). -/
theorem tagRule_mapOk (x tag : Nat) {s : State} (ok : MapOk s) :
    MapOk (tagRule x tag s).2 ∧
    ((tagRule x tag s).1 = true → ∀ e ∈ (tagRule x tag s).2.alloc.dir, e.tag = tag → e.station = x) := by
  unfold tagRule
  split
  case h_1 none => exact ⟨ok, fun _ e mem same => absurd same (findTag_eq_none.mp none e mem)⟩
  case h_2 e found =>
    obtain ⟨mem, carries⟩ := findTag_mem found
    split
    case isTrue own => exact ⟨ok, fun _ d there same => by rw [entry_unique ok.1 there mem (same.trans carries.symm), own]⟩
    case isFalse =>
      split
      · exact ⟨tellOwner_object_mapKept e _ (countAlloc_mapKept _ s ok), nofun⟩
      · refine ⟨removeRun_mapOk (countAlloc_mapKept _ s ok) mem, fun _ d there same => ?_⟩
        have kept : d ∈ withoutTag e.tag s.alloc.dir := there
        simp only [withoutTag, List.mem_filter, bne_iff_ne] at kept
        exact absurd (same.trans carries.symm) kept.2

/-- No slot that bars a claim lies in its run, so every entry of another station there is PENDING (R80). -/
theorem inactive_of_no_bar {x first count : Nat} {s : State} (ok : MapOk s)
    (open' : (runSlots first count).any (fun k => barsClaim x k s) = false) {e : DirEntry} (mem : e ∈ s.alloc.dir)
    (foreign : e.station ≠ x) {k : Nat} (inE : inRun e.first e.count k = true) (inNew : inRun first count k = true) :
    e.active = false := by
  have carries := MapOk.carries ok mem inE
  have free := List.any_eq_false.mp open' k (mem_runSlots_iff_inRun.mpr inNew)
  unfold barsClaim at free
  by_contra active
  cases use : (s.slot k).use <;> simp_all [accountedBy]

theorem claimSteps_mapOk {x tag first count priority : Nat} {s : State} (ok : MapOk s)
    (formed : runMalformed tag first count = false) (own : ∀ e ∈ s.alloc.dir, e.tag = tag → e.station = x) :
    MapOk (claimSteps x tag first count priority s) := by
  have removed := removeWhere_removed (fun e => e.station == x && (e.tag == tag || e.meets first count)) ok.1 ok.2.1
  have ok2 := removed.mapOk rfl ok
  unfold claimSteps
  dsimp only
  revert removed ok2
  generalize removeWhere (fun e => e.station == x && (e.tag == tag || e.meets first count)) s = s2
  intro removed ok2
  split
  · exact objectRuns_mapKept first count _ (countAlloc_mapKept _ _ ok2)
  · next noBar =>
    split
    · have overridden := overrideClaims_removed x first count ok2.1 ok2.2.1
      have ok3 := overridden.mapOk rfl ok2
      obtain ⟨-, low, some, -, high⟩ := runMalformed_eq_false formed
      have remaining {d : DirEntry} (mem : d ∈ (overrideClaims x first count s2).alloc.dir) :
          d ∈ s2.alloc.dir ∧ (d.active = false → d.station ≠ x → d.meets first count = false) ∧
          d ∈ s.alloc.dir ∧ (d.station = x → d.tag ≠ tag ∧ d.meets first count = false) := by
        rw [overridden.dir, List.mem_filter] at mem
        have first2 := mem.1
        rw [removed.dir, List.mem_filter] at first2
        refine ⟨mem.1, ?_, first2.1, ?_⟩
        · intro inactive foreign
          simpa [inactive, foreign] using mem.2
        · intro mine
          simpa [mine] using first2.2
      refine installRun_mapOk ok3 (by simp [accountedBy]) ⟨low, some, high⟩ (fun d mem _ k inD => ?_)
        (fun d mem same k _ => ?_)
      · obtain ⟨in2, claims, -, mine⟩ := remaining mem
        by_contra inNew
        have inNew : inRun first count k = true := by simpa using inNew
        have meets : d.meets first count = true := meets_of_inRun inD inNew
        by_cases isX : d.station = x
        · exact absurd ((mine isX).2.symm.trans meets) (by decide)
        · have inactive := inactive_of_no_bar ok2 (by simpa using noBar) in2 isX inD inNew
          exact absurd ((claims inactive isX).symm.trans meets) (by decide)
      · obtain ⟨-, -, old, mine⟩ := remaining mem
        exact absurd same (mine (own d old same)).1
    · exact countAlloc_mapKept _ _ ok2

theorem tellLosses_mapKept (x tag : Nat) (before : List DirEntry) (s : State) : MapKept s (tellLosses x tag before s) :=
  .of_same (by simp) (by simp)

theorem heardClaim_mapKept {x tag first count priority : Nat} (formed : runMalformed tag first count = false) (s : State) :
    MapKept s (heardClaim x tag first count priority s) := fun ok => by
  obtain ⟨ruled, own⟩ := tagRule_mapOk x tag ok
  unfold heardClaim
  split
  case h_1 t result => simpa only [result] using ruled
  case h_2 t result =>
    rw [result] at ruled own
    exact tellLosses_mapKept x tag _ _ (claimSteps_mapOk ruled formed (own rfl))

theorem offerSteps_mapOk {x tag first count priority : Nat} {s : State} (ok : MapOk s)
    (formed : runMalformed tag first count = false) (own : ∀ e ∈ s.alloc.dir, e.tag = tag → e.station = x) :
    MapOk (offerSteps x tag first count priority s) := by
  have removed := removeWhere_removed (fun e => e.station == x &&
    (if e.tag == tag then !(e.first == first && e.count == count) else e.meets first count)) ok.1 ok.2.1
  have ok2 := removed.mapOk rfl ok
  unfold offerSteps
  dsimp only
  revert removed ok2
  generalize removeWhere (fun e => e.station == x &&
    (if e.tag == tag then !(e.first == first && e.count == count) else e.meets first count)) s = s2
  intro removed ok2
  split
  · have resolved := resolveOverlaps_removed x first count ok2.1 ok2.2.1
    have ok3 := resolved.mapOk rfl ok2
    have overridden := overrideClaims_removed x first count ok3.1 ok3.2.1
    have ok4 := overridden.mapOk rfl ok3
    obtain ⟨-, low, some, -, high⟩ := runMalformed_eq_false formed
    have remaining {d : DirEntry} (mem : d ∈ (overrideClaims x first count (resolveOverlaps x first count s2)).alloc.dir) :
        d ∈ s.alloc.dir ∧ (d.station ≠ x → d.meets first count = false) ∧
        (d.station = x → if d.tag = tag then d.first = first ∧ d.count = count else d.meets first count = false) := by
      rw [overridden.dir, List.mem_filter, resolved.dir, List.mem_filter, removed.dir, List.mem_filter] at mem
      obtain ⟨⟨⟨old, stays⟩, holder⟩, claim⟩ := mem
      refine ⟨old, fun foreign => ?_, fun isX => ?_⟩
      · cases active : d.active <;> simp_all
      · by_cases same : d.tag = tag <;> simp_all
    refine installRun_mapOk ok4 (by simp [accountedBy]) ⟨low, some, high⟩ (fun d mem other k inD => ?_)
      (fun d mem same k inD => ?_)
    · obtain ⟨-, foreign, mine⟩ := remaining mem
      by_contra inNew
      have meets : d.meets first count = true := meets_of_inRun inD (by simpa using inNew)
      by_cases isX : d.station = x
      · have apart := mine isX
        rw [if_neg other] at apart
        exact absurd (apart.symm.trans meets) (by decide)
      · exact absurd ((foreign isX).symm.trans meets) (by decide)
    · obtain ⟨old, -, mine⟩ := remaining mem
      have run := mine (own d old same)
      rw [if_pos same] at run
      rw [run.1, run.2] at inD
      exact inD
  · split
    · exact objectRuns_mapKept first count _ ok2
    · exact ok2

theorem heardOffer_mapKept {x tag first count priority : Nat} (formed : runMalformed tag first count = false) (s : State) :
    MapKept s (heardOffer x tag first count priority s) := fun ok => by
  obtain ⟨ruled, own⟩ := tagRule_mapOk x tag ok
  unfold heardOffer
  split
  case h_1 t result => simpa only [result] using ruled
  case h_2 t result =>
    rw [result] at ruled own
    exact tellLosses_mapKept x tag _ _ (offerSteps_mapOk ruled formed (own rfl))

theorem heardRelease_mapKept (x tag : Nat) (s : State) : MapKept s (heardRelease x tag s) := fun ok => by
  unfold heardRelease
  split
  case h_1 e found =>
    split
    · exact removeRun_mapOk ok (findTag_mem found).1
    · exact ok
  case h_2 => exact ok

/-! ### Own items sent -/

/-- Over a run that stands FREE no entry has a slot (R55, R76). -/
theorem apart_of_runStandsFree {s : State} {r : Run} (ok : MapOk s) (free : runStandsFree s r = true) {d : DirEntry}
    (mem : d ∈ s.alloc.dir) {k : Nat} (inD : inRun d.first d.count k = true) : inRun r.first r.count k = false := by
  by_contra inNew
  simp only [runStandsFree, Bool.and_eq_true, runFree, List.all_eq_true] at free
  have isFree := free.2 k (mem_runSlots_iff_inRun.mpr (by simpa using inNew))
  have carries := MapOk.carries ok mem inD
  rw [eq_of_beq isFree] at carries
  cases carries

theorem runStandsFree_bounds {s : State} {r : Run} (free : runStandsFree s r = true) :
    8 ≤ r.first ∧ 0 < r.count ∧ r.first + r.count ≤ 64 := by
  simp only [runStandsFree, Bool.and_eq_true, decide_eq_true_eq] at free
  obtain ⟨⟨⟨first, count⟩, last⟩, -⟩ := free
  exact ⟨first, count, last⟩

/-- The own claim recorded over a run no entry has a slot of, its tag's entry gone (R76). -/
theorem recordClaim_mapOk {s : State} (sf : Superframe) (n : Nat) (c : Source) {r : Run} (ok : MapOk s)
    (bounds : 8 ≤ r.first ∧ 0 < r.count ∧ r.first + r.count ≤ 64) (noTag : ∀ d ∈ s.alloc.dir, d.tag ≠ c.cfg.tag)
    (apart : ∀ d ∈ s.alloc.dir, ∀ k, inRun d.first d.count k = true → inRun r.first r.count k = false) :
    MapOk (recordClaim sf n c r s) := by
  refine MapKept.of_same rfl rfl (installRun_mapOk (use := .pending s.id c.cfg.tag c.cfg.priority (sf + 2))
    (e := { tag := c.cfg.tag, station := s.id, first := r.first, count := r.count, priority := c.cfg.priority,
            active := false, isLocal := s.id == s.id }) ok (by simp [accountedBy]) bounds (fun d mem _ => apart d mem)
    (fun d mem same => absurd same (noTag d mem)))

theorem ownClaimSent_mapKept (sf : Superframe) (claims : List (Nat × Run)) (n : Nat) (r : Run) (s : State) :
    MapKept s (ownClaimSent sf claims n r s) := fun ok => by
  have replaced {e : DirEntry} {c : Source} {t : State} (found : findTag c.cfg.tag s.alloc.dir = some e)
      (free : runStandsFree s r = true) (okT : MapOk t) (dir : t.alloc.dir = s.alloc.dir) :
      MapOk (recordClaim sf n c r (removeRun .free e t)) := by
    obtain ⟨mem, carries⟩ := findTag_mem found
    refine recordClaim_mapOk sf n c (removeRun_mapOk okT (dir ▸ mem)) (runStandsFree_bounds free) (fun d there => ?_)
      (fun d there k => ?_)
    all_goals
      have kept : d ∈ withoutTag e.tag s.alloc.dir := dir ▸ there
      simp only [withoutTag, List.mem_filter, bne_iff_ne] at kept
    · exact carries ▸ kept.2
    · exact apart_of_runStandsFree ok free kept.1
  unfold ownClaimSent
  split
  · exact MapKept.of_same (by simp) (by simp) ok
  · split
    case h_1 c _ =>
      split
      case isTrue sends =>
        split
        case h_1 e found =>
          split
          · exact replaced found sends.2 (countAlloc_mapKept _ s ok) rfl
          · exact replaced found sends.2 ok rfl
        case h_2 none =>
          exact recordClaim_mapOk sf n c ok (runStandsFree_bounds sends.2) (findTag_eq_none.mp none)
            (fun d mem k => apart_of_runStandsFree ok sends.2 mem)
      case isFalse => exact ok
    case h_2 => exact ok

theorem ownReleaseSent_mapKept (n tag : Nat) (s : State) : MapKept s (ownReleaseSent n tag s) := fun ok => by
  unfold ownReleaseSent
  split
  case h_1 e found =>
    split
    · exact MapKept.of_alloc (by simp [tellReleased]) (removeRun_mapOk ok (findTag_mem found).1)
    · exact ok
  case h_2 => exact ok

/-! ### The upkeep -/

/-- Entries still to come in a loop over entries stand in the directory, each of another tag than those before. -/
theorem foldl_entries_mapOk {f : State → DirEntry → State} {P : DirEntry → Prop} (l : List DirEntry) (s : State)
    (ok : MapOk s) (single : (l.map DirEntry.tag).Nodup) (mem : ∀ e ∈ l, e ∈ s.alloc.dir) (all : ∀ e ∈ l, P e)
    (round : ∀ t e, MapOk t → e ∈ t.alloc.dir → P e → MapOk (f t e))
    (others : ∀ t e, MapOk t → e ∈ t.alloc.dir → P e → ∀ d ∈ t.alloc.dir, d.tag ≠ e.tag → d ∈ (f t e).alloc.dir) :
    MapOk (l.foldl f s) := by
  induction l generalizing s with
  | nil => exact ok
  | cons e rest ih =>
    rw [List.map_cons, List.nodup_cons] at single
    have here := mem e List.mem_cons_self
    have isP := all e List.mem_cons_self
    refine ih (f s e) (round s e ok here isP) single.2 (fun d later => ?_) (fun d later => all d (List.mem_cons_of_mem e later))
    refine others s e ok here isP d (mem d (List.mem_cons_of_mem e later)) (fun same => single.1 ?_)
    exact same ▸ List.mem_map_of_mem later

theorem mem_withEntry_of_ne {e d : DirEntry} {dir : List DirEntry} (mem : d ∈ dir) (other : d.tag ≠ e.tag) :
    d ∈ withEntry e dir := by
  simp [withEntry, withoutTag, mem, other]

theorem filter_tags_nodup {p : DirEntry → Bool} {s : State} (single : DirOk s) :
    ((s.alloc.dir.filter p).map DirEntry.tag).Nodup :=
  single.sublist (List.Sublist.map _ List.filter_sublist)

theorem matureOwn_alloc (n : Nat) (e : DirEntry) (s : State) : (matureOwn n e s).alloc =
    (installRun (.owned e.station e.tag e.priority) { e with active := true } s).alloc := by
  simp [matureOwn]

/-- First step: every run that matures stays its entry's (R93, R94). -/
theorem maturityStep_mapKept (s : State) : MapKept s (maturityStep s) := fun ok => by
  unfold maturityStep
  dsimp only
  refine forEach_inv MapOk _ _ _ ?_ (fun n t okT => ?_)
  · refine foldl_entries_mapOk (P := fun _ => True) _ s ok (filter_tags_nodup ok.1)
      (fun e mem => (List.mem_filter.mp mem).1) (fun _ _ => trivial) (fun t e okT mem _ => ?_)
      (fun t e _ _ _ d mem other => mem_withEntry_of_ne mem other)
    exact installRun_mapOk_of_mem okT mem rfl ⟨rfl, rfl⟩ (by simp [accountedBy])
  · split
    case h_1 e found =>
      split
      · obtain ⟨c, -, found⟩ := Option.bind_eq_some_iff.mp found
        exact MapKept.of_alloc (matureOwn_alloc n e t)
          (installRun_mapOk_of_mem okT (findTag_mem found).1 rfl ⟨rfl, rfl⟩ (by simp [accountedBy]))
      · exact okT
    case h_2 => exact okT

theorem active_of_maturesAt {m : Superframe} {s : State} {e : DirEntry} (matures : maturesAt m s e = true) :
    e.active = false := by
  unfold maturesAt at matures
  split at matures
  · simp only [Bool.and_eq_true, Bool.not_eq_true'] at matures
    exact matures.1
  · cases matures

/-- An entry of another tag than those of a loop stands after it. -/
theorem mem_foldl_of_ne {f : State → DirEntry → State} {e : DirEntry} (l : List DirEntry) (s : State)
    (others : ∀ t d, d ∈ l → e ∈ t.alloc.dir → e ∈ (f t d).alloc.dir) (mem : e ∈ s.alloc.dir) :
    e ∈ (l.foldl f s).alloc.dir := by
  induction l generalizing s with
  | nil => exact mem
  | cons d rest ih =>
    exact ih (f s d) (fun t d later => others t d (List.mem_cons_of_mem _ later)) (others s d List.mem_cons_self mem)

theorem foldl_maturePeer_frame (l : List DirEntry) (s : State) (single : DirOk s) :
    (l.foldl (fun t e => maturePeer e t) s).id = s.id ∧ DirOk (l.foldl (fun t e => maturePeer e t) s) :=
  foldl_inv (fun t => t.id = s.id ∧ DirOk t) _ _ _ ⟨rfl, single⟩ (fun _ e ⟨id, single⟩ =>
    ⟨id, tags_withEntry_nodup { e with active := true } single⟩)

theorem matureOwn_id (n : Nat) (e : DirEntry) (s : State) : (matureOwn n e s).id = s.id := by simp [State.id]

/-- The peers' runs that were HELD before the boundary stand after its first step (R93 to R95). -/
theorem mem_maturityStep {s : State} (single : DirOk s) {e : DirEntry} (mem : e ∈ s.alloc.dir) (active : e.active = true)
    (peer : e.station ≠ s.id) : e ∈ (maturityStep s).alloc.dir := by
  unfold maturityStep
  dsimp only
  obtain ⟨id1, single1⟩ := foldl_maturePeer_frame
    (s.alloc.dir.filter (fun e => e.station != s.id && maturesAt s.sync.superframe s e)) s single
  refine (forEach_inv (fun t => t.id = s.id ∧ DirOk t ∧ e ∈ t.alloc.dir) _ _ _ ⟨id1, single1, ?_⟩ (fun n t => ?_)).2.2
  · refine mem_foldl_of_ne _ s (fun t d later there => mem_withEntry_of_ne there (fun same => ?_)) mem
    obtain ⟨old, matures⟩ := List.mem_filter.mp later
    rw [entry_unique single mem old same] at active
    exact absurd (active.symm.trans (active_of_maturesAt (Bool.and_eq_true_iff.mp matures).2)) (by decide)
  · rintro ⟨id, singleT, there⟩
    split
    case h_1 d found =>
      split
      case isTrue own =>
        obtain ⟨c, -, found⟩ := Option.bind_eq_some_iff.mp found
        obtain ⟨memD, -⟩ := findTag_mem found
        refine ⟨(matureOwn_id n d t).trans id, ?_, ?_⟩
        · show ((matureOwn n d t).alloc.dir.map DirEntry.tag).Nodup
          rw [matureOwn_alloc]
          exact tags_withEntry_nodup { d with active := true } singleT
        · rw [matureOwn_alloc]
          refine mem_withEntry_of_ne there (fun same => peer ?_)
          rw [entry_unique singleT there memD same, own.1, id]
      case isFalse => exact ⟨id, singleT, there⟩
    case h_2 => exact ⟨id, singleT, there⟩

theorem lapseSlot_holder (x : Slot) : (lapseSlot x).use.holder = none := by
  unfold lapseSlot
  dsimp only
  split <;> rfl

/-- A slot after a lapse (R95). -/
theorem lapseRun_slot (e : DirEntry) (s : State) {k : Nat} (low : 8 ≤ k) (inMap : k - 8 < s.alloc.slots.length) :
    (lapseRun e s).slot k = if inRun e.first e.count k then lapseSlot (s.slot k) else s.slot k := by
  have position : 8 + (k - 8) = k := by omega
  show (mapSlots (fun k x => if inRun e.first e.count k then lapseSlot x else x) 8 s.alloc.slots).getD (k - 8) .cold = _
  simp [State.slot, List.getD_eq_getElem?_getD, mapSlots_getElem?, List.getElem?_eq_getElem inMap, position]

theorem lapseRun_mapOk {e : DirEntry} {s : State} (ok : MapOk s) (mem : e ∈ s.alloc.dir) : MapOk (lapseRun e s) := by
  have slot (k : Nat) (low : 8 ≤ k) (high : k < 64) := lapseRun_slot e s low (by rw [ok.2.1]; omega)
  refine MapOk.of_removal (fun d => d.tag == e.tag) ok rfl ((mapSlots_length _ 8 _).trans ok.2.1)
    (fun d there same k inside => ?_) (fun k low high untouched => ?_)
  · obtain ⟨low, high⟩ := MapOk.slot_range ok there inside
    rw [entry_unique ok.1 there mem (by simpa using same)] at inside
    rw [slot k low high, if_pos inside]
    exact lapseSlot_holder _
  · rw [slot k low high, untouched e mem (by simp)]
    rfl

/-- The slots of an entry's run set to a use that carries it. -/
theorem setRun_mapOk {use : SlotUse} {e : DirEntry} {s t : State} (ok : MapOk s) (mem : e ∈ s.alloc.dir)
    (carries : accountedBy e use = true) (dir : t.alloc.dir = s.alloc.dir)
    (slots : t.alloc.slots = setRun e.first e.count use s.alloc.slots) : MapOk t := by
  have slot (k : Nat) (low : 8 ≤ k) (high : k < 64) :
      t.slot k = if inRun e.first e.count k then { s.slot k with use := use } else s.slot k := by
    unfold State.slot
    rw [slots]
    exact setRun_slot e.first e.count k use s.alloc.slots low (by rw [ok.2.1]; omega)
  refine MapOk.of_uses ok dir ?_ (fun k low high d there inD old => ?_) (fun k low high held => ?_)
  · rw [slots, setRun_length]
    exact ok.2.1
  · cases inE : inRun e.first e.count k with
    | true =>
      rw [slot k low high, if_pos inE, MapOk.sameEntry ok there mem inD inE]
      exact carries
    | false =>
      rw [slot k low high, inE]
      exact old
  · cases inE : inRun e.first e.count k with
    | true =>
      rw [accountedBy_holder (MapOk.carries ok mem inE)]
      simp
    | false =>
      rw [slot k low high, inE] at held
      exact held

theorem leaseRun_mapOk {e : DirEntry} {s : State} (ok : MapOk s) (mem : e ∈ s.alloc.dir) (active : e.active = true) :
    MapOk (leaseRun e s) := by
  unfold leaseRun
  split
  · exact lapseRun_mapOk ok mem
  · exact setRun_mapOk ok mem (use := .held e.station e.tag e.priority (leaseOf s e - 1)) (by simp [accountedBy, active])
      rfl rfl

theorem mem_leaseRun_of_ne {d e : DirEntry} {s : State} (mem : d ∈ s.alloc.dir) (other : d.tag ≠ e.tag) :
    d ∈ (leaseRun e s).alloc.dir := by
  unfold leaseRun
  split
  · show d ∈ withoutTag e.tag s.alloc.dir
    simp [withoutTag, mem, other]
  · exact mem

theorem leases_mapKept (s : State) : MapKept s ((heldRuns s).foldl (fun t e => leaseRun e t) (maturityStep s)) :=
  fun ok => foldl_entries_mapOk (P := fun e => e.active = true) (heldRuns s) (maturityStep s) (maturityStep_mapKept s ok)
    (filter_tags_nodup ok.1) (fun e mem => by
      obtain ⟨there, held⟩ := List.mem_filter.mp mem
      obtain ⟨active, peer⟩ := Bool.and_eq_true_iff.mp held
      exact mem_maturityStep ok.1 there active (bne_iff_ne.mp peer))
    (fun e mem => (Bool.and_eq_true_iff.mp (List.mem_filter.mp mem).2).1)
    (fun _ _ okT mem active => leaseRun_mapOk okT mem active) (fun _ _ _ _ _ _ mem other => mem_leaseRun_of_ne mem other)

/-- The slot entries changed one by one in a way that touches no holder. -/
theorem mapAll_mapOk {g : Slot → Slot} {s t : State} (ok : MapOk s) (dir : t.alloc.dir = s.alloc.dir)
    (slots : t.alloc.slots = s.alloc.slots.map g)
    (same : ∀ x : Slot, (g x).use = x.use ∨ (x.use.holder = none ∧ (g x).use.holder = none)) : MapOk t := by
  have slot (k : Nat) (low : 8 ≤ k) (high : k < 64) : t.slot k = g (s.slot k) := by
    have inMap : k - 8 < s.alloc.slots.length := by rw [ok.2.1]; omega
    simp [State.slot, slots, List.getD_eq_getElem?_getD, List.getElem?_eq_getElem inMap]
  refine MapOk.of_uses ok dir ?_ (fun k low high e _ _ old => ?_) (fun k low high held => ?_)
  · rw [slots, List.length_map]
    exact ok.2.1
  · rw [slot k low high]
    rcases same (s.slot k) with use | ⟨none, -⟩
    · rw [use]; exact old
    · rw [accountedBy_holder old] at none
      cases none
  · rw [slot k low high] at held
    rcases same (s.slot k) with use | ⟨-, none⟩
    · rw [use] at held; exact held
    · exact absurd none held

theorem straySlot_use (x : Slot) : (straySlot x).use = x.use ∨ (x.use.holder = none ∧ (straySlot x).use.holder = none) := by
  unfold straySlot
  split
  case h_1 free =>
    split
    · exact .inr ⟨by rw [free]; rfl, rfl⟩
    · exact .inl rfl
  case h_2 stray =>
    split
    · exact .inr ⟨by rw [stray]; rfl, rfl⟩
    · exact .inl rfl
  case h_3 => exact .inl rfl

theorem upkeepTables_mapKept (s : State) : MapKept s (upkeepTables s) := fun ok => by
  unfold upkeepTables
  dsimp only
  refine forEach_inv MapOk _ _ _ ?_ (fun n t okT => ?_)
  · have leased := leases_mapKept s ok
    have strayed := mapAll_mapOk (t := strayStep _) leased rfl rfl straySlot_use
    exact mapAll_mapOk (t := clearCarrier _) strayed rfl rfl (fun _ => .inl rfl)
  · split
    · exact MapKept.of_alloc (by simp) okT
    · exact okT

theorem upkeep_mapKept (s : State) : MapKept s (upkeep s) := by
  unfold upkeep
  split
  · exact (upkeepTables_mapKept s).action
  · exact .refl s

/-! ### Events -/

theorem coldMap_mapOk {s : State} (dir : s.alloc.dir = []) (slots : s.alloc.slots = List.replicate 56 .cold) : MapOk s := by
  refine ⟨?_, by simp [slots], by simp [dir], fun k range held => ?_⟩
  · show (s.alloc.dir.map DirEntry.tag).Nodup
    rw [dir]
    exact List.nodup_nil
  · have cold : s.slot k = .cold := by
      unfold State.slot
      rw [slots, List.getD_eq_getElem?_getD]
      cases here : (List.replicate 56 Slot.cold)[k - 8]? with
      | none => rfl
      | some x => exact List.eq_of_mem_replicate (List.mem_of_getElem? here)
    rw [cold] at held
    exact absurd rfl held

theorem teardown_mapOk {report : State → State} (s : State) (keeps : ∀ t, (report t).alloc = t.alloc) :
    MapOk (teardown report s) := by
  have torn : (teardown report s).alloc = { s.alloc with slots := List.replicate 56 .cold, dir := [] } := by
    simp [keeps, teardownBlocks]
  exact coldMap_mapOk (by rw [torn]) (by rw [torn])

theorem notifySync_alloc (c : SyncCause) (s : State) : (notifySync c s).alloc = s.alloc := rfl

theorem restart_mapKept (s : State) : MapKept s (restart s).2 := by
  unfold restart
  split
  case h_1 | h_2 => exact .of_alloc (by simp)
  case h_3 | h_4 => exact fun _ => teardown_mapOk s (notifySync_alloc _)
  case h_5 | h_6 => exact .of_alloc (by simp)
  all_goals exact .refl s

theorem doAction_mapKept (a : Action) (n : Nat) (s : State) : MapKept s (doAction a n s).2 := by
  cases a with
  | muteSource | unmuteSource | muteSink | unmuteSink =>
    dsimp only [doAction]
    split <;> exact .of_alloc rfl
  | reseekSource =>
    dsimp only [doAction, reseek]
    repeat' split
    · exact .of_alloc (by simp)
    · exact .refl s
    · exact .refl s
  | clearCounters => exact .of_same rfl rfl
  | restart => exact restart_mapKept s

theorem act_mapKept (a : Action) (i : Byte) (s : State) : MapKept s (act a i s) := by
  unfold act
  split
  · exact .of_alloc rfl
  · exact (doAction_mapKept a i.toNat s).trans (.of_alloc rfl)

theorem meetingAct_mapKept (a : Option (Byte × Byte)) (s : State) : MapKept s (meetingAct a s) := by
  rcases a with _ | ⟨code, i⟩
  · exact .refl s
  · dsimp only [meetingAct, actRequest]
    split
    · exact act_mapKept _ i s
    · exact .of_alloc rfl

theorem relayRequest_alloc (target : Byte) (code : Option Code) (i : Byte) (s : State) :
    (relayRequest target code i s).alloc = s.alloc := by
  unfold relayRequest askRelay
  repeat' split
  all_goals simp [acceptRelay]

theorem relayResult_alloc (h : Nat) (s : State) : (relayResult h s).alloc = s.alloc := by
  unfold relayResult
  repeat' split
  all_goals rfl

theorem takeHead_alloc (s : State) : (takeHead s).alloc = s.alloc := by
  unfold takeHead
  split <;> rfl

theorem enterMute_mapKept (s : State) : MapKept s (enterMute s) :=
  (MapKept.action (removeWhere_mapKept _ _)).after (.of_alloc (by simp [abortRelays]))

theorem peerHeard_mapKept (x : Nat) (sf : Superframe) (fresh : Bool) (s : State) : MapKept s (peerHeard x sf fresh s) := by
  have heard : MapKept s (s.modPeer x (Peer.heard sf)) := .of_alloc rfl
  unfold peerHeard
  dsimp only
  split
  · exact .of_alloc (by simp)
  · exact .of_alloc (by simp)
  · split
    · refine heard.trans (MapKept.action ((purgeHolder_mapKept (use := .free) rfl x _).trans (.of_alloc ?_)))
      simp
    · exact heard
  · exact .refl s

/-- A departure or a LEAVE purges the peer's runs (R67, R69, R91). -/
theorem farewell_mapKept {use : SlotUse} (vacant : use.holder = none) (x : Nat) (n : State → Notice) (s : State) :
    MapKept s (action (fun t => loseTarget x (notify (n t) (purgeHolder use x t))) s) :=
  MapKept.action ((purgeHolder_mapKept vacant x s).trans (.of_alloc (by simp [loseTarget])))

theorem departPeer_mapKept (x : Nat) (s : State) : MapKept s (departPeer x s) :=
  (farewell_mapKept rfl x (fun t => .peer .departed x t.sync.superframe (runsOf x t)) _).after (.of_alloc rfl)

theorem peerLeft_mapKept (x : Nat) (s : State) : MapKept s (peerLeft x s) :=
  (farewell_mapKept rfl x (fun t => .peer .left x t.sync.superframe (runsOf x t)) _).after (.of_alloc rfl)

theorem reportMissed_mapKept (cause : MissCause) (s : State) : MapKept s (reportMissed cause s) := by
  have counted (x : Nat) : MapKept s (countDamagedTurn x cause s) := by
    unfold countDamagedTurn
    split <;> exact .of_alloc rfl
  unfold reportMissed
  split
  · exact .refl s
  · unfold peerMissed
    dsimp only
    split
    · split
      · exact (counted _).trans (departPeer_mapKept _ _)
      · exact (counted _).trans (.of_alloc rfl)
    · exact counted _
    · exact counted _
    · exact .refl s

theorem serveCommand_mapKept (x q : Nat) (a : Action) (i : Nat) (s : State) : MapKept s (serveCommand x q a i s) := by
  unfold serveCommand
  split
  · refine (doAction_mapKept a i s).trans (.of_alloc ?_)
    simp [countReq]
  · exact .of_alloc (by simp [countReq])

/-- A well-formed item keeps the map; the runs a malformed one names are not looked at (R46). -/
theorem dispatchItem_mapKept (x : Nat) {it : Item} {s : State} (formed : it.malformed s.id = false) :
    MapKept s (dispatchItem x it s) := by
  cases it with
  | claim tag first count priority => exact (heardClaim_mapKept formed s).action
  | offer tag first count priority objection => exact (heardOffer_mapKept formed s).action
  | release tag first count => exact (heardRelease_mapKept x tag s).action
  | leave => exact peerLeft_mapKept x s
  | probe =>
    dsimp only [dispatchItem]
    repeat' split
    all_goals exact .of_alloc (by simp [serveProbe, countReq])
  | command =>
    dsimp only [dispatchItem]
    repeat' split
    · exact serveCommand_mapKept x _ _ _ s
    · exact .refl s
    · exact .refl s
  | answer =>
    dsimp only [dispatchItem, takeAnswer]
    repeat' split
    all_goals exact .of_alloc (by simp [countReq])
  | unknown => exact .refl s

theorem dispatchItems_mapKept (x : Nat) (items : List Item) (s : State) : MapKept s (dispatchItems x items s) := by
  induction items generalizing s with
  | nil => exact .refl s
  | cons it rest ih =>
    rw [dispatchItems]
    split
    · split
      · exact (ih _).after (.of_alloc rfl)
      · next formed =>
        split
        · exact peerLeft_mapKept x s
        · exact (dispatchItem_mapKept x (by simpa using formed)).trans (ih _)
    · exact .refl s

theorem acceptCell_mapKept (c : Cell) (s : State) : MapKept s (acceptCell c s) :=
  (peerHeard_mapKept _ _ _ s).trans (dispatchItems_mapKept _ _ _)

theorem takeCell_mapKept (cl : CellClass) (s : State) : MapKept s (takeCell cl s) := by
  have damaged : MapKept s (damagedCell s) := (reportMissed_mapKept _ _).after (.of_alloc rfl)
  unfold takeCell
  split
  · repeat' split
    all_goals exact .of_alloc rfl
  · split
    · split
      · exact reportMissed_mapKept _ s
      · exact damaged
      · split
        · unfold validCell
          repeat' split
          · exact enterMute_mapKept s
          · exact .of_alloc rfl
          · exact (acceptCell_mapKept _ _).after (.of_alloc rfl)
          · exact (acceptCell_mapKept _ _).after (.of_alloc rfl)
          · exact (reportMissed_mapKept _ _).after (.of_alloc rfl)
        · exact damaged
    · exact .refl s

theorem cellEvent_mapKept (line : OnLine CellWindow) (s : State) : MapKept s (cellEvent line s) := by
  unfold cellEvent
  split
  · exact (takeCell_mapKept _ _).after (.of_alloc rfl)
  · exact .refl s

theorem readbackEvent_mapKept (line : OnLine CellWindow) (s : State) : MapKept s (readbackEvent line s) := by
  unfold readbackEvent cellReadback
  dsimp only
  repeat' split
  · exact .of_alloc rfl
  · exact .of_alloc rfl
  · exact (enterMute_mapKept _).after (.of_alloc rfl)
  · exact .of_alloc rfl
  · exact .refl s

theorem itemSent_mapKept (sf : Superframe) (cell : List Placed) (p : Placed) (s : State) :
    MapKept s (itemSent sf cell p s) := by
  unfold itemSent
  repeat' split
  · exact (ownClaimSent_mapKept sf _ _ _ s).action
  · exact (ownReleaseSent_mapKept _ _ s).action
  · exact .of_alloc (by simp)
  · exact .of_alloc (by simp)
  · exact .refl s
  · exact .refl s
  · exact fun _ => teardown_mapOk s (notifySync_alloc _)
  · exact .refl s

theorem sentEvent_mapKept (s : State) : MapKept s (sentEvent s) := by
  unfold sentEvent
  split
  · unfold cellSent
    dsimp only
    refine MapKept.trans ?_ (.foldl _ _ (fun t p => itemSent_mapKept _ _ p t))
    split <;> exact .of_alloc rfl
  · exact .refl s

theorem reportEvent_mapKept (line : OnLine LineTicks) (s : State) : MapKept s (reportEvent line s) := by
  have slew (leads : List Int) (t : State) : MapKept t (slewReport leads t) := by
    unfold slewReport edgeMissLimit
    dsimp only
    repeat' split
    · exact .of_alloc rfl
    · exact .of_alloc rfl
    · exact fun _ => teardown_mapOk _ (notifySync_alloc _)
    · exact .of_alloc rfl
    · exact .of_alloc rfl
  have drive (leads : List Int) (t : State) : MapKept t (driveReport leads t) := by
    unfold driveReport
    dsimp only
    repeat' split
    · exact fun _ => teardown_mapOk _ (notifySync_alloc _)
    · exact fun _ => teardown_mapOk _ (fun _ => rfl)
    · exact .of_alloc rfl
  unfold reportEvent
  split
  · unfold reportMade
    dsimp only
    split
    case h_1 => exact .of_alloc rfl
    case h_2 | h_3 | h_4 => exact (slew _ _).after (.of_alloc rfl)
    case h_5 | h_6 | h_7 => exact (drive _ _).after (.of_alloc rfl)
    all_goals exact .refl s
  · exact .refl s

theorem enterLockedNow_alloc (s : State) : (enterLockedNow s).alloc = s.alloc := by simp [enterLockedNow]

theorem frameSync_alloc (s : State) : (frameSync s).alloc = s.alloc := by simp

theorem boundary_mapKept (s : State) : MapKept s (boundary s) := by
  have upkept : MapKept s (upkeep (syncAtBoundary s)) := (upkeep_mapKept _).after (.of_alloc (by simp))
  unfold boundary
  dsimp only
  split
  · exact upkept.trans (.of_alloc (by simp))
  · exact upkept.trans (.of_alloc (by simp))

theorem frameStartEvent_mapKept (sh : List (List Bool)) (s : State) : MapKept s (frameStartEvent sh s) := by
  have started : MapKept s (portsAtFrameStart (followCutShort s.sync.jump) sh (driveMarker (frameSync s))) :=
    .of_alloc (by simp)
  unfold frameStartEvent frameStarted
  dsimp only
  repeat' split
  · exact started.trans (boundary_mapKept _)
  · exact started
  · exact .refl s

theorem slotStartEvent_mapKept (k : Nat) (a : Option (Byte × Byte)) (s : State) :
    MapKept s (slotStartEvent k (meetingAct a) s) := by
  unfold slotStartEvent
  split
  · have taken : MapKept (atTick (32 * k) s) (forEach s.sources.length (takeAt k) (atTick (32 * k) s)) := by
      refine MapKept.foldl _ _ (fun t n => .of_alloc ?_)
      simp
    have met := (meetingAct_mapKept a _).after (taken.after (.of_alloc rfl))
    exact met.trans (.of_alloc rfl)
  · exact .refl s

theorem countCarrier_mapKept (k : Nat) (cl : SlotClass) (s : State) : MapKept s (countCarrier k cl s) := fun ok => by
  unfold countCarrier
  split
  · have use (j : Nat) : ((s.modAlloc (fun a => { a with
        slots := a.slots.modify (k - 8) (fun x => { x with carrier := min (x.carrier + 1) 32 }) })).slot j).use =
        (s.slot j).use := by
      show ((s.alloc.slots.modify (k - 8) _).getD (j - 8) .cold).use = (s.alloc.slots.getD (j - 8) .cold).use
      rw [List.getD_eq_getElem?_getD, List.getD_eq_getElem?_getD, List.getElem?_modify]
      cases s.alloc.slots[j - 8]? with
      | none => rfl
      | some x => by_cases here : k - 8 = j - 8 <;> simp [here]
    exact MapOk.of_uses ok rfl ((List.length_modify _ _ _).trans ok.2.1)
      (fun j _ _ e _ _ old => by rw [use]; exact old) (fun j _ _ held => by rwa [use] at held)
  · exact ok

theorem slotEndEvent_mapKept (k : Nat) (line : OnLine SlotWindow) (s : State) : MapKept s (slotEndEvent k line s) := by
  unfold slotEndEvent
  split
  · have counted : MapKept s (countCarrier k (slotClass k line s) (atTick (slotLastTick k s) s)) :=
      (countCarrier_mapKept _ _ _).after (.of_alloc rfl)
    refine counted.trans (.of_alloc ?_)
    unfold slotClassified
    exact forEach_inv (fun t => t.alloc = (countCarrier k (slotClass k line s) (atTick (slotLastTick k s) s)).alloc) _ _ _
      (by simp) (fun n t same => by simpa using same)
  · exact .refl s

theorem judgeImage_alloc (o : Origin) (bytes : List Byte) (s : State) : (judgeImage o bytes s).2.alloc = s.alloc := by
  unfold judgeImage
  split
  · simp [rejectImage]
  · simp

theorem Event.run_alloc_of_configures {e : Event} (configures : e.configures = true) (s : State) :
    (e.run s).alloc = s.alloc := by
  cases e with
  | bootStart b =>
    dsimp only [Event.run, Machine.bootStart]
    repeat' split
    all_goals rfl
  | bootLength b =>
    dsimp only [Event.run, Machine.bootLength]
    repeat' split
    · rfl
    · simp [rejectImage]
    · rfl
  | bootComplete rest =>
    dsimp only [Event.run, Machine.bootComplete]
    repeat' split
    · exact judgeImage_alloc _ _ s
    · rfl
    · rfl
  | load bytes =>
    dsimp only [Event.run, loadRequest]
    split
    · have judged := judgeImage_alloc .lmp ‹_› s
      unfold judgeLoad
      split
      · split
        case h_1 result => simpa [result] using judged
        case h_2 result => simpa [result] using judged
      · simp
    · rfl
  | _ => cases configures

theorem Event.run_mapKept (e : Event) (s : State) : MapKept s (e.run s) := by
  cases e with
  | bootStart | bootLength | bootComplete | load => exact .of_alloc (Event.run_alloc_of_configures rfl s)
  | respond => exact .of_alloc rfl
  | act a i => exact act_mapKept a i s
  | relay target code i => exact .of_alloc (relayRequest_alloc target code i s)
  | relayResult h => exact .of_alloc (relayResult_alloc _ s)
  | takeNotice => exact .of_alloc (takeHead_alloc s)
  | endTransaction k => exact .of_alloc (by simp [Event.run])
  | frameStart sh => exact frameStartEvent_mapKept sh s
  | report line => exact reportEvent_mapKept line s
  | slotStart start => exact slotStartEvent_mapKept start.slot start.act s
  | slotEnd k line => exact slotEndEvent_mapKept k line s
  | build =>
    refine .of_alloc ?_
    show (whenDue drivesOwnCell buildCell s).alloc = s.alloc
    unfold whenDue
    split
    · simp [buildCell]
    · rfl
  | sent => exact sentEvent_mapKept s
  | readback line => exact readbackEvent_mapKept line s
  | cell line => exact cellEvent_mapKept line s
  | strobe p k bits =>
    refine .of_alloc ?_
    show (whenDue (takesStrobe p) (Machine.strobe p k bits) s).alloc = s.alloc
    unfold whenDue
    split <;> simp

/-- Settles O58: runs enter the map with their entry and leave it with it, over slots no other entry has. -/
theorem stepKeepsTheMap : Obligations.StepKeepsTheMap := fun _ _ next =>
  ⟨step_keeps (P := MapOk) (fun _ _ ok => ok) (fun s _ => coldMap_mapOk rfl rfl)
      (fun s ok => MapKept.of_alloc (by unfold releaseReset; split <;> rfl) ok)
      (fun e s _ ok => e.run_mapKept s ok) next,
    step_keeps_slotsOk next⟩

end Sys2Proof.Proofs
end

section
/-! The management port: the reads, the mutes and the counters, the status lines. -/

namespace Sys2Proof.Proofs

open Sys2Proof.Machine

/-! ### Invariants at reset -/

/-- Settles O4: the cold values lie in every range, and a cold map with an empty directory agrees. -/
theorem resetMeetsTheInvariants : Obligations.ResetMeetsTheInvariants := by
  obtain ⟨⟨notices, relays, slots, sources, sinks⟩, queue⟩ := coldReset_keeps State.reset
  have boot : BootOk State.reset := ⟨fun _ => rfl, fun _ => rfl⟩
  have counted : NoticesOk State.reset := ⟨Nat.zero_le _, nofun, Nat.zero_le _⟩
  have fitting : SlotsOk State.reset := coldSlots_ok
  have single : RelaysOk State.reset := ⟨rfl, List.nodup_nil, Nat.succ_pos 255⟩
  have noSources : SourcesOk State.reset := ⟨nofun, List.nodup_nil⟩
  exact ⟨boot, counted, queueOk_of_empty rfl, coldMap_mapOk rfl rfl, single, coldReset_syncOk State.reset, fitting,
    (nofun : SinksOk State.reset), noSources⟩

/-! ### The status lines -/

theorem faultHigh_iff (s : State) : s.faultHigh = true ↔ s.sync.state = .configFault ∨ s.sync.state = .mute ∨
    (∃ c ∈ s.sources, c.state = .clashed) ∨ ∃ q ∈ s.ports, q.clock = some .lost := by
  simp only [State.faultHigh, State.configFaultStands, State.muteStands, State.clashStands, State.clockLostStands,
    Bool.or_eq_true, beq_iff_eq, List.any_eq_true, or_assoc]

theorem attnHigh_eq_false_iff (s : State) : s.attnHigh = false ↔ s.mgmt.notices ≠ [] := by
  simp [State.attnHigh]

theorem notify_attnHigh (n : Notice) (s : State) : (notify n s).attnHigh = false := by
  rw [attnHigh_eq_false_iff, notify_notices]
  split
  · simp
  · intro empty
    simp_all

/-- Settles O11: the two lines as functions of the conditions and of the notice queue. -/
theorem faultAndAttnFollowTheirConditions : Obligations.FaultAndAttnFollowTheirConditions := by
  refine ⟨faultHigh_iff, attnHigh_eq_false_iff, notify_attnHigh, fun n m only => ?_, fun m full => ?_, rfl⟩
  · have few : ¬(16 ≤ m.notices.length ∧ 0 < m.lost) := by simp [only]
    rw [removeNotice_else few, only]
    rfl
  · by_cases losses : 0 < m.lost
    · simp [removeNotice_full full losses]
    · rw [removeNotice_else (fun both => losses both.2)]
      intro empty
      have short := congrArg List.length empty
      simp only [List.length_tail, List.length_nil] at short
      omega

/-! ### Responses -/

/-- A response changes the transaction alone. -/
theorem respond_onlyResponds {st : LmpStatus} {body : List Byte} {code length : Byte} (s : State)
    (hcode : BitVec.ofNat 8 st.code = code) (hlength : BitVec.ofNat 8 body.length = length) :
    OnlyResponds ([code, length] ++ body) .nothing s (respond st body s) := by
  subst hcode hlength
  rfl

theorem respond_notices (st : LmpStatus) (body : List Byte) (s : State) :
    (respond st body s).mgmt.notices = s.mgmt.notices := rfl

theorem respond_lost (st : LmpStatus) (body : List Byte) (s : State) : (respond st body s).mgmt.lost = s.mgmt.lost := rfl

theorem respond_lmp (st : LmpStatus) (body : List Byte) (s : State) :
    (respond st body s).mgmt.lmp = some ⟨responseFrame st body, .nothing⟩ := rfl

theorem byte1?_length (n : Option Nat) : (byte1? n).length = 1 := by cases n <;> rfl

theorem byte2?_length (n : Option Nat) : (byte2? n).length = 2 := by cases n <;> rfl

theorem byteSf?_length (n : Option Superframe) : (byteSf? n).length = 3 := by cases n <;> rfl

theorem byte1_length (n : Nat) : (byte1 n).length = 1 := rfl

theorem byte2_length (n : Nat) : (byte2 n).length = 2 := rfl

theorem flagsByte_length (l : List Bool) : (flagsByte l).length = 1 := rfl

theorem stationBody_length (s : State) : (stationBody s).length = 19 := by
  simp [stationBody, byte1?_length, byte1_length, byte2_length, flagsByte_length]

theorem identBody_length (s : State) : (identBody s).length = 6 := by
  simp [identBody, byte1?_length, byte1_length, byte2_length]

theorem summaryBody_length (s : State) : (summaryBody s).length = 4 := by
  simp [summaryBody, payloadBytes, byte2_length]

theorem syncBody_length (y : Sync) : (syncBody y).length = 11 := by simp [syncBody, byte1_length, byte2_length]

theorem controlBody_length (rx : CellRx) (tx : CellTx) : (controlBody rx tx).length = 13 := by
  simp [controlBody, byte1_length, byte2_length]

theorem allocatorBody_length (k : AllocCounters) : (allocatorBody k).length = 18 := by
  simp [allocatorBody, byte2_length]

theorem requestBody_length (q : ReqUnit) (level : Nat) : (requestBody q level).length = 14 := by
  simp [requestBody, byte1_length, byte2_length]

theorem peerBody_length (p : Peer) : (peerBody p).length = 7 := by
  simp [peerBody, byteSf?_length, byte1_length, byte2_length]

theorem slotBody_length (u : SlotUse) : (slotBody u).length = 9 := by
  simp [slotBody, byte1?_length, byte2?_length, byteSf?_length, byte1_length]

theorem sourceBody_length (c : Source) : (sourceBody c).length = 20 := by
  simp [sourceBody, byte1?_length, byte1_length, byte2_length]

theorem sinkBody_length (c : Sink) : (sinkBody c).length = 15 := by
  simp [sinkBody, byte1?_length, byte1_length, byte2_length]

theorem portBody_length (q : Port) : (portBody q).length = 8 := by
  simp [portBody, byte1?_length, byte1_length, byte2_length]

/-- A READ of what stands: DONE with its body (R183). -/
theorem exec_read {c : Instr} {s : State} (body : State → Option (List Byte)) (high : s.resetLow = false)
    (is : exec c s = underReset (fun t => readGroup (body t) t) s) {b : List Byte} (stands : body s = some b)
    {length : Byte} (hlength : BitVec.ofNat 8 b.length = length) :
    ∃ t, exec c s = .next t ∧ OnlyResponds ([0x00, length] ++ b) .nothing s t := by
  refine ⟨_, is.trans (underReset_high _ high), ?_⟩
  rw [stands]
  exact respond_onlyResponds (st := .done) s rfl hlength

/-- A READ of an entry there is not: NO_SUCH (R183). -/
theorem exec_read_none {c : Instr} {s : State} (body : State → Option (List Byte)) (high : s.resetLow = false)
    (is : exec c s = underReset (fun t => readGroup (body t) t) s) (none : body s = none) :
    ∃ t, exec c s = .next t ∧ OnlyResponds [0x04, 0x00] .nothing s t := by
  refine ⟨_, is.trans (underReset_high _ high), ?_⟩
  rw [none]
  rfl

theorem exec_lmpIdent {s : State} (high : s.resetLow = false) :
    ∃ t, exec .lmpIdent s = .next t ∧ OnlyResponds ([0x00, 0x06] ++ identBody s) .nothing s t :=
  ⟨_, underReset_high _ high, respond_onlyResponds (st := .done) s rfl (by rw [identBody_length]; rfl)⟩

theorem identFrame_eq (s : State) : [0x00, 0x06] ++ identBody s = [0x00, 0x06, 0x48, 0x16, 0x01] ++
    (byte1? (s.loader.image.map Image.stationId) ++ [BitVec.ofNat 8 s.sync.state.code, BitVec.ofNat 8 s.loader.status.code]) :=
  rfl

theorem syncBody_eq (y : Sync) : syncBody y = byte2 y.counters.disagreeing ++ (byte2 y.counters.resyncs ++
    (byte2 y.counters.yields ++ (byte2 y.counters.lineFaults ++
    (byte2 y.counters.foreignLater ++ [if y.leading then 1 else 0])))) := by
  unfold syncBody
  cases y.leading <;> rfl

/-- Settles O12: each READ is one response, whose body's length is that of its fields. -/
theorem readsAnswerAndChangeNothing : Obligations.ReadsAnswerAndChangeNothing := by
  intro i s high
  refine ⟨?_, ?_, ?_, ?_, ?_, ?_, ?_, ?_, ?_, ?_, ?_, ?_⟩
  case refine_1 =>
    rw [← identFrame_eq]
    exact exec_lmpIdent high
  case refine_2 =>
    obtain ⟨t, next, only⟩ := exec_read (c := .readStation i) (fun t => some (stationBody t)) high rfl rfl
      (length := 0x13) (by rw [stationBody_length]; rfl)
    exact ⟨t, stationBody s, next, only, rfl, stationBody_length s⟩
  case refine_3 =>
    exact exec_read (fun t => some (summaryBody t)) high rfl rfl (by rw [summaryBody_length]; rfl)
  case refine_4 =>
    rw [← syncBody_eq]
    exact exec_read (fun t => some (syncBody t.sync)) high rfl rfl (by rw [syncBody_length]; rfl)
  case refine_5 =>
    exact exec_read (fun t => some (controlBody t.rx t.tx)) high rfl rfl (by rw [controlBody_length]; rfl)
  case refine_6 =>
    exact exec_read (fun t => some (allocatorBody t.alloc.counters)) high rfl rfl (by rw [allocatorBody_length]; rfl)
  case refine_7 =>
    exact exec_read (fun t => some (requestBody t.req t.relayLevel)) high rfl rfl (by rw [requestBody_length]; rfl)
  case refine_8 =>
    split
    case isTrue inRange =>
      exact exec_read (fun t => if i.toNat < 32 then some (peerBody (t.peer i.toNat)) else none) high rfl (if_pos inRange)
        (by rw [peerBody_length]; rfl)
    case isFalse outside =>
      exact exec_read_none (fun t => if i.toNat < 32 then some (peerBody (t.peer i.toNat)) else none) high rfl
        (if_neg outside)
  case refine_9 =>
    split
    case isTrue inRange =>
      exact exec_read (fun t => if 8 ≤ i.toNat ∧ i.toNat ≤ 63 then some (slotBody (t.slot i.toNat).use) else none) high rfl
        (if_pos inRange) (by rw [slotBody_length]; rfl)
    case isFalse outside =>
      exact exec_read_none (fun t => if 8 ≤ i.toNat ∧ i.toNat ≤ 63 then some (slotBody (t.slot i.toNat).use) else none) high
        rfl (if_neg outside)
  case refine_10 =>
    cases here : s.sources[i.toNat]? with
    | some c =>
      exact exec_read (fun t => (t.sources[i.toNat]?).map sourceBody) high rfl (by rw [here]; rfl)
        (by rw [sourceBody_length]; rfl)
    | none => exact exec_read_none (fun t => (t.sources[i.toNat]?).map sourceBody) high rfl (by rw [here]; rfl)
  case refine_11 =>
    cases here : s.sinks[i.toNat]? with
    | some c =>
      exact exec_read (fun t => (t.sinks[i.toNat]?).map sinkBody) high rfl (by rw [here]; rfl)
        (by rw [sinkBody_length]; rfl)
    | none => exact exec_read_none (fun t => (t.sinks[i.toNat]?).map sinkBody) high rfl (by rw [here]; rfl)
  case refine_12 =>
    split
    case isTrue inRange =>
      exact exec_read (fun t => if i.toNat < 4 then some (portBody (t.ports.getD i.toNat .cold)) else none) high rfl
        (if_pos inRange) (by rw [portBody_length]; rfl)
    case isFalse outside =>
      exact exec_read_none (fun t => if i.toNat < 4 then some (portBody (t.ports.getD i.toNat .cold)) else none) high rfl
        (if_neg outside)

/-! ### Actions -/

/-- An ACT with RESET_N high and an index in range is its action, answered (R184). -/
theorem act_in_range {a : Action} {i : Byte} {s : State} (low : i.toNat ≤ 63) :
    act a i s = respond (lmpStatusOf (doAction a i.toNat s).1) [] (doAction a i.toNat s).2 := by
  rw [act, if_neg (by omega)]

theorem act_badRequest {a : Action} {i : Byte} {s : State} (above : 63 < i.toNat) :
    act a i s = respond .badRequest [] s := by
  rw [act, if_pos above]

theorem badRequest_onlyResponds (s : State) : OnlyResponds [0x05, 0x00] .nothing s (respond .badRequest [] s) := rfl

theorem noSuch_onlyResponds (s : State) : OnlyResponds [0x04, 0x00] .nothing s (respond .noSuch [] s) := rfl

theorem notNow_onlyResponds (s : State) : OnlyResponds [0x03, 0x00] .nothing s (respond .notNow [] s) := rfl

theorem done_onlyResponds (s : State) : OnlyResponds [0x00, 0x00] .nothing s (respond .done [] s) := rfl

/-- The command of each ACT. -/
theorem exec_actOf (a : Action) (i : Byte) {s : State} (high : s.resetLow = false) :
    exec (actOf a i) s = .next (act a i s) := by
  cases a <;> exact underReset_high _ high

/-- Settles O13: the row of each mute action. -/
theorem muteActionsSetOneFlag : Obligations.MuteActionsSetOneFlag := by
  intro i s high
  have bad (a : Action) (above : 63 < i.toNat) :
      ∃ t, exec (actOf a i) s = .next t ∧ OnlyResponds [0x05, 0x00] .nothing s t :=
    ⟨_, exec_actOf a i high, act_badRequest above ▸ badRequest_onlyResponds s⟩
  have answers (a : Action) (low : i.toNat ≤ 63) (st : AnswerStatus) (u : State) (is : doAction a i.toNat s = (st, u)) :
      exec (actOf a i) s = .next (respond (lmpStatusOf st) [] u) := by
    rw [exec_actOf a i high, act_in_range low, is]
  have noSuch (a : Action) (low : i.toNat ≤ 63) (is : doAction a i.toNat s = (.noSuch, s)) :
      ∃ t, exec (actOf a i) s = .next t ∧ OnlyResponds [0x04, 0x00] .nothing s t :=
    ⟨_, answers a low .noSuch s is, noSuch_onlyResponds s⟩
  refine ⟨fun above c mem => ?_, fun low none c mem => ?_, fun low none c mem => ?_, fun low some => ⟨?_, ?_⟩,
    fun low some => ⟨?_, ?_⟩⟩
  · simp only [List.mem_cons, List.not_mem_nil, or_false] at mem
    rcases mem with rfl | rfl | rfl | rfl
    · exact bad .muteSource above
    · exact bad .unmuteSource above
    · exact bad .muteSink above
    · exact bad .unmuteSink above
  · simp only [List.mem_cons, List.not_mem_nil, or_false] at mem
    rcases mem with rfl | rfl
    · exact noSuch .muteSource low (if_neg (by omega))
    · exact noSuch .unmuteSource low (if_neg (by omega))
  · simp only [List.mem_cons, List.not_mem_nil, or_false] at mem
    rcases mem with rfl | rfl
    · exact noSuch .muteSink low (if_neg (by omega))
    · exact noSuch .unmuteSink low (if_neg (by omega))
  · exact ⟨_, answers .muteSource low .done _ (if_pos some), rfl⟩
  · exact ⟨_, answers .unmuteSource low .done _ (if_pos some), rfl⟩
  · exact ⟨_, answers .muteSink low .done _ (if_pos some), rfl⟩
  · exact ⟨_, answers .unmuteSink low .done _ (if_pos some), rfl⟩

theorem exec_clearCounters {i : Byte} {s : State} (high : s.resetLow = false) (low : i.toNat ≤ 63) :
    exec (.actClearCounters i) s = .next (respond .done [] (clearCounters s)) := by
  have ran := exec_actOf .clearCounters i high
  rw [act_in_range low] at ran
  exact ran

/-- Settles O15: the counters are fields of their own. -/
theorem clearCountersClearsCountersAlone : Obligations.ClearCountersClearsCountersAlone := by
  intro i s high low
  refine ⟨_, exec_clearCounters high low, rfl, ?_⟩
  simp only [respond_frame, respond_notices, respond_lost, clearCounters_frame]
  simp [clearCounters]

end Sys2Proof.Proofs
end

section
/-! What completing relays, a full teardown, entry to LEAVING and giving a run up leave, and the actions they serve. -/

namespace Sys2Proof.Proofs

open Sys2Proof.Machine

/-! ### Notices in order -/

/-- The notices of the one state stand, in order, at the front of those of the other; the LMP transaction and the built
cell are as they were (R53, R182, R185). -/
def PostsOnly (s t : State) : Prop :=
  s.mgmt.notices <+: t.mgmt.notices ∧ t.mgmt.lmp = s.mgmt.lmp ∧ t.tx.built = s.tx.built

namespace PostsOnly

theorem refl (s : State) : PostsOnly s s := ⟨List.prefix_refl _, rfl, rfl⟩

theorem trans {s t u : State} (h : PostsOnly s t) (k : PostsOnly t u) : PostsOnly s u :=
  ⟨h.1.trans k.1, k.2.1.trans h.2.1, k.2.2.trans h.2.2⟩

theorem of_same {s t : State} (mgmt : t.mgmt = s.mgmt) (tx : t.tx = s.tx) : PostsOnly s t := by
  unfold PostsOnly
  rw [mgmt, tx]
  exact refl s

theorem foldl {α : Type} {f : State → α → State} (l : List α) (s : State) (round : ∀ t x, PostsOnly t (f t x)) :
    PostsOnly s (l.foldl f s) :=
  foldl_inv (PostsOnly s) f l s (refl s) (fun t x h => h.trans (round t x))

theorem forEach {f : Nat → State → State} (n : Nat) (s : State) (round : ∀ i t, PostsOnly t (f i t)) :
    PostsOnly s (Machine.forEach n f s) := foldl _ s (fun t i => round i t)

/-- The first notice stays the first. -/
theorem head {s t : State} (h : PostsOnly s t) {n : Notice} (first : s.mgmt.notices.head? = some n) :
    t.mgmt.notices.head? = some n := by
  obtain ⟨⟨later, whole⟩, -, -⟩ := h
  rw [← whole, List.head?_append, first]
  rfl

end PostsOnly

theorem notify_grows (n : Notice) (s : State) : PostsOnly s (notify n s) := by
  refine ⟨?_, notify_lmp n s, rfl⟩
  rw [notify_notices]
  split
  · exact List.prefix_append _ _
  · exact List.prefix_refl _

/-- A notice posted to an empty queue is its first. -/
theorem notify_head {n : Notice} {s : State} (empty : s.mgmt.notices = []) :
    (notify n s).mgmt.notices.head? = some n := by
  rw [notify_notices, empty]
  rfl

/-! ### Relays completed -/

/-- An entry that is completed with a result if it is open and satisfies `p` (R175). -/
def relayCompleted (p : Relay → Bool) (result : RelayOutcome) (r : Relay) : Relay :=
  if p r && r.isOpen then { r with phase := .done r.sent result } else r

theorem setRelay_relay {s : State} {h g : Nat} {r : Option Relay} (inRange : h < s.req.table.length) :
    (setRelay h r s).relay g = if g = h then r else s.relay g := by
  show ((s.req.table.set h r)[g]?).join = _
  by_cases same : g = h
  · subst same
    simp [inRange]
  · simp [same, Ne.symm same, State.relay]

theorem notify_relay (n : Notice) (s : State) (h : Nat) : (notify n s).relay h = s.relay h := rfl

theorem relay_inRange {s : State} {h : Nat} {r : Relay} (here : s.relay h = some r) : h < s.req.table.length :=
  (List.getElem?_eq_some_iff.mp (relay_eq_some_iff.mp here)).1

/-- Completing the entry at a handle leaves every other one. -/
theorem completeRelay_relay (h g : Nat) (result : RelayOutcome) (s : State) :
    (completeRelay h result s).relay g =
      if g = h then (s.relay h).map (relayCompleted (fun _ => true) result) else s.relay g := by
  cases here : s.relay h with
  | none =>
    rw [completeRelay_closed result (by simp [here])]
    split
    · simp_all
    · rfl
  | some r =>
    cases isOpen : r.isOpen with
    | true =>
      rw [completeRelay_open result here isOpen, notify_relay, setRelay_relay (relay_inRange here)]
      simp [relayCompleted, isOpen]
    | false =>
      rw [completeRelay_closed result (by simp [here, isOpen])]
      split
      · simp_all [relayCompleted]
      · rfl

/-- One round of completing every entry that satisfies `p`. -/
theorem completeRound_relay (p : Relay → Bool) (result : RelayOutcome) (h g : Nat) (s : State) :
    (match s.relay h with
      | some r => if p r then completeRelay h result s else s
      | none => s).relay g =
      if g = h then (s.relay h).map (relayCompleted p result) else s.relay g := by
  cases here : s.relay h with
  | none =>
    dsimp only
    split
    · simp_all
    · rfl
  | some r =>
    dsimp only
    cases satisfies : p r with
    | true =>
      simp only [if_true]
      rw [completeRelay_relay, here]
      simp [relayCompleted, satisfies]
    | false =>
      split
      · simp_all
      · split
        · simp_all [relayCompleted]
        · rfl

/-- A loop over the handles changes each entry by its own round. -/
theorem forEach_relay {f : Nat → State → State} {G : Relay → Relay}
    (round : ∀ h s g, (f h s).relay g = if g = h then (s.relay h).map G else s.relay g) (n : Nat) (s : State) (g : Nat) :
    (forEach n f s).relay g = if g < n then (s.relay g).map G else s.relay g := by
  induction n with
  | zero => simp
  | succ n ih =>
    rw [forEach_succ, round]
    by_cases last : g = n
    · subst last
      simpa using congrArg (Option.map G) ih
    · rw [if_neg last, ih]
      have step : g < n + 1 ↔ g < n := by omega
      simp [step]

theorem completeWhere_relay (p : Relay → Bool) (result : RelayOutcome) (s : State) {h : Nat} (low : h < 4) :
    (completeWhere p result s).relay h = (s.relay h).map (relayCompleted p result) := by
  unfold completeWhere
  rw [forEach_relay (G := relayCompleted p result), if_pos low]
  intro h s g
  exact (completeRound_relay p result h g s).trans rfl

theorem completeRelay_grows (h : Nat) (result : RelayOutcome) (s : State) : PostsOnly s (completeRelay h result s) := by
  unfold completeRelay
  repeat' split
  · exact notify_grows _ _
  · exact .refl s
  · exact .refl s

theorem completeWhere_grows (p : Relay → Bool) (result : RelayOutcome) (s : State) :
    PostsOnly s (completeWhere p result s) := by
  refine PostsOnly.forEach 4 s (fun h t => ?_)
  repeat' split
  · exact completeRelay_grows h result t
  · exact .refl t
  · exact .refl t

/-! ### Full teardown -/

theorem teardown_grows {report : State → State} (grows : ∀ t, PostsOnly t (report t)) (s : State) :
    PostsOnly (teardownBlocks s) (teardown report s) := (grows _).trans (completeWhere_grows _ _ _)

/-- Every block but the notice queue and the request unit is as the blocks' own teardown leaves it. -/
theorem teardown_blocks {report : State → State} (posts : ∀ t, ∃ n, report t = notify n t) (s : State) :
    (teardown report s).sync = (teardownBlocks s).sync ∧ (teardown report s).rx = (teardownBlocks s).rx ∧
    (teardown report s).tx = (teardownBlocks s).tx ∧ (teardown report s).peers = (teardownBlocks s).peers ∧
    (teardown report s).alloc = (teardownBlocks s).alloc ∧ (teardown report s).sources = (teardownBlocks s).sources ∧
    (teardown report s).sinks = (teardownBlocks s).sinks ∧ (teardown report s).ports = s.ports ∧
    (teardown report s).loader = s.loader ∧ (teardown report s).pending = s.pending ∧
    (teardown report s).line = s.line := by
  obtain ⟨n, posted⟩ := posts (teardownBlocks s)
  unfold teardown abortRelays
  rw [posted]
  simp

/-- Full teardown, whatever notice reports its cause (R39, R72, R111, R135, R154). -/
theorem teardown_tornDown {report : State → State} (posts : ∀ t, ∃ n, report t = notify n t) (s : State) :
    TornDown s (teardown report s) := by
  obtain ⟨sync, rx, tx, peers, alloc, sources, sinks, ports, loader, pending, -⟩ := teardown_blocks posts s
  have lock : (teardown report s).lockHigh = false := by
    unfold State.lockHigh
    rw [sync]
    rfl
  refine ⟨?_, ?_, ?_, ?_, ?_, ?_, ?_, ?_, ?_, ?_, ?_, ?_, ?_, ?_, lock, ?_, ?_, ?_, ?_, ?_, ?_, ?_, ?_, ?_, loader, ports,
    pending⟩
  any_goals (rw [sync]; rfl)
  any_goals (rw [alloc]; rfl)
  · rw [rx]; rfl
  · rw [peers]; rfl
  · intro n c here
    refine ⟨c.atTeardown, ?_, rfl, rfl, rfl, rfl, rfl, rfl, rfl⟩
    rw [sources]
    show (s.sources.map Source.atTeardown)[n]? = _
    rw [List.getElem?_map, here]
    rfl
  · intro n c here
    refine ⟨c.teardown, ?_, rfl, rfl, rfl, rfl, rfl, rfl, rfl, rfl⟩
    rw [sinks]
    show (s.sinks.map Sink.teardown)[n]? = _
    rw [List.getElem?_map, here]
    rfl
  · rw [tx]; rfl
  · intro h r low here
    obtain ⟨n, posted⟩ := posts (teardownBlocks s)
    have before : (report (teardownBlocks s)).relay h = some r := by
      rw [posted]
      exact here
    show (abortRelays (report (teardownBlocks s))).relay h = _
    unfold abortRelays
    rw [completeWhere_relay _ _ _ low, before]
    simp [relayCompleted]

/-- The first notice of a teardown is its cause's, if none waits (R39). -/
theorem teardown_head {report : State → State} {n : Notice} {s : State}
    (posts : report (teardownBlocks s) = notify n (teardownBlocks s)) (empty : s.mgmt.notices = []) :
    (teardown report s).mgmt.notices.head? = some n := by
  unfold teardown
  rw [posts]
  refine (completeWhere_grows _ _ _).head (notify_head ?_)
  simpa using empty

theorem notifySync_posts (c : SyncCause) (t : State) : ∃ n, notifySync c t = notify n t := ⟨_, rfl⟩

/-! ### LEAVING -/

/-- The LEAVE stands in the queue, among ANSWERs (R37). -/
theorem queueLeave_items {s : State} (answers : ∀ it ∈ s.tx.queue, it.isAnswer = true) :
    .leave ∈ (queueLeave s).tx.queue ∧ ∀ it ∈ (queueLeave s).tx.queue, it.isAnswer = true ∨ it = .leave := by
  have joined (rest : List QItem) (sub : ∀ it ∈ rest, it ∈ s.tx.queue) :
      .leave ∈ rest ++ [.leave] ∧ ∀ it ∈ rest ++ [.leave], it.isAnswer = true ∨ it = .leave := by
    refine ⟨by simp, fun it mem => ?_⟩
    rcases List.mem_append.mp mem with old | new
    · exact .inl (answers it (sub it old))
    · exact .inr (List.mem_singleton.mp new)
  unfold queueLeave
  split
  · exact joined s.tx.queue (fun _ h => h)
  · split
    case h_1 it rest taken => exact joined rest (fun it mem => (takeNewest_sublist taken).subset mem)
    case h_2 => exact joined s.tx.queue (fun _ h => h)

theorem returnItem_losses (it : QItem) (s : State) :
    (returnItem it s).tx.fullQueueLosses = s.tx.fullQueueLosses := by
  cases it <;> simp [returnItem]
  split <;> simp

theorem purgeQueue_losses (s : State) : (purgeQueue s).tx.fullQueueLosses = s.tx.fullQueueLosses := by
  unfold purgeQueue
  dsimp only
  refine forEach_inv (fun t => t.tx.fullQueueLosses = s.tx.fullQueueLosses) _ _ _ ?_ (fun h t same => ?_)
  · exact foldl_inv (fun t => t.tx.fullQueueLosses = s.tx.fullQueueLosses) _ _ _ rfl
      (fun t it same => (returnItem_losses it t).trans same)
  · refine foldl_inv (fun t => t.tx.fullQueueLosses = s.tx.fullQueueLosses) _ _ _ same (fun u it same => ?_)
    repeat' split
    all_goals simpa using same

theorem queueLeave_losses (s : State) : (queueLeave s).tx.fullQueueLosses = s.tx.fullQueueLosses := by
  unfold queueLeave
  repeat' split
  all_goals rfl

theorem enterLeaving_sync (s : State) : (enterLeaving s).sync = { s.sync with state := .leaving } := by
  simp [enterLeaving]

theorem enterLeaving_queue (s : State) : .leave ∈ (enterLeaving s).tx.queue ∧
    ∀ it ∈ (enterLeaving s).tx.queue, it.isAnswer = true ∨ it = .leave := by
  refine queueLeave_items (fun it mem => ?_)
  rw [purgeQueue_queue] at mem
  exact (List.mem_filter.mp mem).2

theorem enterLeaving_losses (s : State) : (enterLeaving s).tx.fullQueueLosses = s.tx.fullQueueLosses :=
  (queueLeave_losses _).trans (purgeQueue_losses _)

/-! ### RESTART -/

theorem exec_restart {i : Byte} {s t : State} {st : AnswerStatus} (high : s.resetLow = false) (low : i.toNat ≤ 63)
    (is : restart s = (st, t)) : exec (.actRestart i) s = .next (respond (lmpStatusOf st) [] t) := by
  have ran := exec_actOf .restart i high
  rw [act_in_range low, show doAction .restart i.toNat s = (st, t) from is] at ran
  exact ran

theorem tornDown_respond {s t : State} (torn : TornDown s t) (st : LmpStatus) (body : List Byte) :
    TornDown s (respond st body t) := torn

/-- RESTART in LOCKED and FOUNDING (R36, R37). -/
theorem exec_restart_leaving {i : Byte} {s : State} (high : s.resetLow = false) (low : i.toNat ≤ 63)
    (is : restart s = (.done, enterLeaving s)) :
    ∃ t, exec (.actRestart i) s = .next t ∧ t.mgmt.lmp = some ⟨[0x00, 0x00], .nothing⟩ ∧
      t.sync = { s.sync with state := .leaving } ∧ t.lockHigh = true ∧ .leave ∈ t.tx.queue ∧
      (∀ it ∈ t.tx.queue, it.isAnswer = true ∨ it = .leave) ∧ t.tx.fullQueueLosses = s.tx.fullQueueLosses ∧
      t.alloc = s.alloc ∧ t.sinks = s.sinks ∧ t.ports = s.ports := by
  refine ⟨_, exec_restart high low is, rfl, enterLeaving_sync s, ?_, (enterLeaving_queue s).1, (enterLeaving_queue s).2,
    enterLeaving_losses s, ?_, ?_, ?_⟩
  · exact (lockHigh_iff _).mpr (.inr (congrArg Sync.state (enterLeaving_sync s)))
  · simp
  · simp
  · simp

/-- RESTART in MUTE and LEARN (R36, R39). -/
theorem exec_restart_teardown {i : Byte} {s : State} (high : s.resetLow = false) (low : i.toNat ≤ 63)
    (is : restart s = (.done, teardown (notifySync .restarted) s)) :
    ∃ t, exec (.actRestart i) s = .next t ∧ t.mgmt.lmp = some ⟨[0x00, 0x00], .nothing⟩ ∧ TornDown s t ∧
      (s.mgmt.notices = [] → t.mgmt.notices.head? = some (.sync .restarted .listen 0 0)) := by
  refine ⟨_, exec_restart high low is, rfl, tornDown_respond (teardown_tornDown (notifySync_posts _) s) _ _,
    fun empty => ?_⟩
  rw [respond_notices]
  exact teardown_head (n := .sync .restarted .listen 0 0) rfl empty

/-- Settles O16: the row of each sync state. -/
theorem restartTakesTheOutcomeOfItsState : Obligations.RestartTakesTheOutcomeOfItsState := by
  intro i s high low
  cases state : s.sync.state with
  | locked | founding =>
    obtain ⟨t, next, all⟩ := exec_restart_leaving high low (by simp only [restart, state])
    exact ⟨t, next, fun _ => all, by simp, by simp, by simp [SyncState.timerRuns]⟩
  | mute | learn =>
    obtain ⟨t, next, all⟩ := exec_restart_teardown high low (by simp only [restart, state])
    exact ⟨t, next, by simp, fun _ => all, by simp, by simp [SyncState.timerRuns]⟩
  | acquire | listen =>
    have is : restart s = (.done, enterListen s) := by simp only [restart, state]
    exact ⟨_, exec_restart high low is, by simp, by simp, fun _ => rfl, by simp [SyncState.timerRuns]⟩
  | leaving | configLoad | configWait | configFault =>
    have is : restart s = (.notNow, s) := by simp only [restart, state]
    exact ⟨_, exec_restart high low is, by simp, by simp, by simp, fun _ => rfl⟩

/-! ### RESEEK -/

theorem noteQueued_release (n tag : Nat) (r : Run) (stale : Bool) (s : State) :
    noteQueued (.release n tag r stale) s = setQueued n .release s := rfl

/-- With room and in a state that takes items, an item that is no OFFER joins the tail (R49, R51). -/
theorem post_room {it : QItem} {s : State} (accepts : queueAccepts s.sync.state it = true)
    (notOffer : ∀ n o, it ≠ .offer n o) (room : s.tx.queue.length < 16) :
    post it s = noteQueued it (modQueue (· ++ [it]) s) := by
  rw [post_accepted accepts (fun n o is => absurd is (notOffer n o)), enqueue, if_pos room]

/-- A source that gives its run up, and what of it is queued (R123). -/
def sourceReleasing (q : QueuedItem) (c : Source) : Source :=
  { c with state := .releasing, queue := [], tally := 0, refresh := 0, queuedItem := q }

theorem enterReleasing_eq {n : Nat} {c : Source} {r : Run} {s : State} (here : s.sources[n]? = some c)
    (run : c.run = some r) : enterReleasing n s =
      post (.release n c.cfg.tag r false) (s.modSource n (sourceReleasing .nothing)) := by
  have changed : (s.modSource n (sourceReleasing .nothing)).sources[n]? = some (sourceReleasing .nothing c) :=
    modify_getElem?_self _ here
  show postRelease n (s.modSource n (sourceReleasing .nothing)) = _
  unfold postRelease
  rw [changed]
  have still : (sourceReleasing .nothing c).run = some r := run
  dsimp only
  rw [still]
  rfl

/-- With room in the queue the RELEASE stands at its tail (R51, R123). -/
theorem enterReleasing_room {n : Nat} {c : Source} {r : Run} {s : State} (here : s.sources[n]? = some c)
    (run : c.run = some r) (accepts : s.sync.state = .locked ∨ s.sync.state = .founding) (room : s.tx.queue.length < 16) :
    enterReleasing n s = { s with
      sources := s.sources.modify n (sourceReleasing .release)
      tx := { s.tx with queue := s.tx.queue ++ [.release n c.cfg.tag r false] } } := by
  rw [enterReleasing_eq here run, post_room (s := s.modSource n (sourceReleasing .nothing)) ?_ (by simp) room, noteQueued_release]
  · show { s with
      sources := (s.sources.modify n (sourceReleasing .nothing)).modify n _
      tx := { s.tx with queue := s.tx.queue ++ [QItem.release n c.cfg.tag r false] } } = (_ : State)
    rw [List.modify_modify_eq]
    rfl
  · show queueAccepts s.sync.state _ = true
    rcases accepts with st | st <;> (rw [st]; rfl)

/-- A state that refuses the RELEASE leaves nothing of the source queued (R49, R52, R127). -/
theorem enterReleasing_refused {n : Nat} {c : Source} {r : Run} {s : State} (here : s.sources[n]? = some c)
    (run : c.run = some r) (refuses : queueAccepts s.sync.state (.release n c.cfg.tag r false) = false) :
    enterReleasing n s = { s with sources := s.sources.modify n (sourceReleasing .nothing) } := by
  rw [enterReleasing_eq here run]
  unfold post
  rw [if_neg (by simpa using refuses)]
  show { s with sources := (s.sources.modify n (sourceReleasing .nothing)).modify n _ } = (_ : State)
  rw [List.modify_modify_eq]
  rfl

theorem sourceIs_of {s : State} {n : Nat} {c : Source} (here : s.sources[n]? = some c) (st : SourceState) :
    s.sourceIs n st = (c.state == st) := by
  unfold State.sourceIs
  rw [here]

theorem exec_reseek {i : Byte} {s t : State} {st : AnswerStatus} (high : s.resetLow = false) (low : i.toNat ≤ 63)
    (is : doAction .reseekSource i.toNat s = (st, t)) :
    exec (.actReseekSource i) s = .next (respond (lmpStatusOf st) [] t) := by
  have ran := exec_actOf .reseekSource i high
  rw [act_in_range low, is] at ran
  exact ran

/-- Settles O14: the rows of RESEEK, the RELEASE posted in a state that takes it or refused. -/
theorem reseekReleasesAnOwnedSource : Obligations.ReseekReleasesAnOwnedSource := by
  intro i s high
  have inRange {c : Source} (here : s.sources[i.toNat]? = some c) : i.toNat < s.sources.length :=
    (List.getElem?_eq_some_iff.mp here).1
  have ran {c : Source} (here : s.sources[i.toNat]? = some c) : doAction .reseekSource i.toNat s =
      if c.state = .owned then (.done, enterReleasing i.toNat s) else (.notNow, s) := by
    simp [doAction, inRange here, reseek, sourceIs_of here]
  refine ⟨fun c r low here run owned => ?_, fun c low here other => ?_, fun low none => ?_, fun above => ?_⟩
  · have is := ran here
    rw [if_pos owned] at is
    refine ⟨_, exec_reseek high low is, rfl, by simp, by simp, by simp, by simp, by simp, by simp, fun locked room => ?_,
      fun leaving => ?_⟩
    · rw [enterReleasing_room here run (.inl locked) room]
      exact ⟨rfl, rfl, rfl, rfl⟩
    · rw [enterReleasing_refused here run (by rw [leaving]; rfl)]
      exact ⟨rfl, rfl, rfl, rfl⟩
  · have is := ran here
    rw [if_neg other] at is
    exact ⟨_, exec_reseek high low is, rfl⟩
  · exact ⟨_, exec_reseek high low (if_neg (by omega)), rfl⟩
  · exact ⟨_, exec_actOf .reseekSource i high, act_badRequest above ▸ badRequest_onlyResponds s⟩

end Sys2Proof.Proofs
end

section
/-! Relay requests, the responses that free or remove something, and the coding of request frames. -/

namespace Sys2Proof.Proofs

open Sys2Proof.Machine

/-! ### Relays refused and accepted -/

/-- The command of a relay with its code read. -/
theorem exec_relay {c : Instr} {target code i : Byte} {x : Code} {s : State} (high : s.resetLow = false)
    (low : i.toNat ≤ 63) (is : (c = .relayProbe target code i ∧ (subjectOf code.toNat).map Code.subject = some x) ∨
      (c = .relayCommand target code i ∧ (actionOf code.toNat).map Code.action = some x)) :
    exec c s = .next (askRelay target.toNat x i.toNat s) := by
  have read {code' : Option Code} (names : code' = some x) :
      relayRequest target code' i s = askRelay target.toNat x i.toNat s := by
    rw [names]
    exact if_neg (by omega)
  rcases is with ⟨rfl, names⟩ | ⟨rfl, names⟩
  · exact (underReset_high _ high).trans (congrArg _ (read names))
  · exact (underReset_high _ high).trans (congrArg _ (read names))

theorem relayRequest_bad {target i : Byte} {code : Option Code} {s : State} (bad : code = none ∨ 63 < i.toNat) :
    relayRequest target code i s = respond .badRequest [] s := by
  rcases bad with rfl | above
  · rfl
  · cases code with
    | none => rfl
    | some c => exact if_pos above

theorem freeHandle_eq_none_iff (s : State) : freeHandle s = none ↔ ∀ e ∈ s.req.table, e ≠ none := by
  unfold freeHandle
  rw [List.findIdx?_eq_none_iff]
  refine forall₂_congr fun e _ => ?_
  cases e <;> simp

/-- The lowest free handle (R170). -/
theorem freeHandle_eq {s : State} {h : Nat} (free : s.req.table[h]? = some none)
    (lower : ∀ g, g < h → s.req.table[g]? ≠ some none) : freeHandle s = some h := by
  obtain ⟨inRange, isNone⟩ := List.getElem?_eq_some_iff.mp free
  refine List.findIdx?_eq_some_iff_getElem.mpr ⟨inRange, by rw [isNone]; rfl, fun g below isFree => ?_⟩
  refine lower g below ?_
  rw [List.getElem?_eq_getElem (by omega)]
  exact congrArg some (Option.isNone_iff_eq_none.mp isFree)

/-- A refused relay: the status of the first test that fails, and nothing else (R171). -/
theorem askRelay_refused {target : Nat} {x : Code} {i : Nat} {s : State} {st : LmpStatus}
    (refused : relayRefusal target s = some st) : askRelay target x i s = respond st [] s := by
  unfold askRelay
  rw [refused]

/-- The status byte of a relay by the tests of R171. -/
def relayStatusByte (target : Nat) (s : State) : Byte :=
  match relayRefusal target s with
  | some st => BitVec.ofNat 8 st.code
  | none => 0x01

theorem relayStatusByte_eq (target : Nat) (s : State) : relayStatusByte target s =
    (if s.sync.state ≠ .locked then 0x03
      else if 31 < target ∨ target = s.id then 0x06
      else if (s.peer target).presence ≠ .present then 0x07
      else if (∀ e ∈ s.req.table, e ≠ none) then 0x08 else 0x01) := by
  have none_iff := freeHandle_eq_none_iff s
  rw [← Option.isNone_iff_eq_none] at none_iff
  unfold relayStatusByte relayRefusal
  by_cases locked : s.sync.state ≠ .locked
  · rw [if_pos locked, if_pos locked]; rfl
  rw [if_neg locked, if_neg locked]
  by_cases target' : 31 < target ∨ target = s.id
  · rw [if_pos target', if_pos target']; rfl
  rw [if_neg target', if_neg target']
  by_cases present : (s.peer target).presence ≠ .present
  · rw [if_pos present, if_pos present]; rfl
  rw [if_neg present, if_neg present]
  by_cases full : ∀ e ∈ s.req.table, e ≠ none
  · rw [if_pos full, if_pos (none_iff.mpr full)]; rfl
  · rw [if_neg full, if_neg (fun isNone => full (none_iff.mp isNone))]

/-- Settles O17: the tests in their order, each with its status. -/
theorem relayRefusalsNameTheFirstTest : Obligations.RelayRefusalsNameTheFirstTest := by
  intro target code i s high
  refine ⟨fun bad => ?_, fun bad => ?_, fun low c is st names refused => ?_⟩
  · refine ⟨_, underReset_high _ high, ?_⟩
    rw [relayRequest_bad (bad.imp_left fun none => by rw [none]; rfl)]
    exact badRequest_onlyResponds s
  · refine ⟨_, underReset_high _ high, ?_⟩
    rw [relayRequest_bad (bad.imp_left fun none => by rw [none]; rfl)]
    exact badRequest_onlyResponds s
  · rw [← relayStatusByte_eq] at names
    obtain ⟨x, read⟩ : ∃ x, (c = .relayProbe target code i ∧ (subjectOf code.toNat).map Code.subject = some x) ∨
        (c = .relayCommand target code i ∧ (actionOf code.toNat).map Code.action = some x) := by
      rcases is with ⟨rfl, some⟩ | ⟨rfl, some⟩
      · obtain ⟨y, is⟩ := Option.ne_none_iff_exists'.mp some
        exact ⟨.subject y, .inl ⟨rfl, by rw [is]; rfl⟩⟩
      · obtain ⟨y, is⟩ := Option.ne_none_iff_exists'.mp some
        exact ⟨.action y, .inr ⟨rfl, by rw [is]; rfl⟩⟩
    refine ⟨_, exec_relay high low read, ?_⟩
    cases first : relayRefusal target.toNat s with
    | none => simp [relayStatusByte, first] at names; exact absurd names refused
    | some reason =>
      rw [askRelay_refused first, names]
      have byte : relayStatusByte target.toNat s = BitVec.ofNat 8 reason.code := by simp [relayStatusByte, first]
      rw [byte]
      exact respond_onlyResponds s rfl rfl

theorem noteQueued_relayItem (h q target : Nat) (x : Code) (i : Nat) (s : State) :
    noteQueued (relayItem h q target x i) s = s := by
  cases x <;> rfl

/-- With room in LOCKED a relay's item joins the tail (R51). -/
theorem post_relayItem_room {h q target : Nat} {x : Code} {i : Nat} {s : State} (locked : s.sync.state = .locked)
    (room : s.tx.queue.length < 16) :
    post (relayItem h q target x i) s = modQueue (· ++ [relayItem h q target x i]) s := by
  have accepts : queueAccepts s.sync.state (relayItem h q target x i) = true := by
    rw [locked]
    rfl
  have notOffer (n : Nat) (o : Bool) : relayItem h q target x i ≠ .offer n o := by cases x <;> nofun
  exact (post_room accepts notOffer room).trans (noteQueued_relayItem ..)

theorem relayRefusal_none {target h : Nat} {s : State} (locked : s.sync.state = .locked) (low : target ≤ 31)
    (other : target ≠ s.id) (present : (s.peer target).presence = .present) (free : freeHandle s = some h) :
    relayRefusal target s = none := by
  have apart : ¬(31 < target ∨ target = s.id) := by
    rintro (above | own)
    · omega
    · exact other own
  simp [relayRefusal, locked, apart, present, free]

/-- An accepted relay's item joins the tail of a queue with room (R51, R171). -/
theorem acceptRelay_room {h target : Nat} {x : Code} {i : Nat} {s : State} (locked : s.sync.state = .locked)
    (room : s.tx.queue.length < 16) :
    acceptRelay h target x i s = (freeNumber s.req.table 4 s.req.nextNo,
      modQueue (· ++ [relayItem h (freeNumber s.req.table 4 s.req.nextNo) target x i])
        (setRelay h (some ⟨freeNumber s.req.table 4 s.req.nextNo, target, x, i, .queued⟩)
          (s.modReq (fun q => { q with nextNo := (freeNumber s.req.table 4 s.req.nextNo + 1) % 256 })))) := by
  unfold acceptRelay
  dsimp only
  exact Prod.ext rfl (post_relayItem_room locked room)

/-- Settles O18: the accepted relay's fields, and the search for its number. -/
theorem relayAcceptedTakesHandleAndNumber : Obligations.RelayAcceptedTakesHandleAndNumber := by
  refine ⟨fun target code i x h s high low locked within other present four free lower room c is => ?_,
    fun table n few low => freeNumber_spec table n few low⟩
  have handle := freeHandle_eq free lower
  refine ⟨_, exec_relay high low is, ?_⟩
  unfold askRelay
  rw [relayRefusal_none locked within other present handle, handle]
  dsimp only
  rw [acceptRelay_room locked room]
  exact ⟨rfl, rfl, rfl, rfl, rfl, rfl, rfl, rfl, rfl, rfl, rfl⟩

/-! ### Relay results and notices -/

theorem resultBytes_length (r : RelayOutcome) : (resultBytes r).length = 7 := by cases r <;> rfl

theorem relayBody_length (r : Relay) (result : RelayOutcome) : (relayBody r result).length = 11 := by
  simp [relayBody, byte1_length, resultBytes_length]

/-- The end of the transaction of a response: its completion if every byte of it went out (R182). -/
theorem exec_transactionEnd_respondThen {st : LmpStatus} {body : List Byte} {c : OnComplete} {s : State} {length : Nat}
    (high : s.resetLow = false) (isLength : body.length + 2 = length) :
    (∀ k, length ≤ k → exec (.lmpTransactionEnd k) (respondThen st body c s) =
      .next (completeLmp c { s with mgmt := { s.mgmt with lmp := none } })) ∧
    (∀ k, k < length → exec (.lmpTransactionEnd k) (respondThen st body c s) =
      .next { s with mgmt := { s.mgmt with lmp := none } }) := by
  have frame : (responseFrame st body).length = length := by
    simp only [responseFrame, List.length_append, byte1_length]
    omega
  have ran (k : Nat) : exec (.lmpTransactionEnd k) (respondThen st body c s) =
      .next (if (responseFrame st body).length ≤ k then completeLmp c { s with mgmt := { s.mgmt with lmp := none } }
        else { s with mgmt := { s.mgmt with lmp := none } }) :=
    underReset_high _ high
  refine ⟨fun k whole => ?_, fun k short => ?_⟩
  · rw [ran, if_pos (by omega)]
  · rw [ran, if_neg (by omega)]

theorem exec_relayResult {h : Byte} {s : State} (high : s.resetLow = false) :
    exec (.relayResult h) s = .next (relayResult h.toNat s) := underReset_high _ high

/-- Settles O19: a row per state of the entry, and the end of the DONE response. -/
theorem relayResultAnswersAndFrees : Obligations.RelayResultAnswersAndFrees := by
  intro h s high
  refine ⟨fun above => ⟨_, exec_relayResult high, ?_⟩, fun low free => ⟨_, exec_relayResult high, ?_⟩,
    fun r low here => ⟨fun queued => ⟨_, exec_relayResult high, ?_⟩, fun sf awaiting => ⟨_, exec_relayResult high, ?_⟩,
      fun sent res done => ?_⟩⟩
  · rw [relayResult, if_pos above]
    exact badRequest_onlyResponds s
  · rw [relayResult, if_neg (by omega), free]
    exact respond_onlyResponds (st := .empty) s rfl rfl
  · rw [relayResult, if_neg (by omega), here]
    dsimp only
    rw [queued]
    exact respond_onlyResponds (st := .pending) s rfl rfl
  · rw [relayResult, if_neg (by omega), here]
    dsimp only
    rw [awaiting]
    exact respond_onlyResponds (st := .pending) s rfl rfl
  · have is : relayResult h.toNat s = respondThen .done (relayBody r res) (.freeRelay h.toNat) s := by
      rw [relayResult, if_neg (by omega), here]
      dsimp only
      rw [done]
    obtain ⟨whole, short⟩ := exec_transactionEnd_respondThen (st := .done) (c := .freeRelay h.toNat) high
      (congrArg (· + 2) (relayBody_length r res))
    refine ⟨_, (exec_relayResult high).trans (congrArg _ is), ?_, whole, short⟩
    rw [OnlyResponds, respondThen, responseFrame, relayBody_length]
    rfl

/-- Settles O20: the head is answered, and removed by `removeNotice` once the response is out. -/
theorem takeNoticeRemovesTheHeadOnCompletion : Obligations.TakeNoticeRemovesTheHeadOnCompletion := by
  intro s high
  have ran : exec .takeNotice s = .next (takeHead s) := underReset_high _ high
  refine ⟨fun empty => ⟨_, ran, ?_⟩, fun n rest queued => ?_⟩
  · rw [takeHead, empty]
    exact respond_onlyResponds (st := .empty) s rfl rfl
  · have is : takeHead s = respondThen .done n.bytes .removeNotice s := by rw [takeHead, queued]
    obtain ⟨whole, short⟩ := exec_transactionEnd_respondThen (st := .done) (c := .removeNotice) high
      (congrArg (· + 2) (notice_bytes_length n))
    refine ⟨_, ran.trans (congrArg _ is), ?_, short, fun k long both => ?_, fun k long not => ?_⟩
    · rw [OnlyResponds, respondThen, responseFrame, notice_bytes_length]
      rfl
    · rw [whole k long, completeLmp]
      unfold State.modMgmt
      rw [removeNotice_full (m := { s.mgmt with lmp := none }) both.1 both.2, queued]
      rfl
    · rw [whole k long, completeLmp]
      unfold State.modMgmt
      rw [removeNotice_else (m := { s.mgmt with lmp := none }) not]
      show _ = Host.Outcome.next { s with mgmt := { s.mgmt with notices := rest, lmp := none } }
      rw [queued]
      rfl

/-! ### Request frames -/

theorem subjectOf_isSome {n : Nat} (low : 1 ≤ n) (high : n ≤ 5) : (subjectOf n).isSome = true := by
  interval_cases n <;> rfl

theorem actionOf_isSome {n : Nat} (low : 8 ≤ n) (high : n ≤ 14) : (actionOf n).isSome = true := by
  interval_cases n <;> rfl

/-- A frame that is a bad request is answered so, and one that is none codes what its kind says (R182). -/
theorem requestOf_bad {frame : List Byte} (bad : frameIsBad frame = true) :
    requestOf frame = some (.lmpBadRequest frame) := if_pos bad

theorem frameIsBad_kind {k : Byte} {rest : List Byte} (names : 8 < k.toNat ∨ k = 0) :
    frameIsBad (k :: rest) = true := by
  rcases names with above | rfl
  · unfold frameIsBad
    dsimp only
    split
    case h_9 => simp [above]
    all_goals omega
  · rfl

theorem frameIsBad_read (group index : Byte) (rest : List Byte) :
    frameIsBad (2 :: group :: index :: rest) = decide (10 < group.toNat) := rfl

theorem frameIsBad_act (code index : Byte) (rest : List Byte) : frameIsBad (3 :: code :: index :: rest) =
    ((actionOf code.toNat).isNone || decide (63 < index.toNat)) := rfl

theorem frameIsBad_probe (target code index : Byte) (rest : List Byte) :
    frameIsBad (4 :: target :: code :: index :: rest) =
      ((subjectOf code.toNat).isNone || decide (63 < index.toNat)) := rfl

theorem frameIsBad_command (target code index : Byte) (rest : List Byte) :
    frameIsBad (5 :: target :: code :: index :: rest) =
      ((actionOf code.toNat).isNone || decide (63 < index.toNat)) := rfl

theorem frameIsBad_result (handle : Byte) (rest : List Byte) :
    frameIsBad (6 :: handle :: rest) = decide (3 < handle.toNat) := rfl

theorem requestOf_read (group index : Byte) (rest : List Byte) (names : group.toNat ≤ 10) :
    requestOf (2 :: group :: index :: rest) = readOf group.toNat index := by
  have good : frameIsBad (2 :: group :: index :: rest) = false := by rw [frameIsBad_read]; simpa using names
  exact (if_neg (Bool.eq_false_iff.mp good)).trans rfl

theorem requestOf_act (code index : Byte) (rest : List Byte) (low : index.toNat ≤ 63) {a : Action}
    (names : actionOf code.toNat = some a) : requestOf (3 :: code :: index :: rest) = some (actOf a index) := by
  have good : frameIsBad (3 :: code :: index :: rest) = false := by rw [frameIsBad_act, names]; simpa using low
  have codes : requestOf (3 :: code :: index :: rest) = (actionOf code.toNat).map (fun a => actOf a index) :=
    (if_neg (Bool.eq_false_iff.mp good)).trans rfl
  rw [codes, names]
  rfl

/-- Settles O21: the bad frames by their kinds, the good ones by their codes. -/
theorem requestFramesCodeTheirCommands : Obligations.RequestFramesCodeTheirCommands := by
  refine ⟨fun frame s high bad => ?_, fun x c i rest => ⟨rfl, rfl, fun p mem => ?_, fun low p mem => ?_, fun low names => ?_,
    fun low names => ?_, fun low => ?_, fun none => ?_, fun image taken => ?_⟩, fun x c frame mem => ?_⟩
  · have isBad : frameIsBad frame = true := by
      rcases bad with ⟨k, rest, rfl, names⟩ | ⟨group, index, rest, rfl, above⟩ | ⟨code, index, rest, rfl, names⟩ |
        ⟨target, code, index, rest, rfl, names⟩ | ⟨target, code, index, rest, rfl, names⟩ | ⟨handle, rest, rfl, above⟩
      · exact frameIsBad_kind names
      · rw [frameIsBad_read]; exact decide_eq_true above
      · rw [frameIsBad_act]; simpa using names
      · rw [frameIsBad_probe]; simpa using names
      · rw [frameIsBad_command]; simpa using names
      · rw [frameIsBad_result]; exact decide_eq_true above
    exact ⟨requestOf_bad isBad, _, underReset_high _ high, by rw [if_pos isBad]; exact badRequest_onlyResponds s⟩
  · simp only [List.mem_cons, List.not_mem_nil, or_false] at mem
    rcases mem with rfl | rfl | rfl | rfl | rfl | rfl | rfl | rfl | rfl | rfl | rfl <;>
      exact requestOf_read _ i rest (of_decide_eq_true rfl)
  · simp only [List.mem_cons, List.not_mem_nil, or_false] at mem
    rcases mem with rfl | rfl | rfl | rfl | rfl | rfl | rfl
    · exact requestOf_act 8 i rest low rfl
    · exact requestOf_act 9 i rest low rfl
    · exact requestOf_act 10 i rest low rfl
    · exact requestOf_act 11 i rest low rfl
    · exact requestOf_act 12 i rest low rfl
    · exact requestOf_act 13 i rest low rfl
    · exact requestOf_act 14 i rest low rfl
  · have good : frameIsBad (4 :: x :: c :: i :: rest) = false := by
      obtain ⟨subject, is⟩ := Option.isSome_iff_exists.mp (subjectOf_isSome names.1 names.2)
      rw [frameIsBad_probe, is]
      simpa using low
    exact (if_neg (Bool.eq_false_iff.mp good)).trans rfl
  · have good : frameIsBad (5 :: x :: c :: i :: rest) = false := by
      obtain ⟨a, is⟩ := Option.isSome_iff_exists.mp (actionOf_isSome names.1 names.2)
      rw [frameIsBad_command, is]
      simpa using low
    exact (if_neg (Bool.eq_false_iff.mp good)).trans rfl
  · have good : frameIsBad (6 :: i :: rest) = false := by rw [frameIsBad_result]; simpa using low
    exact (if_neg (Bool.eq_false_iff.mp good)).trans rfl
  · show (takenImage rest).map _ = _
    rw [none]
    rfl
  · show (takenImage rest).map _ = _
    rw [taken]
    rfl
  · simp only [List.mem_cons, List.not_mem_nil, or_false] at mem
    rcases mem with rfl | rfl | rfl | rfl | rfl | rfl | rfl | rfl | rfl | rfl | rfl | rfl <;> rfl

end Sys2Proof.Proofs
end

section
/-! Marker reports: what each sync state makes of the edges of its report (R5, R18, R20, R22, R28 to R30). -/

namespace Sys2Proof.Proofs

open Sys2Proof.Machine

/-! ### The report made -/

theorem exec_markerReport {line : OnLine LineTicks} {s : State} (high : s.resetLow = false)
    (runs : s.sync.state.timerRuns = true) (noJump : s.sync.jump = none) :
    exec (.markerReport line) s = .next (reportMade (reportLeads line s) s) := by
  refine (underReset_high _ high).trans ?_
  rw [reportEvent, reportDue, runs, noJump]
  rfl

/-- A row named for what a report brings about is that report on its occasion (log entry 1). -/
theorem exec_reportRow {line : OnLine LineTicks} {s : State} {c : Instr} {due : State → Bool}
    (is : exec c s = underReset (whenDue due (reportEvent line)) s) (now : due s = true) (high : s.resetLow = false)
    (runs : s.sync.state.timerRuns = true) (noJump : s.sync.jump = none) :
    exec c s = .next (reportMade (reportLeads line s) s) := by
  rw [← exec_markerReport high runs noJump, is, underReset_high _ high, whenDue_of _ now]
  exact (underReset_high _ high).symm

theorem timerRuns_of_drives {st : SyncState} (drives : st.drives = true) : st.timerRuns = true := by
  cases st with
  | founding | locked | leaving => rfl
  | configLoad | configWait | configFault | listen | acquire | learn | mute => cases drives

/-! ### LISTEN -/

theorem qualifying_first {b : Int} {y : Sync} (none : y.qualLead = none) : qualifying b y = 1 := by
  rw [qualifying, none]

theorem qualifying_apart {b p : Int} {y : Sync} (last : y.qualLead = some p) (apart : b - p < -8 ∨ 8 < b - p) :
    qualifying b y = 1 := by
  rw [qualifying, last]
  exact if_neg (by omega)

theorem qualifying_close {b p : Int} {y : Sync} (last : y.qualLead = some p) (low : -8 ≤ b - p) (high : b - p ≤ 8) :
    qualifying b y = y.qualEdges + 1 := by
  rw [qualifying, last]
  exact if_pos ⟨low, high⟩

theorem frameStarted_line (sh : List (List Bool)) (s : State) :
    (frameStarted sh s).line = (driveMarker (frameSync s)).line := by
  unfold frameStarted
  dsimp only
  split <;> simp

theorem frameSync_line (s : State) : (frameSync s).line = s.line.endFrame s.sync := by
  unfold frameSync
  split <;> simp [endFrame]

/-- The frame that ends was as long as the jump or the advance made it (R16, R20). -/
theorem frameStarted_frameTicks (sh : List (List Bool)) (s : State) :
    (frameStarted sh s).line.frameTicks = frameLength s.sync := by
  rw [frameStarted_line]
  show (Line.begin 0 _ (frameSync s).line).frameTicks = _
  rw [frameSync_line]
  rfl

theorem exec_frameStart {sh : List (List Bool)} {s : State} (high : s.resetLow = false)
    (runs : s.sync.state.timerRuns = true) : exec (.frameStart sh) s = .next (frameStarted sh s) :=
  (underReset_high _ high).trans (congrArg _ (if_pos runs))

/-- Settles O33: the record after each edge, and the jump at the third. -/
theorem listenReportsQualifyAndJump : Obligations.ListenReportsQualifyAndJump := by
  intro line s high listen noJump
  have ran : exec (.markerReport line) s =
      .next ((atTick 1023 s).modSync (Sync.listenReport (reportLeads line s))) := by
    rw [exec_markerReport high (by rw [listen]; rfl) noJump, reportMade, listen]
  refine ⟨fun none => by rw [ran, none]; rfl, fun b later leads => ?_⟩
  rw [leads] at ran
  have few {n : Nat} (qualifies : qualifying b (atTick 1023 s).sync = n) (below : n < 3) :
      exec (.markerReport line) s =
        .next { s with sync := { s.sync with tick := 1023, qualEdges := n, qualLead := some b } } := by
    rw [ran]
    unfold State.modSync Sync.listenReport
    dsimp only
    rw [qualifies, if_neg (by omega)]
    rfl
  refine ⟨fun first => few (qualifying_first first) (by omega), fun p last => ⟨fun apart => ?_, fun low high' one => ?_,
    fun low high' two ahead => ?_⟩⟩
  · exact few (qualifying_apart last apart) (by omega)
  · exact few ((qualifying_close last low high').trans (congrArg (· + 1) one)) (by omega)
  · have third : qualifying b (atTick 1023 s).sync = 3 := (qualifying_close last low high').trans (congrArg (· + 1) two)
    have jumped : Sync.listenReport (b :: later) (atTick 1023 s).sync = (atTick 1023 s).sync.alignmentJump b := by
      unfold Sync.listenReport
      dsimp only
      rw [third]
      exact if_pos (Nat.le_refl 3)
    have behind : -1023 ≤ b := by
      have kept : b ∈ reportLeads line s := by rw [leads]; exact List.mem_cons_self
      have bounds := (List.mem_filter.mp kept).2
      simp only [Bool.and_eq_true, decide_eq_true_eq] at bounds
      exact bounds.1
    refine ⟨_, ran, ?_⟩
    rw [State.modSync, jumped]
    refine ⟨rfl, ?_, rfl, rfl, rfl, rfl, rfl, rfl, fun again => underReset_high _ high, fun shifted => ⟨_,
      exec_frameStart high rfl, ?_⟩⟩
    · show (((1023 + b).toNat : Nat) : Int) = 1023 + b
      omega
    · rw [frameStarted_frameTicks]
      show (((2048 - b).toNat : Nat) : Int) = 2048 - b
      omega

/-! ### ACQUIRE, LEARN and MUTE -/

/-- The tracking edge is the first within 48 ticks (R22). -/
theorem trackingEdge_eq_some {front later : List Int} {b : Int} (outside : ∀ a ∈ front, a < -48 ∨ 48 < a) (low : -48 ≤ b)
    (high : b ≤ 48) : trackingEdge (front ++ b :: later) = some b := by
  have none : front.find? (fun b => decide (-48 ≤ b) && decide (b ≤ 48)) = none := by
    rw [List.find?_eq_none]
    intro a mem
    have := outside a mem
    simp only [Bool.and_eq_true, decide_eq_true_eq]
    omega
  rw [trackingEdge, List.find?_append, none, Option.none_or, List.find?_cons_of_pos]
  simp [low, high]

theorem trackingEdge_eq_none {leads : List Int} (outside : ∀ a ∈ leads, a < -48 ∨ 48 < a) :
    trackingEdge leads = none := by
  rw [trackingEdge, List.find?_eq_none]
  intro a mem
  have := outside a mem
  simp only [Bool.and_eq_true, decide_eq_true_eq]
  omega

theorem limitLead_eq (b : Int) : limitLead b = if b < -2 then -2 else if 2 < b then 2 else b := by
  unfold limitLead
  split
  · omega
  · split <;> omega

/-- A report without a tracking edge: the advance is 0, and the miss is counted below 3 (R22). -/
theorem slewReport_miss {leads : List Int} {s : State} (none : trackingEdge leads = none) :
    slewReport leads s = if s.sync.edgeMiss + 1 < 3
      then { s with sync := { s.sync with advance := 0, edgeMiss := s.sync.edgeMiss + 1 } }
      else edgeMissLimit { s with sync := { s.sync with advance := 0, edgeMiss := s.sync.edgeMiss + 1 } } := by
  rw [slewReport, none]
  show (if 3 ≤ s.sync.edgeMiss + 1 then _ else _) = _
  by_cases few : s.sync.edgeMiss + 1 < 3
  · rw [if_pos few, if_neg (by omega)]
    rfl
  · rw [if_neg few, if_pos (by omega)]
    rfl

theorem tornDown_of_sync {s t : State} (y : Sync) (torn : TornDown { s with sync := y } t) : TornDown s t := torn

/-- Settles O34: the tracking edge or the miss, and what the third miss does in each state. -/
theorem slewReportFollowsTheTrackingEdge : Obligations.SlewReportFollowsTheTrackingEdge := by
  intro line leads s high noJump isLeads state
  have runs : s.sync.state.timerRuns = true := by rcases state with st | st | st <;> (rw [st]; rfl)
  have slews (ls : List Int) : reportMade ls s = slewReport ls (atTick 1023 s) := by
    unfold reportMade
    rcases state with st | st | st <;> simp only [st]
  have ran : exec (.markerReport line) s = .next (slewReport leads (atTick 1023 s)) := by
    rw [exec_markerReport high runs noJump, isLeads, slews]
  refine ⟨fun front later b is outside low within => ?_, fun outside => ⟨fun few => ?_, fun third => ?_⟩⟩
  · rw [ran, slewReport, is, trackingEdge_eq_some outside low within, ← limitLead_eq]
    rfl
  · rw [ran, slewReport_miss (trackingEdge_eq_none outside), if_pos (show (atTick 1023 s).sync.edgeMiss + 1 < 3 from Nat.succ_lt_succ few)]
    rfl
  · have now : missesThird line s = true := by
      have many : 3 ≤ s.sync.edgeMiss + 1 := by omega
      unfold missesThird reportDue
      rw [isLeads, trackingEdge_eq_none outside, runs, noJump]
      rcases state with st | st | st <;> simp [st, many]
    have limit : exec (.edgeMissLimit line) s = .next (edgeMissLimit { s with sync :=
        { s.sync with tick := 1023, advance := 0, edgeMiss := s.sync.edgeMiss + 1 } }) := by
      rw [exec_reportRow (c := .edgeMissLimit line) rfl now high runs noJump, slews, isLeads,
        slewReport_miss (trackingEdge_eq_none outside), if_neg (show ¬(atTick 1023 s).sync.edgeMiss + 1 < 3 by show ¬s.sync.edgeMiss + 1 < 3; omega)]
      rfl
    refine ⟨fun acquire => ?_, fun learn => ?_, fun mute => ?_⟩
    · refine ⟨_, limit, ?_⟩
      unfold edgeMissLimit
      simp only [acquire]
      exact ⟨rfl, rfl, rfl, rfl⟩
    · refine ⟨_, limit, ?_⟩
      unfold edgeMissLimit
      simp only [learn]
      exact ⟨tornDown_of_sync _ (teardown_tornDown (notifySync_posts _) _), fun empty =>
        teardown_head (n := .sync .markersLost .listen 0 0) rfl empty⟩
    · rw [limit]
      unfold edgeMissLimit
      simp only [mute]
      rfl

/-! ### Driving -/

/-- The sync controller after a report while driving, as far as neither count reaches its limit (R18, R28 to R30). -/
theorem driveReport_tracks {leads : List Int} {s : State} (earlier : (s.sync.driveReport leads).foreignEarlier < 2)
    (missed : (s.sync.driveReport leads).edgeMiss < 4) :
    driveReport leads s = { s with sync := { s.sync.driveReport leads with counters :=
      { s.sync.counters with foreignLater := bumpBy (foreignLaterEdges leads) s.sync.counters.foreignLater } } } := by
  unfold driveReport
  exact (if_neg (Nat.not_le.mpr earlier)).trans (if_neg (Nat.not_le.mpr missed))

theorem reportMade_drives {leads : List Int} {s : State} (drives : s.sync.state.drives = true) :
    reportMade leads s = driveReport leads (atTick 1023 s) := by
  unfold reportMade
  cases st : s.sync.state with
  | founding | locked | leaving => rfl
  | configLoad | configWait | configFault | listen | acquire | learn | mute =>
    rw [st] at drives
    cases drives

/-- Settles O35: the first edge by its lead, or none. -/
theorem driveReportTracksTheFirstEdge : Obligations.DriveReportTracksTheFirstEdge := by
  intro line leads s high noJump drives isLeads
  have ran : exec (.markerReport line) s = .next (driveReport leads (atTick 1023 s)) := by
    rw [exec_markerReport high (timerRuns_of_drives drives) noJump, isLeads, reportMade_drives drives]
  have after (y : Sync) (small : y.foreignEarlier < 2 ∧ y.edgeMiss < 4)
      (is : (atTick 1023 s).sync.driveReport leads = y) : exec (.markerReport line) s =
        .next { s with sync := { y with counters := { s.sync.counters with
          foreignLater := bumpBy (foreignLaterEdges leads) s.sync.counters.foreignLater } } } := by
    rw [ran, driveReport_tracks (by rw [is]; exact small.1) (by rw [is]; exact small.2), is]
    rfl
  refine ⟨fun d later first near few => ?_, fun d later first far none => ?_, fun none few bounded => ?_⟩
  · have advance : driveAdvance (some d) = if d < 0 then 0 else if d ≤ 2 then d else 2 := by
      unfold driveAdvance
      dsimp only
      split
      · rfl
      · split
        · rfl
        · exact if_pos (by omega)
    rw [← advance]
    refine after { s.sync with
      tick := 1023, leading := decide (d = 0), edgeMiss := 0, foreignEarlier := 0, advance := driveAdvance (some d) }
      ⟨Nat.two_pos, Nat.succ_pos 3⟩ ?_
    rw [first, Sync.driveReport]
    have leading : ((d :: later).head? == some 0) = decide (d = 0) := by simp [beq_eq_decide]
    rw [leading]
    simp [leadsEarlier, near]
  · refine after { s.sync with tick := 1023, leading := false, edgeMiss := 0, foreignEarlier := 1, advance := 0 }
      ⟨Nat.one_lt_two, Nat.succ_pos 3⟩ ?_
    have still : driveAdvance (some d) = 0 := by
      unfold driveAdvance
      dsimp only
      rw [if_neg (by omega), if_neg (by omega), if_neg (by omega)]
    have leading : ((d :: later).head? == some 0) = false := by
      have : d ≠ 0 := by omega
      simpa using this
    rw [first, Sync.driveReport, leading]
    simp [leadsEarlier, far, still, none]
  · have counted : bumpBy (foreignLaterEdges leads) s.sync.counters.foreignLater = s.sync.counters.foreignLater := by
      rw [none]
      exact Nat.min_eq_left bounded
    have := after
      { s.sync with tick := 1023, leading := false, edgeMiss := s.sync.edgeMiss + 1, foreignEarlier := 0, advance := 0 }
      ⟨Nat.two_pos, Nat.succ_lt_succ few⟩ (by rw [none]; rfl)
    rwa [counted] at this

/-- Settles O36: each cause is counted, then full teardown reports it. -/
theorem yieldAndLineFaultTearDown : Obligations.YieldAndLineFaultTearDown := by
  intro line s high noJump drives
  have runs := timerRuns_of_drives drives
  refine ⟨fun d later leads far one => ?_, fun leads three => ?_⟩
  · have now : yields line s = true := by
      unfold yields reportDue
      rw [leads, runs, noJump, drives, one]
      simp [leadsEarlier, far]
    have made : driveReport (d :: later) (atTick 1023 s) = yieldNow ((countSync (fun k => { k with
        foreignLater := bumpBy (foreignLaterEdges (d :: later)) k.foreignLater }) (atTick 1023 s)).modSync
        (Sync.driveReport (d :: later))) := by
      unfold driveReport
      refine if_pos ?_
      show 2 ≤ if leadsEarlier (some d) then s.sync.foreignEarlier + 1 else 0
      simp [leadsEarlier, far, one]
    refine ⟨_, exec_reportRow (c := .yieldTrunk line) rfl now high runs noJump, ?_⟩
    rw [reportMade_drives drives, leads, made, yieldNow]
    refine ⟨tornDown_of_sync _ (teardown_tornDown (notifySync_posts _) _), ?_, fun empty =>
      teardown_head (n := .sync .yielded .listen 0 0) rfl empty⟩
    rw [(teardown_blocks (notifySync_posts _) _).1]
    rfl
  · have now : faultsLine line s = true := by
      unfold faultsLine reportDue
      rw [leads, runs, noJump, drives, three]
      rfl
    have posts (t : State) : ∃ n, notify (.fault .lineFault) t = notify n t := ⟨_, rfl⟩
    have made : driveReport [] (atTick 1023 s) = lineFaultNow ((countSync (fun k => { k with
        foreignLater := bumpBy (foreignLaterEdges []) k.foreignLater }) (atTick 1023 s)).modSync
        (Sync.driveReport [])) := by
      unfold driveReport
      refine (if_neg ?_).trans (if_pos ?_)
      · exact Nat.not_succ_le_zero 1
      · show 4 ≤ s.sync.edgeMiss + 1
        omega
    refine ⟨_, exec_reportRow (c := .lineFault line) rfl now high runs noJump, ?_⟩
    rw [reportMade_drives drives, leads, made, lineFaultNow]
    obtain ⟨sync, -, -, -, -, sources, -, ports, -⟩ := teardown_blocks posts
      (countSync (fun k => { k with lineFaults := bump k.lineFaults }) ((countSync (fun k => { k with
        foreignLater := bumpBy (foreignLaterEdges []) k.foreignLater }) (atTick 1023 s)).modSync (Sync.driveReport [])))
    refine ⟨tornDown_of_sync _ (teardown_tornDown posts _), by rw [sync]; rfl, fun empty =>
      teardown_head (n := .fault .lineFault) rfl empty, ?_⟩
    rw [faultHigh_iff, sync, sources, ports]
    have idle : ¬∃ c ∈ s.sources.map Source.atTeardown, c.state = .clashed := by
      rintro ⟨c, mem, clashed⟩
      obtain ⟨c, -, rfl⟩ := List.mem_map.mp mem
      exact absurd clashed nofun
    refine ⟨fun standing => ?_, fun lost => .inr (.inr (.inr lost))⟩
    rcases standing with st | st | clashed | lost
    · exact absurd st nofun
    · exact absurd st nofun
    · exact absurd clashed idle
    · exact lost

end Sys2Proof.Proofs
end

section
/-! What grows at a frame start: the notice queue through every operation of it, and the queue through a CLAIM. -/

namespace Sys2Proof.Proofs

open Sys2Proof.Machine

/-! ### Posting -/

theorem dropRelay_grows (h q : Nat) (s : State) : PostsOnly s (dropRelay h q s) := by
  unfold dropRelay
  repeat' split
  · exact completeRelay_grows _ _ s
  · exact .refl s
  · exact .refl s

theorem returnItem_grows (it : QItem) (s : State) : PostsOnly s (returnItem it s) := by
  cases it with
  | probe h q x subject i => exact dropRelay_grows h q s
  | command h q x a i => exact dropRelay_grows h q s
  | release n tag r stale => cases stale <;> exact .refl s
  | claim | offer | answer | leave => exact .refl s

theorem noteQueued_grows (it : QItem) (s : State) : PostsOnly s (noteQueued it s) := by
  cases it <;> exact .refl s

theorem enqueue_grows (it : QItem) (s : State) : PostsOnly s (enqueue it s) := by
  unfold enqueue
  split
  · exact noteQueued_grows it (modQueue _ s)
  split
  · split
    · exact (returnItem_grows _ (countLoss s)).trans (noteQueued_grows it (modQueue _ _))
    · exact returnItem_grows it (countLoss s)
  · exact returnItem_grows it (countLoss s)

theorem post_grows (it : QItem) (s : State) : PostsOnly s (post it s) := by
  unfold post
  split
  · split
    · split
      · exact .refl s
      · exact enqueue_grows _ s
    · exact enqueue_grows _ s
  · cases it with
    | answer => exact .refl s
    | claim | offer | release | probe | command | leave => exact returnItem_grows _ s

theorem takeNewest_satisfies {p : QItem → Bool} {q rest : List QItem} {it : QItem}
    (taken : takeNewest p q = some (it, rest)) : p it = true := by
  unfold takeNewest at taken
  obtain ⟨found, is, same⟩ := Option.map_eq_some_iff.mp taken
  cases same
  exact List.find?_some is

/-- An item of the worst class beyond a CLAIM's is an OFFER (R48). -/
theorem offer_of_class {it : QItem} (worse : 4 < itemClass it) : ∃ n, it = .offer n false := by
  match it, worse with
  | .offer n false, _ => exact ⟨n, rfl⟩

/-- Nothing that the queue does with a new CLAIM reaches the notice queue or the relays (R51, R52). -/
theorem post_claim_mgmt (n : Nat) (s : State) : (post (.claim n) s).mgmt = s.mgmt ∧ (post (.claim n) s).req = s.req := by
  unfold post
  split
  · show (enqueue (.claim n) s).mgmt = s.mgmt ∧ (enqueue (.claim n) s).req = s.req
    unfold enqueue
    split
    · exact ⟨rfl, rfl⟩
    split
    case isTrue worse =>
      split
      case h_1 old rest taken =>
        have evicted := takeNewest_satisfies taken
        simp only [evictable, Bool.and_eq_true, beq_iff_eq] at evicted
        obtain ⟨m, rfl⟩ := offer_of_class (evicted.1 ▸ worse)
        exact ⟨rfl, rfl⟩
      case h_2 => exact ⟨rfl, rfl⟩
    · exact ⟨rfl, rfl⟩
  · exact ⟨rfl, rfl⟩

theorem seek_mgmt (n : Nat) (s : State) : (seek n s).mgmt = s.mgmt ∧ (seek n s).req = s.req := post_claim_mgmt n _

theorem sourcesSeek_mgmt (s : State) : (sourcesSeek s).mgmt = s.mgmt ∧ (sourcesSeek s).req = s.req := by
  refine forEach_inv (fun t => t.mgmt = s.mgmt ∧ t.req = s.req) _ _ s ⟨rfl, rfl⟩ (fun n t same => ?_)
  split
  · exact ⟨(seek_mgmt n t).1.trans same.1, (seek_mgmt n t).2.trans same.2⟩
  · exact same

/-! ### Signals and telling -/

theorem notifySink_grows (n : Nat) (c : Sink) (e : SinkEvent) (s : State) : PostsOnly s (notifySink n c e s) :=
  notify_grows _ s

theorem evaluateSink_grows (n : Nat) (c : Sink) (e : DirEntry) (s : State) : PostsOnly s (evaluateSink n c e s) := by
  unfold evaluateSink
  split
  · split
    · exact notifySink_grows n c _ (s.modSink n _)
    · exact notifySink_grows n c _ (s.modSink n _)
  · exact .refl s

theorem signalSink_grows (n : Nat) (c : Sink) (ch : Change) (s : State) : PostsOnly s (signalSink n c ch s) := by
  have unbinds : PostsOnly s (s.modSink n Sink.unbind) := .refl s
  cases ch with
  | created e | activated e =>
    dsimp only [signalSink]
    split
    · exact evaluateSink_grows n c e s
    · exact .refl s
  | replaced e =>
    dsimp only [signalSink]
    split
    · exact unbinds.trans (evaluateSink_grows n c e _)
    · split
      · exact unbinds
      · exact unbinds.trans (notifySink_grows n c _ _)
  | removed =>
    dsimp only [signalSink]
    split
    · exact unbinds
    · exact unbinds.trans (notifySink_grows n c _ _)

theorem deliverSignals_grows (before after : List DirEntry) (s : State) :
    PostsOnly s (deliverSignals before after s) := by
  refine PostsOnly.forEach _ s (fun n t => ?_)
  repeat' split
  · exact signalSink_grows _ _ _ t
  · exact .refl t
  · exact .refl t

theorem action_grows {f : State → State} {s : State} (grows : PostsOnly s (f s)) : PostsOnly s (action f s) :=
  grows.trans (deliverSignals_grows _ _ _)

theorem notifySource_grows (n : Nat) (e : SourceEvent) (s : State) : PostsOnly s (notifySource n e s) := by
  unfold notifySource
  split
  · exact notify_grows _ s
  · exact .refl s

/-! ### The boundary -/

theorem matureOwn_grows (n : Nat) (e : DirEntry) (s : State) : PostsOnly s (matureOwn n e s) := by
  have enters (r : Run) (t : State) : PostsOnly t (enterOwned n r t) := by
    unfold enterOwned
    split
    · exact notifySource_grows n _ (t.modSource n _)
    · exact .refl t
  exact (enters e.run (installRun (.owned e.station e.tag e.priority) { e with active := true } s)).trans (post_grows _ _)

theorem maturityStep_grows (s : State) : PostsOnly s (maturityStep s) := by
  unfold maturityStep
  dsimp only
  refine (PostsOnly.foldl _ s (fun t e => ?_)).trans (PostsOnly.forEach _ _ (fun n t => ?_))
  · exact .refl t
  · repeat' split
    · exact matureOwn_grows n _ t
    · exact .refl t
    · exact .refl t

theorem leaseRun_grows (e : DirEntry) (s : State) : PostsOnly s (leaseRun e s) := by
  unfold leaseRun
  split <;> exact .refl s

theorem refreshSource_grows (n : Nat) (s : State) : PostsOnly s (refreshSource n s) := by
  unfold refreshSource
  repeat' split
  · exact .refl s
  · exact post_grows _ (s.modSource n _)
  · exact .refl s

theorem upkeepTables_grows (s : State) : PostsOnly s (upkeepTables s) := by
  unfold upkeepTables
  dsimp only
  refine PostsOnly.trans (t := clearCarrier (strayStep (List.foldl (fun t e => leaseRun e t) (maturityStep s) (heldRuns s)))) ?_
    (PostsOnly.forEach _ _ (fun n t => ?_))
  · exact (maturityStep_grows s).trans (PostsOnly.foldl _ _ (fun t e => leaseRun_grows e t))
  · split
    · exact refreshSource_grows n t
    · exact .refl t

theorem upkeep_grows (s : State) : PostsOnly s (upkeep s) := by
  unfold upkeep
  split
  · exact action_grows (upkeepTables_grows s)
  · exact .refl s

theorem seek_grows (n : Nat) (s : State) : PostsOnly s (seek n s) := post_grows _ (s.modSource n _)

theorem postRelease_grows (n : Nat) (s : State) : PostsOnly s (postRelease n s) := by
  unfold postRelease
  repeat' split
  · exact post_grows _ s
  · exact .refl s
  · exact .refl s

theorem sourceBoundary_grows (n : Nat) (s : State) : PostsOnly s (sourceBoundary n s) := by
  unfold sourceBoundary
  repeat' split
  · exact .refl s
  · exact seek_grows n s
  · exact .refl s
  · exact seek_grows n s
  · exact .refl s
  · exact post_grows _ s
  · exact .refl s
  · exact postRelease_grows n s
  · exact .refl s
  · exact .refl s
  · exact .refl s

theorem sourcesBoundary_grows (s : State) : PostsOnly s (sourcesBoundary s) :=
  PostsOnly.forEach _ s (fun n t => sourceBoundary_grows n t)

theorem relayDeadlines_grows (s : State) : PostsOnly s (relayDeadlines s) := by
  refine PostsOnly.forEach 4 s (fun h t => ?_)
  repeat' split
  · exact completeRelay_grows h _ (countReq _ t)
  · exact .refl t
  · exact .refl t

theorem enterLockedNow_grows (s : State) : PostsOnly s (enterLockedNow s) := by
  have posted : PostsOnly s (notifySync .locked (s.modSync (fun y => { y with state := .locked }))) :=
    notify_grows _ (s.modSync _)
  refine posted.trans (PostsOnly.forEach _ _ (fun n t => ?_))
  split
  · exact seek_grows n t
  · exact .refl t

theorem syncAtBoundary_grows (s : State) : PostsOnly s (syncAtBoundary s) := by
  unfold syncAtBoundary
  repeat' split
  · exact .refl s
  · exact enterLockedNow_grows s
  · exact .refl s

theorem boundary_grows (s : State) : PostsOnly s (boundary s) := by
  unfold boundary
  dsimp only
  refine PostsOnly.trans ?_ (relayDeadlines_grows _)
  have upkept : PostsOnly s (upkeep (syncAtBoundary s)) := (syncAtBoundary_grows s).trans (upkeep_grows _)
  split
  · exact upkept
  · exact upkept.trans (sourcesBoundary_grows _)

/-! ### Ports -/

theorem playSink_mgmt (p : Nat) (b : Bool) (n : Nat) (s : State) : (playSink p b n s).mgmt = s.mgmt := by
  unfold playSink
  repeat' split
  all_goals rfl

theorem fillLanes_mgmt (p : Nat) (b : Bool) (s : State) : (fillLanes p b s).mgmt = s.mgmt :=
  forEach_inv (fun t => t.mgmt = s.mgmt) _ _ _ rfl (fun n t same => (playSink_mgmt p b n t).trans same)

theorem portFrame_mgmt (p : Nat) (b w : Bool) (l : List Sample) (s : State) : (portFrame p b w l s).mgmt = s.mgmt := by
  unfold portFrame
  repeat' split
  · rfl
  · rfl
  · exact fillLanes_mgmt p b s
  · rfl

theorem followFrame_mgmt (short : Bool) (p : Nat) (l : List Bool) (s : State) :
    (followFrame short p l s).mgmt = s.mgmt := by
  unfold followFrame
  repeat' split
  · exact portFrame_mgmt p false _ _ (countShort p s)
  · exact portFrame_mgmt p false _ _ s
  · rfl

theorem watchClock_grows (p : Nat) (s : State) : PostsOnly s (watchClock p s) := by
  unfold watchClock
  repeat' split
  · exact .refl s
  · exact notify_grows _ (s.modPort p _)
  · exact .refl s
  · exact .refl s

theorem portAtFrameStart_grows (short : Bool) (sh : List (List Bool)) (p : Nat) (s : State) :
    PostsOnly s (portAtFrameStart short sh p s) := by
  unfold portAtFrameStart
  split
  · exact .of_same (followFrame_mgmt ..) (by simp)
  · exact watchClock_grows p s
  · exact .refl s

theorem portsAtFrameStart_grows (short : Bool) (sh : List (List Bool)) (s : State) :
    PostsOnly s (portsAtFrameStart short sh s) :=
  PostsOnly.forEach 4 s (fun p t => portAtFrameStart_grows short sh p t)

/-! ### The frame start in its two parts -/

/-- What every frame start does ahead of a boundary: the sync controller, the marker, the ports (R1, R2, R4, R157). -/
def frameBegun (sh : List (List Bool)) (s : State) : State :=
  portsAtFrameStart (followCutShort s.sync.jump) sh (driveMarker (frameSync s))

theorem frameStarted_away {sh : List (List Bool)} {s : State} (away : crossesBoundary s = false) :
    frameStarted sh s = frameBegun sh s := if_neg (Bool.eq_false_iff.mp away)

theorem frameStarted_boundary {sh : List (List Bool)} {s : State} (crosses : crossesBoundary s = true) :
    frameStarted sh s = boundary (frameBegun sh s) := if_pos crosses

theorem frameBegun_frame (sh : List (List Bool)) (s : State) :
    (frameBegun sh s).sync = (frameSync s).sync ∧ (frameBegun sh s).alloc = s.alloc ∧
    (frameBegun sh s).tx = (frameSync s).tx ∧ (frameBegun sh s).req = (frameSync s).req ∧
    (frameBegun sh s).line = (driveMarker (frameSync s)).line ∧ (frameBegun sh s).loader = s.loader ∧
    (frameBegun sh s).peers = s.peers := by
  simp [frameBegun]

theorem frameBegun_grows (sh : List (List Bool)) (s : State) : PostsOnly (frameSync s) (frameBegun sh s) :=
  (PostsOnly.refl (frameSync s)).trans (portsAtFrameStart_grows _ sh (driveMarker (frameSync s)))

theorem frameStarted_grows (sh : List (List Bool)) (s : State) : PostsOnly (frameSync s) (frameStarted sh s) := by
  cases crosses : crossesBoundary s with
  | false =>
    rw [frameStarted_away crosses]
    exact frameBegun_grows sh s
  | true =>
    rw [frameStarted_boundary crosses]
    exact (frameBegun_grows sh s).trans (boundary_grows _)

end Sys2Proof.Proofs
end

section
/-! Frame starts: the step of the position, the limits of LISTEN and ACQUIRE, the two ways into LOCKED (chapter 2). -/

namespace Sys2Proof.Proofs

open Sys2Proof.Machine

/-! ### Sources in loops -/

/-- A loop that changes the item of each number by its own round, as long as what `P` says stands, changes every item
below its bound once. -/
theorem forEach_at {α : Type} (get : State → Nat → Option α) (P : State → Prop) {f : Nat → State → State}
    {G : Nat → α → α} (keeps : ∀ n s, P s → P (f n s))
    (round : ∀ n s m, P s → get (f n s) m = if m = n then (get s n).map (G n) else get s m) (k : Nat) (s : State)
    (start : P s) (m : Nat) : get (forEach k f s) m = if m < k then (get s m).map (G m) else get s m := by
  induction k with
  | zero => simp
  | succ k ih =>
    rw [forEach_succ, round _ _ _ (forEach_inv P k f s start keeps)]
    by_cases last : m = k
    · subst last
      simpa using congrArg (Option.map (G m)) ih
    · rw [if_neg last, ih]
      have step : m < k + 1 ↔ m < k := by omega
      simp [step]

/-- A source but for the item that its field says is queued (R114). -/
def unqueued (c : Source) : Source := { c with queuedItem := .nothing }

/-- Source `n` but for its queued item. -/
def sourceAt (s : State) (n : Nat) : Option Source := (s.sources[n]?).map unqueued

/-- An operation that changes no source but the queued item fields. -/
def OnlyRequeues (s t : State) : Prop := ∀ n, sourceAt t n = sourceAt s n

namespace OnlyRequeues

theorem refl (s : State) : OnlyRequeues s s := fun _ => rfl

theorem trans {s t u : State} (h : OnlyRequeues s t) (k : OnlyRequeues t u) : OnlyRequeues s u :=
  fun n => (k n).trans (h n)

theorem of_same {s t : State} (same : t.sources = s.sources) : OnlyRequeues s t := fun n => by
  unfold sourceAt
  rw [same]

end OnlyRequeues

theorem modSource_sourceAt {n m : Nat} {f : Source → Source} {s : State} {G : Source → Source}
    (is : ∀ c, unqueued (f c) = G (unqueued c)) :
    sourceAt (s.modSource n f) m = if m = n then (sourceAt s n).map G else sourceAt s m := by
  unfold sourceAt
  show ((s.sources.modify n f)[m]?).map unqueued = _
  by_cases same : m = n
  · subst same
    rw [if_pos rfl]
    cases here : s.sources[m]? with
    | none => rw [modify_of_none f here, here]; rfl
    | some c => rw [modify_getElem?_self f here]; exact congrArg some (is c)
  · rw [if_neg same, modify_getElem?_ne f (Ne.symm same)]

theorem setQueued_requeues (n : Nat) (q : QueuedItem) (s : State) : OnlyRequeues s (setQueued n q s) := fun m => by
  unfold setQueued
  rw [modSource_sourceAt (f := fun c => { c with queuedItem := q }) (G := id) (fun c => rfl), Option.map_id]
  split
  · simp_all
  · rfl

theorem returnItem_requeues (it : QItem) (s : State) : OnlyRequeues s (returnItem it s) := by
  cases it with
  | claim n => exact setQueued_requeues n _ s
  | release n tag r stale =>
    cases stale with
    | false => exact setQueued_requeues n _ s
    | true => exact .refl s
  | probe h q x subject i => exact .of_same (by simp [returnItem])
  | command h q x a i => exact .of_same (by simp [returnItem])
  | offer | answer | leave => exact .refl s

theorem noteQueued_requeues (it : QItem) (s : State) : OnlyRequeues s (noteQueued it s) := by
  cases it with
  | claim n => exact setQueued_requeues n _ s
  | release n tag r stale => exact setQueued_requeues n _ s
  | offer | probe | command | answer | leave => exact .refl s

theorem enqueue_requeues (it : QItem) (s : State) : OnlyRequeues s (enqueue it s) := by
  unfold enqueue
  split
  · exact noteQueued_requeues it (modQueue _ s)
  split
  · split
    · exact (returnItem_requeues _ (countLoss s)).trans (noteQueued_requeues it (modQueue _ _))
    · exact returnItem_requeues it (countLoss s)
  · exact returnItem_requeues it (countLoss s)

/-- Posting changes no source but the queued item fields (R49 to R52). -/
theorem post_requeues (it : QItem) (s : State) : OnlyRequeues s (post it s) := by
  unfold post
  split
  · split
    · split
      · exact .refl s
      · exact enqueue_requeues _ s
    · exact enqueue_requeues _ s
  · cases it with
    | answer => exact .refl s
    | claim | offer | release | probe | command | leave => exact returnItem_requeues _ s

theorem sourceAt_some {s : State} {n : Nat} {c : Source} (here : s.sources[n]? = some c) :
    sourceAt s n = some (unqueued c) := by
  rw [sourceAt, here]
  rfl

theorem of_sourceAt {t : State} {n : Nat} {c : Source} (at' : sourceAt t n = some (unqueued c)) :
    ∃ q, t.sources[n]? = some { c with queuedItem := q } := by
  obtain ⟨d, here, same⟩ := Option.map_eq_some_iff.mp at'
  refine ⟨d.queuedItem, here.trans (congrArg some ?_)⟩
  have fields := (Source.mk.injEq ..).mp same
  obtain ⟨cfg, state, run, -, rest⟩ := fields
  cases c; cases d
  simp_all

/-! ### Sources through the ports at a frame start -/

/-- What the ports do to the sources at a frame start: a FOLLOW port gives its frame to a CLAIMING or OWNED source of its,
and nothing else of a source changes (R128, R129, R157, R159). -/
structure OnlyFollows (s t : State) : Prop where
  clocking : ∀ p, t.clocking p = s.clocking p
  sources : ∀ (n : Nat) (c : Source), s.sources[n]? = some c → ∃ q, t.sources[n]? = some { c with queue := q } ∧
    (q = c.queue ∨ ((c.state = .claiming ∨ c.state = .owned) ∧ s.clocking c.cfg.port = some .follow))

namespace OnlyFollows

theorem refl (s : State) : OnlyFollows s s := ⟨fun _ => rfl, fun _ c here => ⟨c.queue, here, .inl rfl⟩⟩

theorem of_same {s t : State} (clocking : ∀ p, t.clocking p = s.clocking p) (sources : t.sources = s.sources) :
    OnlyFollows s t := ⟨clocking, fun n c here => ⟨c.queue, by rw [sources]; exact here, .inl rfl⟩⟩

theorem trans {s t u : State} (h : OnlyFollows s t) (k : OnlyFollows t u) : OnlyFollows s u := by
  refine ⟨fun p => (k.clocking p).trans (h.clocking p), fun n c here => ?_⟩
  obtain ⟨q, mid, first⟩ := h.sources n c here
  obtain ⟨q', last, second⟩ := k.sources n _ mid
  refine ⟨q', last, ?_⟩
  rcases second with rfl | follows
  · exact first
  · exact .inr ⟨follows.1, (h.clocking _).symm.trans follows.2⟩

theorem forEach {f : Nat → State → State} (n : Nat) (s : State) (round : ∀ i t, OnlyFollows t (f i t)) :
    OnlyFollows s (Machine.forEach n f s) :=
  forEach_inv (OnlyFollows s) n f s (refl s) (fun i t h => h.trans (round i t))

end OnlyFollows

theorem modPort_clocking {p : Nat} {f : Port → Port} (keeps : ∀ q, (f q).cfg = q.cfg) (s : State) (r : Nat) :
    (s.modPort p f).clocking r = s.clocking r := by
  show ((s.ports.modify p f)[r]?).bind _ = _
  by_cases same : p = r
  · subst same
    unfold State.clocking
    cases here : s.ports[p]? with
    | none => rw [modify_of_none f here, here]
    | some q => rw [modify_getElem?_self f here]; exact congrArg (Option.map PortConfig.clocking) (keeps q)
  · rw [modify_getElem?_ne f same]
    rfl

theorem modPort_onlyFollows {p : Nat} {f : Port → Port} (keeps : ∀ q, (f q).cfg = q.cfg) (s : State) :
    OnlyFollows s (s.modPort p f) := .of_same (modPort_clocking keeps s) rfl

theorem fillLanes_onlyFollows (p : Nat) (b : Bool) (s : State) : OnlyFollows s (fillLanes p b s) := by
  refine (modPort_onlyFollows (by exact fun _ => rfl) s).trans (OnlyFollows.forEach _ _ (fun n t => ?_))
  unfold playSink
  split
  · split
    · dsimp only
      refine OnlyFollows.trans ?_ (modPort_onlyFollows (by exact fun _ => rfl) _)
      exact .of_same (fun _ => rfl) rfl
    · exact .refl t
  · exact .refl t

theorem push_follow (frame : List Sample) (c : Source) : ∃ q, c.push false frame = { c with queue := q } ∧
    (q = c.queue ∨ c.state = .claiming ∨ c.state = .owned) := by
  unfold Source.push
  split
  case isTrue takes => exact ⟨[frame], rfl, .inr takes⟩
  case isFalse => exact ⟨c.queue, rfl, .inl rfl⟩

theorem deliverLanes_onlyFollows {p : Nat} {lanes : List Sample} {s : State} (follow : s.clocking p = some .follow) :
    OnlyFollows s (deliverLanes p false lanes s) := by
  refine ⟨fun _ => rfl, fun n c here => ?_⟩
  have delivered : (deliverLanes p false lanes s).sources[n]? =
      some (if c.cfg.port = p then c.push false (laneFrame c lanes) else c) := by
    show (s.sources.map _)[n]? = _
    rw [List.getElem?_map, here]
    rfl
  rw [delivered]
  split
  case isTrue own =>
    obtain ⟨q, pushed, why⟩ := push_follow (laneFrame c lanes) c
    exact ⟨q, by rw [pushed], why.imp_right fun takes => ⟨takes, own ▸ follow⟩⟩
  case isFalse => exact ⟨c.queue, rfl, .inl rfl⟩

theorem portAtFrameStart_onlyFollows (short : Bool) (sh : List (List Bool)) (p : Nat) (s : State) :
    OnlyFollows s (portAtFrameStart short sh p s) := by
  unfold portAtFrameStart
  split
  case h_1 follow =>
    unfold followFrame
    split
    case h_1 q _ =>
      have counted : OnlyFollows s (if q.primed && short then countShort p s else s) := by
        split
        · exact modPort_onlyFollows (by exact fun _ => rfl) s
        · exact .refl s
      have moved (w : Bool) (lanes : List Sample) (t : State) (still : OnlyFollows s t) :
          OnlyFollows s (portFrame p false w lanes t) := by
        unfold portFrame
        split
        · split
          · exact still.trans (deliverLanes_onlyFollows ((still.clocking p).trans follow))
          · exact still
        · exact still.trans (fillLanes_onlyFollows p false t)
        · exact still
      exact (moved _ _ _ counted).trans (modPort_onlyFollows (by exact fun _ => rfl) _)
    · exact .refl s
  · unfold watchClock
    repeat' split
    · exact modPort_onlyFollows (by exact fun _ => rfl) s
    · exact (modPort_onlyFollows (by exact fun _ => rfl) s).trans (.of_same (fun _ => rfl) rfl)
    · exact .refl s
    · exact .refl s
  · exact .refl s

theorem portsAtFrameStart_onlyFollows (short : Bool) (sh : List (List Bool)) (s : State) :
    OnlyFollows s (portsAtFrameStart short sh s) :=
  OnlyFollows.forEach 4 s (fun p t => portAtFrameStart_onlyFollows short sh p t)

/-! ### The sync controller at a frame start -/

/-- The sync controller with the frame ended and the position stepped (R2, R16). -/
def stepped (y : Sync) : Sync :=
  { y with
    tick := 0, advance := 0, jump := none
    frameIndex := if y.frameIndex = 31 then 0 else y.frameIndex + 1
    superframe := if y.frameIndex = 31 then y.superframe + 1 else y.superframe }

/-- The station with the frame ended and the position stepped. -/
def frameStepped (s : State) : State := (endFrame s).modSync Sync.stepIndex

theorem frameStepped_sync (s : State) : (frameStepped s).sync = stepped s.sync := stepIndex_eq _

theorem founds_eq_false {s : State}
    (not : ¬(s.sync.state = .listen ∧ listenLimit s ≤ s.sync.listenCount + 1 ∧ s.mayFound = true)) : founds s = false := by
  refine Bool.eq_false_iff.mpr fun founds => not ?_
  simpa [Machine.founds, listenExpires, and_assoc] using founds

theorem frameSync_step {s : State} (not : founds s = false) : frameSync s = syncAtFrameStart (frameStepped s) :=
  if_neg (Bool.eq_false_iff.mp not)

theorem founds_eq_false_of_state {s : State} (other : s.sync.state ≠ .listen) : founds s = false :=
  founds_eq_false (fun all => other all.1)

theorem lockFromLearn_sync (s : State) : (lockFromLearn s).sync = { s.sync with
    state := .locked, freshPending := true, edgeMiss := 0, foreignEarlier := 0, mismatch := 0 } := enterLockedNow_sync _

/-- What a frame start does to the position, whatever else it does (R2, R16). -/
theorem syncAtFrameStart_position (s : State) (still : s.sync.advance = 0) :
    (syncAtFrameStart s).sync.tick = s.sync.tick ∧ (syncAtFrameStart s).sync.advance = 0 ∧
    (syncAtFrameStart s).sync.jump = s.sync.jump ∧ (syncAtFrameStart s).sync.frameIndex = s.sync.frameIndex ∧
    (syncAtFrameStart s).sync.superframe = s.sync.superframe := by
  unfold syncAtFrameStart
  repeat' split
  · exact ⟨rfl, still, rfl, rfl, rfl⟩
  · exact ⟨rfl, still, rfl, rfl, rfl⟩
  · exact ⟨rfl, rfl, rfl, rfl, rfl⟩
  · rw [lockFromLearn_sync]; exact ⟨rfl, still, rfl, rfl, rfl⟩
  · exact ⟨rfl, still, rfl, rfl, rfl⟩
  · exact ⟨rfl, still, rfl, rfl, rfl⟩

/-- Away from LEARN a frame start's sync part touches the sync controller alone (R21, R23). -/
theorem syncAtFrameStart_tables {s : State} (other : s.sync.state ≠ .learn) :
    (syncAtFrameStart s).tx = s.tx ∧ (syncAtFrameStart s).req = s.req ∧ (syncAtFrameStart s).sources = s.sources ∧
    (syncAtFrameStart s).mgmt = s.mgmt := by
  unfold syncAtFrameStart
  split
  · exact ⟨rfl, rfl, rfl, rfl⟩
  · split <;> exact ⟨rfl, rfl, rfl, rfl⟩
  · exact absurd ‹_› other
  · exact ⟨rfl, rfl, rfl, rfl⟩

theorem syncAtBoundary_sync (s : State) : (syncAtBoundary s).sync = { s.sync with
    state := if s.sync.state = .founding then .locked else s.sync.state
    learnCount := if s.sync.state = .learn then min (s.sync.learnCount + 1) 8 else s.sync.learnCount } := by
  unfold syncAtBoundary
  split
  case h_1 learn => simp [learn]
  case h_2 founding => simp [enterLockedNow_sync, founding]
  case h_3 other other' => rw [if_neg other', if_neg other]

theorem boundary_sync (s : State) : (boundary s).sync = (syncAtBoundary s).sync := by
  unfold boundary
  dsimp only
  split <;> simp

theorem drives_at_boundary (st : SyncState) : (if st = .founding then SyncState.locked else st).drives = st.drives := by
  cases st <;> rfl

/-- The sync controller after a frame start: as its own part leaves it, and at a boundary as that leaves it (R2). -/
theorem frameStarted_sync (sh : List (List Bool)) (s : State) : (frameStarted sh s).sync =
    if crossesBoundary s then { (frameSync s).sync with
      state := if (frameSync s).sync.state = .founding then .locked else (frameSync s).sync.state
      learnCount := if (frameSync s).sync.state = .learn then min ((frameSync s).sync.learnCount + 1) 8
        else (frameSync s).sync.learnCount }
    else (frameSync s).sync := by
  have begun := (frameBegun_frame sh s).1
  cases crosses : crossesBoundary s with
  | false => rw [frameStarted_away crosses, begun]; rfl
  | true => rw [frameStarted_boundary crosses, boundary_sync, syncAtBoundary_sync, begun]; rfl

theorem crossesBoundary_eq_false {s : State} (inside : s.sync.frameIndex ≠ 31) : crossesBoundary s = false := by
  simp [crossesBoundary, inside]

theorem crossesBoundary_eq_true {s : State} (runs : s.sync.state.timerRuns = true) (last : s.sync.frameIndex = 31)
    (not : founds s = false) : crossesBoundary s = true := by
  simp [crossesBoundary, runs, last, not]

end Sys2Proof.Proofs
end

section
/-! The obligations on frame starts away from the allocator: the step, the limits, the two ways into LOCKED, the relay
deadlines. -/

namespace Sys2Proof.Proofs

open Sys2Proof.Machine

/-! ### The step -/

theorem driveMarker_line (s : State) : (driveMarker s).line =
    s.line.begin 0 (if s.sync.state.drives then .marker else .nothing) := rfl

/-- What the line interface records at a frame start (R1, R4, R5). -/
theorem frameStarted_line_eq (sh : List (List Bool)) (s : State) : (frameStarted sh s).line =
    (s.line.endFrame s.sync).begin 0 (if (frameSync s).sync.state.drives then .marker else .nothing) := by
  rw [frameStarted_line, driveMarker_line, frameSync_line]

theorem begin_marker_driven (drives : Bool) (l : Line) : (l.begin 0 (if drives then .marker else .nothing)).driven =
    l.driven ++ (if drives then [⟨0, List.replicate 32 true⟩] else []) := by
  cases drives with
  | true => rfl
  | false => exact (List.append_nil _).symm

theorem frameStarted_drives (sh : List (List Bool)) (s : State) :
    (frameStarted sh s).sync.state.drives = (frameSync s).sync.state.drives := by
  rw [frameStarted_sync]
  split
  · exact drives_at_boundary _
  · rfl

/-- The position after a frame start that is no entry to FOUNDING (R2, R16). -/
theorem frameSync_position {s : State} (not : founds s = false) :
    (frameSync s).sync.tick = 0 ∧ (frameSync s).sync.advance = 0 ∧ (frameSync s).sync.jump = none ∧
    (frameSync s).sync.frameIndex = (if s.sync.frameIndex = 31 then 0 else s.sync.frameIndex + 1) ∧
    (frameSync s).sync.superframe = (if s.sync.frameIndex = 31 then s.sync.superframe + 1 else s.sync.superframe) := by
  have at' := syncAtFrameStart_position (frameStepped s) (by rw [frameStepped_sync]; rfl)
  rw [frameStepped_sync] at at'
  rw [frameSync_step not]
  exact at'

theorem frameStarted_position {sh : List (List Bool)} {s : State} (not : founds s = false) :
    (frameStarted sh s).sync.tick = 0 ∧ (frameStarted sh s).sync.advance = 0 ∧ (frameStarted sh s).sync.jump = none ∧
    (frameStarted sh s).sync.frameIndex = (if s.sync.frameIndex = 31 then 0 else s.sync.frameIndex + 1) ∧
    (frameStarted sh s).sync.superframe =
      (if s.sync.frameIndex = 31 then s.sync.superframe + 1 else s.sync.superframe) := by
  rw [frameStarted_sync]
  split <;> exact frameSync_position not

theorem lockFromLearn_posts (s : State) : PostsOnly s (lockFromLearn s) :=
  (PostsOnly.refl s).trans (enterLockedNow_grows (s.modSync _))

theorem frameSync_posts {s : State} : PostsOnly s (frameSync s) := by
  unfold frameSync
  split
  · refine PostsOnly.trans ?_ (notify_grows _ _)
    exact .refl s
  · unfold syncAtFrameStart
    repeat' split
    · exact .refl s
    · exact .refl s
    · exact .refl s
    · exact (PostsOnly.refl s).trans (lockFromLearn_posts (frameStepped s))
    · exact .refl s
    · exact .refl s

/-- A frame start away from a boundary and from LEARN leaves the tables (R2). -/
theorem frameStarted_tables {sh : List (List Bool)} {s : State} (inside : s.sync.frameIndex ≠ 31)
    (other : s.sync.state ≠ .learn) (not : founds s = false) :
    (frameStarted sh s).alloc = s.alloc ∧ (frameStarted sh s).req = s.req ∧ (frameStarted sh s).tx = s.tx := by
  obtain ⟨-, alloc, tx, req, -⟩ := frameBegun_frame sh s
  obtain ⟨sameTx, sameReq, -⟩ := syncAtFrameStart_tables (s := frameStepped s) (by rw [frameStepped_sync]; exact other)
  rw [frameStarted_away (crossesBoundary_eq_false inside), alloc, tx, req, frameSync_step not, sameTx, sameReq]
  exact ⟨rfl, rfl, rfl⟩

/-- Settles O22: the position by the step, the line by its end and the marker, and the frame lengths by the ranges that
O59 keeps. -/
theorem frameStartStepsTheFrame : Obligations.FrameStartStepsTheFrame := by
  intro sh s high
  refine ⟨fun stopped => ?_, fun runs notFounding => ?_, fun runs ok noJump => ?_⟩
  · refine (underReset_high _ high).trans (congrArg _ (if_neg ?_))
    simp [stopped]
  · have not := founds_eq_false notFounding
    obtain ⟨tick, advance, jump, index, superframe⟩ := frameStarted_position (sh := sh) not
    obtain ⟨-, -, -, rx, peers⟩ := frameStarted_frame sh s
    obtain ⟨-, -, loader, -⟩ := frameStarted_frame sh s
    obtain ⟨-, lmp, built⟩ := frameSync_posts.trans (frameStarted_grows sh s)
    refine ⟨frameStarted sh s, frameLength s.sync, exec_frameStart high runs, tick, advance, jump, index, superframe, ?_⟩
    rw [frameStarted_drives, frameStarted_line_eq]
    refine ⟨rfl, fun none => ?_, fun length is => ?_, rfl, rfl, begin_marker_driven _ _, fun none => ?_, fun some => ?_, rfl,
      rx, peers, loader, lmp, built, fun inside other => frameStarted_tables inside other not⟩
    · rw [frameLength, none]
    · rw [frameLength, is]
    · show (if s.sync.jump.isSome then _ else _) = _
      rw [none]
      rfl
    · show (if s.sync.jump.isSome then _ else _) = _
      rw [if_pos (Option.isSome_iff_ne_none.mpr some)]
  · obtain ⟨-, low, most, listens, forward, -⟩ := ok
    have length : frameLength s.sync = (2048 - s.sync.advance).toNat := by rw [frameLength, noJump]
    refine ⟨_, exec_frameStart high runs, ?_⟩
    rw [frameStarted_frameTicks, length]
    refine ⟨by omega, by omega, fun drives => ?_, fun listen => ?_⟩
    · have := forward drives
      omega
    · have := listens listen
      omega

/-! ### LISTEN and ACQUIRE -/

/-- A row named for what a frame start brings about is that frame start on its occasion (log entry 1). -/
theorem exec_frameRow {sh : List (List Bool)} {s : State} {c : Instr} {due : State → Bool}
    (is : exec c s = underReset (whenDue due (frameStartEvent sh)) s) (now : due s = true) (high : s.resetLow = false)
    (runs : s.sync.state.timerRuns = true) : exec c s = .next (frameStarted sh s) := by
  rw [is, underReset_high _ high, whenDue_of _ now]
  exact congrArg _ (if_pos runs)

theorem frameSync_founds {s : State} (due : founds s = true) :
    frameSync s = enterFounding ((endFrame s).modSync (fun y => { y with listenCount := listenLimit s })) := if_pos due

theorem crossesBoundary_of_founds {s : State} (due : founds s = true) : crossesBoundary s = false := by
  simp [crossesBoundary, due]

theorem crossesBoundary_false_of_state {s : State} (away : s.sync.frameIndex ≠ 31 ∨ founds s = true) :
    crossesBoundary s = false := by
  rcases away with inside | due
  · exact crossesBoundary_eq_false inside
  · exact crossesBoundary_of_founds due

/-- A frame start whose sync part ends neither in FOUNDING nor in LEARN leaves the sync controller so, boundary or not. -/
theorem frameStarted_sync_of {sh : List (List Bool)} {s : State} (noTrial : (frameSync s).sync.state ≠ .founding)
    (noLearn : (frameSync s).sync.state ≠ .learn) : (frameStarted sh s).sync = (frameSync s).sync := by
  rw [frameStarted_sync, if_neg noTrial, if_neg noLearn]
  split <;> rfl

theorem frameSync_listen {s : State} (listen : s.sync.state = .listen) (not : founds s = false) : (frameSync s).sync =
    { stepped s.sync with
      listenCount := if listenLimit s ≤ s.sync.listenCount + 1 then 0 else s.sync.listenCount + 1 } := by
  have state : (frameStepped s).sync.state = .listen := by rw [frameStepped_sync]; exact listen
  rw [frameSync_step not]
  unfold syncAtFrameStart
  rw [state]
  show ({ (frameStepped s).sync with listenCount := _ } : Sync) = _
  rw [frameStepped_sync]
  rfl

theorem frameSync_acquire {s : State} (acquire : s.sync.state = .acquire) : (frameSync s).sync =
    if s.sync.acquireCount + 1 < 64 then { stepped s.sync with acquireCount := s.sync.acquireCount + 1 }
    else { stepped s.sync with acquireCount := 64 }.toListen := by
  have state : (frameStepped s).sync.state = .acquire := by rw [frameStepped_sync]; exact acquire
  have count : (frameStepped s).sync.acquireCount = s.sync.acquireCount := by rw [frameStepped_sync]; rfl
  rw [frameSync_step (founds_eq_false_of_state (by rw [acquire]; nofun))]
  unfold syncAtFrameStart
  rw [state]
  dsimp only
  rw [count]
  split
  · show ({ (frameStepped s).sync with acquireCount := _ } : Sync) = _
    rw [frameStepped_sync]
    rfl
  · show ({ (frameStepped s).sync with acquireCount := 64 } : Sync).toListen = _
    rw [frameStepped_sync]

/-- Settles O23: the counts of LISTEN and ACQUIRE below and at their limits. -/
theorem listenAndAcquireCountTheirFrames : Obligations.ListenAndAcquireCountTheirFrames := by
  intro sh s high
  refine ⟨fun listen below => ?_, fun listen limit may => ?_, fun listen limit mayNot => ?_, fun acquire last => ?_,
    fun acquire below => ?_⟩
  · have not : founds s = false := founds_eq_false (fun all => absurd all.2.1 (by omega))
    have sync := frameSync_listen listen not
    rw [if_neg (by omega)] at sync
    have stays : (frameSync s).sync.state = .listen := by rw [sync]; exact listen
    refine ⟨_, exec_frameStart high (by rw [listen]; rfl), ?_⟩
    rw [frameStarted_sync_of (by rw [stays]; nofun) (by rw [stays]; nofun), sync]
    exact ⟨listen, rfl, rfl, rfl⟩
  · have expires : listenExpires s = true := by simp [listenExpires, listen, limit]
    have due : founds s = true := by simp [founds, expires, may]
    have inside := crossesBoundary_of_founds due
    obtain ⟨sync, alloc, tx, req, line, -, peers⟩ := frameBegun_frame sh s
    refine ⟨_, exec_frameRow (c := .listenLimitExpiry sh) rfl expires high (by rw [listen]; rfl), ?_⟩
    have grows := frameStarted_grows sh s
    rw [frameStarted_away inside] at grows ⊢
    rw [frameSync_founds due] at sync tx req line grows
    rw [show (frameBegun sh s).lockHigh = _ from by unfold State.lockHigh; rw [sync], sync, line, alloc, peers, tx, req]
    refine ⟨rfl, rfl, rfl, rfl, rfl, rfl, rfl, rfl, rfl, rfl, rfl, fun empty => ?_, rfl, rfl, rfl, rfl⟩
    exact grows.head (notify_head (n := .sync .founded .founding 0 0) empty)
  · have expires : listenExpires s = true := by simp [listenExpires, listen, limit]
    have not : founds s = false := founds_eq_false (fun all => absurd all.2.2 (by rw [mayNot]; nofun))
    have sync := frameSync_listen listen not
    rw [if_pos limit] at sync
    have stays : (frameSync s).sync.state = .listen := by rw [sync]; exact listen
    refine ⟨_, exec_frameRow (c := .listenLimitExpiry sh) rfl expires high (by rw [listen]; rfl), ?_⟩
    rw [frameStarted_sync_of (by rw [stays]; nofun) (by rw [stays]; nofun), frameStarted_line_eq, stays, sync]
    exact ⟨rfl, rfl⟩
  · have ends : acquireEnds s = true := by simp [acquireEnds, acquire, last]
    have sync := frameSync_acquire acquire
    rw [if_neg (by omega)] at sync
    have listens : (frameSync s).sync.state = .listen := by rw [sync]; rfl
    refine ⟨_, exec_frameRow (c := .acquireTimeout sh) rfl ends high (by rw [acquire]; rfl), ?_⟩
    rw [frameStarted_sync_of (by rw [listens]; nofun) (by rw [listens]; nofun), sync]
    exact ⟨rfl, rfl, rfl, rfl, rfl, rfl, rfl⟩
  · have sync := frameSync_acquire acquire
    rw [if_pos (by omega)] at sync
    have stays : (frameSync s).sync.state = .acquire := by rw [sync]; exact acquire
    refine ⟨_, exec_frameStart high (by rw [acquire]; rfl), ?_⟩
    rw [frameStarted_sync_of (by rw [stays]; nofun) (by rw [stays]; nofun), sync]
    exact ⟨acquire, rfl⟩

/-! ### LOCKED -/

/-- What an IDLE source becomes at entry to LOCKED (R115). -/
def soughtFrom (c : Source) : Source := if c.state = .idle then { c with state := .seeking, backoff := 0 } else c

/-- SEEKING changes one source but for the queued items (R116). -/
theorem seek_sourceAt (n : Nat) (s : State) (m : Nat) : sourceAt (seek n s) m =
    if m = n then (sourceAt s n).map (fun c => { c with state := .seeking, backoff := 0 }) else sourceAt s m := by
  unfold seek postClaim
  rw [post_requeues, modSource_sourceAt (G := fun c => { c with state := .seeking, backoff := 0 }) (fun c => rfl)]

theorem sourceAt_beyond {s : State} {n : Nat} (beyond : s.sources.length ≤ n) : sourceAt s n = none := by
  rw [sourceAt, List.getElem?_eq_none beyond]
  rfl

/-- Every IDLE source becomes SEEKING (R115, R116). -/
theorem sourcesSeek_sourceAt (s : State) (m : Nat) : sourceAt (sourcesSeek s) m = (sourceAt s m).map soughtFrom := by
  unfold sourcesSeek
  rw [forEach_at sourceAt (fun _ => True) (G := fun _ => soughtFrom) (fun _ _ => id) ?_ _ s trivial]
  · split
    · rfl
    case isFalse beyond => rw [sourceAt_beyond (Nat.not_lt.mp beyond)]; rfl
  · intro n s m _
    cases here : s.sources[n]? with
    | none =>
      have idle : s.sourceIs n .idle = false := by rw [State.sourceIs, here]
      have none : sourceAt s n = none := by rw [sourceAt, here]; rfl
      rw [idle, if_neg Bool.false_ne_true]
      split
      case isTrue same => rw [same, none]; rfl
      case isFalse => rfl
    | some c =>
      have is : sourceAt s n = some (unqueued c) := sourceAt_some here
      rw [sourceIs_of here]
      by_cases idle : c.state = .idle
      · rw [if_pos (by simpa using idle), seek_sourceAt, is]
        split
        · exact congrArg some (if_pos idle).symm
        · rfl
      · rw [if_neg (by simpa using idle)]
        split
        case isTrue same => rw [same, is]; exact congrArg some (if_neg idle).symm
        case isFalse => rfl

/-- The state of every source once every IDLE one seeks. -/
theorem sourcesSeek_seeking {s : State} {n : Nat} {c : Source} (here : s.sources[n]? = some c) (idle : c.state = .idle) :
    ∃ d, (sourcesSeek s).sources[n]? = some d ∧ d.state = .seeking := by
  have sought := sourcesSeek_sourceAt s n
  rw [sourceAt_some here] at sought
  obtain ⟨d, at', same⟩ := Option.map_eq_some_iff.mp sought
  have state : (unqueued d).state = (soughtFrom (unqueued c)).state := congrArg Source.state same
  refine ⟨d, at', state.trans ?_⟩
  show (if c.state = .idle then _ else _ : Source).state = _
  rw [if_pos idle]

theorem enterLockedNow_seeking {s : State} {n : Nat} {c : Source} (here : s.sources[n]? = some c)
    (idle : c.state = .idle) : ∃ d, (enterLockedNow s).sources[n]? = some d ∧ d.state = .seeking :=
  sourcesSeek_seeking (s := notifySync .locked (s.modSync (fun y => { y with state := .locked }))) here idle

theorem lockFromLearn_seeking {s : State} {n : Nat} {c : Source} (here : s.sources[n]? = some c)
    (idle : c.state = .idle) : ∃ d, (lockFromLearn s).sources[n]? = some d ∧ d.state = .seeking :=
  enterLockedNow_seeking (s := s.modSync (fun y =>
    { y with freshPending := true, edgeMiss := 0, foreignEarlier := 0, mismatch := 0 })) here idle

/-- Ports keep the state of every source. -/
theorem OnlyFollows.state {s t : State} (h : OnlyFollows s t) {n : Nat} {c : Source} (here : s.sources[n]? = some c) :
    ∃ d, t.sources[n]? = some d ∧ d.state = c.state := by
  obtain ⟨q, at', -⟩ := h.sources n c here
  exact ⟨_, at', rfl⟩

theorem frameBegun_onlyFollows (sh : List (List Bool)) (s : State) : OnlyFollows (frameSync s) (frameBegun sh s) := by
  refine OnlyFollows.trans ?_ (portsAtFrameStart_onlyFollows _ sh (driveMarker (frameSync s)))
  exact .of_same (fun _ => rfl) rfl

theorem frameStepped_source {s : State} {n : Nat} {c : Source} (here : s.sources[n]? = some c) :
    (frameStepped s).sources[n]? = some { c with collidedNow := false } := by
  show (s.sources.map _)[n]? = _
  rw [List.getElem?_map, here]
  rfl

/-! ### The upkeep where no own run matures -/

/-- Every entry of this station stands ACTIVE. -/
def OwnActive (s : State) : Prop := ∀ e ∈ s.alloc.dir, e.station = s.id → e.active = true

theorem maturePeers_ownActive {s : State} (l : List DirEntry) (own : OwnActive s) :
    OwnActive (l.foldl (fun t e => maturePeer e t) s) ∧ (l.foldl (fun t e => maturePeer e t) s).sources = s.sources ∧
    (l.foldl (fun t e => maturePeer e t) s).tx = s.tx ∧ (l.foldl (fun t e => maturePeer e t) s).loader = s.loader := by
  refine foldl_inv (fun t => OwnActive t ∧ t.sources = s.sources ∧ t.tx = s.tx ∧ t.loader = s.loader) _ _ s
    ⟨own, rfl, rfl, rfl⟩ (fun t e ⟨stands, rest⟩ => ⟨fun d mem mine => ?_, rest⟩)
  rcases List.mem_append.mp (show d ∈ withoutTag e.tag t.alloc.dir ++ [{ e with active := true }] from mem) with old | new
  · exact stands d (List.mem_filter.mp old).1 mine
  · rw [List.mem_singleton.mp new]

/-- With every own entry ACTIVE only peers' runs mature (R93, R94). -/
theorem maturityStep_of_ownActive {s : State} (own : OwnActive s) : maturityStep s =
    (s.alloc.dir.filter (fun e => e.station != s.id && maturesAt s.sync.superframe s e)).foldl
      (fun t e => maturePeer e t) s := by
  have active := (maturePeers_ownActive
    (s.alloc.dir.filter (fun e => e.station != s.id && maturesAt s.sync.superframe s e)) own).1
  unfold maturityStep
  dsimp only
  refine forEach_inv (fun t => t = _) _ _ _ rfl (fun n t same => ?_)
  subst same
  split
  case h_1 e found =>
    refine if_neg (fun due => ?_)
    obtain ⟨c, -, tagged⟩ := Option.bind_eq_some_iff.mp found
    have standing := active e (findTag_mem tagged).1 due.1
    have pending := active_of_maturesAt due.2
    simp_all
  case h_2 => rfl

/-! ### The refresh counts -/

/-- The refresh count of an OWNED source after a boundary (R97). -/
def refreshed (c : Source) : Source :=
  if c.state = .owned then { c with refresh := if c.refresh + 1 < 8 then c.refresh + 1 else 0 } else c

theorem refreshSource_sourceAt {n : Nat} {c : Source} {s : State} (here : s.sources[n]? = some c) (m : Nat) :
    sourceAt (refreshSource n s) m = if m = n
      then (sourceAt s n).map (fun c => { c with refresh := if c.refresh + 1 < 8 then c.refresh + 1 else 0 })
      else sourceAt s m := by
  have counted (k : Nat) : sourceAt (s.modSource n (fun c => { c with refresh := k })) m =
      if m = n then some (unqueued { c with refresh := k }) else sourceAt s m := by
    rw [modSource_sourceAt (G := fun c => { c with refresh := k }) (fun c => rfl), sourceAt_some here]
    rfl
  have counts : s.modSource n (fun c => { c with refresh := c.refresh + 1 }) =
      s.modSource n (fun d => { d with refresh := c.refresh + 1 }) := by
    unfold State.modSource State.modSources
    dsimp only
    rw [modify_of_getElem? _ here, modify_of_getElem? _ here]
  unfold refreshSource
  rw [here, sourceAt_some here]
  dsimp only
  split
  case isTrue few =>
    rw [counts, counted]
    exact congrArg (ite _ · _) (congrArg some (by simp [unqueued, few]))
  case isFalse many =>
    rw [post_requeues, counted]
    exact congrArg (ite _ · _) (congrArg some (by simp [unqueued, many]))

theorem leaseRuns_frame (l : List DirEntry) (s : State) :
    (l.foldl (fun t e => leaseRun e t) s).sources = s.sources ∧ (l.foldl (fun t e => leaseRun e t) s).tx = s.tx ∧
    (l.foldl (fun t e => leaseRun e t) s).sync = s.sync ∧ (l.foldl (fun t e => leaseRun e t) s).loader = s.loader :=
  foldl_inv (fun t => t.sources = s.sources ∧ t.tx = s.tx ∧ t.sync = s.sync ∧ t.loader = s.loader) _ _ s
    ⟨rfl, rfl, rfl, rfl⟩ (fun t e ⟨a, b, c, d⟩ => by simp [a, b, c, d])

/-- The upkeep up to its last step, the refresh counts (R92). -/
def upkeptSlots (s : State) : State :=
  clearCarrier (strayStep ((heldRuns s).foldl (fun t e => leaseRun e t) (maturityStep s)))

theorem upkeptSlots_frame {s : State} (own : OwnActive s) : (upkeptSlots s).sources = s.sources ∧
    (upkeptSlots s).tx = s.tx ∧ (upkeptSlots s).sync = s.sync := by
  obtain ⟨-, sources, tx, -⟩ := maturePeers_ownActive
    (s.alloc.dir.filter (fun e => e.station != s.id && maturesAt s.sync.superframe s e)) own
  obtain ⟨sources', tx', sync', -⟩ := leaseRuns_frame (heldRuns s) (maturityStep s)
  have sync : (maturityStep s).sync = s.sync := by simp
  refine ⟨?_, ?_, ?_⟩
  · show (List.foldl (fun t e => leaseRun e t) (maturityStep s) (heldRuns s)).sources = _
    rw [sources', maturityStep_of_ownActive own, sources]
  · show (List.foldl (fun t e => leaseRun e t) (maturityStep s) (heldRuns s)).tx = _
    rw [tx', maturityStep_of_ownActive own, tx]
  · show (List.foldl (fun t e => leaseRun e t) (maturityStep s) (heldRuns s)).sync = _
    rw [sync', sync]

/-- The refresh counts of the upkeep, of the sources OWNED before it and still (R97). -/
def refreshRound (s : State) (n : Nat) (t : State) : State :=
  if s.sourceIs n .owned && t.sourceIs n .owned then refreshSource n t else t

theorem upkeepTables_eq (s : State) : upkeepTables s = forEach s.sources.length (refreshRound s) (upkeptSlots s) := rfl

theorem sourceIs_sourceAt (s : State) (n : Nat) (st : SourceState) :
    s.sourceIs n st = ((sourceAt s n).map (fun c => c.state == st)).getD false := by
  unfold State.sourceIs sourceAt
  cases s.sources[n]? <;> rfl

/-- What the upkeep does to the sources where no own run matures: the refresh counts, and queued items (R97). -/
theorem upkeepTables_sourceAt {s : State} (own : OwnActive s) (m : Nat) :
    sourceAt (upkeepTables s) m = (sourceAt s m).map refreshed := by
  have start (n : Nat) : sourceAt (upkeptSlots s) n = sourceAt s n :=
    OnlyRequeues.of_same (upkeptSlots_frame own).1 n
  rw [upkeepTables_eq, forEach_at sourceAt (fun _ => True)
    (G := fun n c => if s.sourceIs n .owned then refreshed c else c) (fun _ _ => id) ?_ _ _ trivial, start]
  · split
    case isTrue inRange =>
      cases here : s.sources[m]? with
      | none => rw [sourceAt, here]; rfl
      | some c =>
        rw [sourceAt_some here, sourceIs_of here]
        refine congrArg some ?_
        by_cases owned : c.state = .owned
        · exact if_pos (by simpa using owned)
        · exact (if_neg (by simpa using owned)).trans (if_neg owned).symm
    case isFalse beyond => rw [sourceAt_beyond (Nat.not_lt.mp beyond)]; rfl
  · intro n t m _
    unfold refreshRound
    cases here : t.sources[n]? with
    | none =>
      have none : sourceAt t n = none := by rw [sourceAt, here]; rfl
      rw [if_neg (by simp [State.sourceIs, here])]
      split
      case isTrue same => rw [same, none]; rfl
      case isFalse => rfl
    | some c =>
      rw [sourceIs_of here, sourceAt_some here]
      by_cases owned : s.sourceIs n .owned = true ∧ c.state = .owned
      · rw [if_pos (by simpa using owned), refreshSource_sourceAt here, sourceAt_some here]
        refine congrArg (ite _ · _) (congrArg some ?_)
        exact ((if_pos owned.1).trans (if_pos owned.2)).symm
      · rw [if_neg (by simpa using owned)]
        split
        case isTrue same =>
          rw [same, sourceAt_some here]
          refine congrArg some ?_
          by_cases was : s.sourceIs n .owned = true
          · exact ((if_pos was).trans (if_neg (fun is => owned ⟨was, is⟩))).symm
          · exact (if_neg was).symm
        case isFalse => rfl

theorem upkeep_sourceAt {s : State} (own : OwnActive s) (takes : s.sync.state.takesCells = true) (m : Nat) :
    sourceAt (upkeep s) m = (sourceAt s m).map refreshed := by
  rw [← upkeepTables_sourceAt own, upkeep, if_pos takes]
  exact OnlyRequeues.of_same (by simp [action]) m

/-! ### The obligations on LOCKED -/

theorem ownActive_of_same {s t : State} (own : OwnActive s) (alloc : t.alloc = s.alloc) (loader : t.loader = s.loader) :
    OwnActive t := by
  unfold OwnActive State.id
  rw [alloc, loader]
  exact own

/-- Settles O24: the learn count at its 8th boundary, the frame start after it, and the first boundary of the trial. -/
theorem learnAndFoundingEndInLocked : Obligations.LearnAndFoundingEndInLocked := by
  intro sh s high
  refine ⟨fun learn seven last => ?_, fun learn eight inside => ?_, fun founding last foreign => ?_⟩
  · have not : founds s = false := founds_eq_false_of_state (by rw [learn]; nofun)
    have crosses : crossesBoundary s = true := crossesBoundary_eq_true (by rw [learn]; rfl) last not
    have due : learnCompletes s = true := by simp [learnCompletes, learn, crosses, seven]
    have still : frameSync s = frameStepped s := by
      have state : (frameStepped s).sync.state = .learn := by rw [frameStepped_sync]; exact learn
      have count : (frameStepped s).sync.learnCount = 7 := by rw [frameStepped_sync]; exact seven
      rw [frameSync_step not]
      unfold syncAtFrameStart
      rw [state, count]
      rfl
    refine ⟨_, exec_frameRow (c := .learnPeriodComplete sh) rfl due high (by rw [learn]; rfl), ?_⟩
    rw [frameStarted_sync, frameStarted_line_eq, if_pos crosses, still, frameStepped_sync]
    simp [stepped, learn, seven, last, Line.begin, SyncState.drives]
  · have due : locksNow s = true := by simp [locksNow, learn, eight]
    have index : s.sync.frameIndex ≠ 31 := by omega
    have not : founds s = false := founds_eq_false_of_state (by rw [learn]; nofun)
    have locks : frameSync s = lockFromLearn (frameStepped s) := by
      have state : (frameStepped s).sync.state = .learn := by rw [frameStepped_sync]; exact learn
      have count : (frameStepped s).sync.learnCount = 8 := by rw [frameStepped_sync]; exact eight
      rw [frameSync_step not]
      unfold syncAtFrameStart
      rw [state]
      exact if_pos (by omega)
    have sync : (frameStarted sh s).sync = { stepped s.sync with
        state := .locked, freshPending := true, edgeMiss := 0, foreignEarlier := 0, mismatch := 0 } := by
      have is : (frameSync s).sync = { stepped s.sync with
          state := .locked, freshPending := true, edgeMiss := 0, foreignEarlier := 0, mismatch := 0 } := by
        rw [locks, lockFromLearn_sync, frameStepped_sync]
      rw [frameStarted_sync_of (by rw [is]; nofun) (by rw [is]; nofun), is]
    have step : (stepped s.sync).frameIndex = s.sync.frameIndex + 1 := if_neg index
    have kept : (stepped s.sync).superframe = s.sync.superframe := if_neg index
    refine ⟨_, exec_frameRow (c := .enterLocked sh) rfl due high (by rw [learn]; rfl), ?_⟩
    have grows := frameStarted_grows sh s
    rw [show (frameStarted sh s).lockHigh = _ from by unfold State.lockHigh; rw [sync], sync, frameStarted_line_eq, locks,
      lockFromLearn_sync]
    refine ⟨rfl, rfl, rfl, rfl, rfl, rfl, step, rfl, fun n c here idle => ?_, fun empty => grows.head ?_⟩
    · obtain ⟨d, at', seeking⟩ := lockFromLearn_seeking (frameStepped_source here) idle
      obtain ⟨e, stands, same⟩ := (frameBegun_onlyFollows sh s).state (n := n) (c := d) (by rw [locks]; exact at')
      rw [frameStarted_away (crossesBoundary_eq_false index)]
      exact ⟨e, stands, same.trans seeking⟩
    · rw [locks]
      show (sourcesSeek _).mgmt.notices.head? = _
      rw [(sourcesSeek_mgmt _).1]
      refine (notify_head empty).trans ?_
      show some (Notice.sync .locked .locked (frameStepped s).sync.frameIndex (frameStepped s).sync.superframe) = _
      rw [frameStepped_sync, step, kept]
  · have not : founds s = false := founds_eq_false_of_state (by rw [founding]; nofun)
    have crosses : crossesBoundary s = true := crossesBoundary_eq_true (by rw [founding]; rfl) last not
    have due : trialEnds s = true := by simp [trialEnds, founding, crosses]
    have still : frameSync s = frameStepped s := by
      have state : (frameStepped s).sync.state = .founding := by rw [frameStepped_sync]; exact founding
      rw [frameSync_step not]
      unfold syncAtFrameStart
      rw [state]
    have sync : (frameStarted sh s).sync = { stepped s.sync with state := .locked } := by
      rw [frameStarted_sync, if_pos crosses, still, frameStepped_sync,
        if_pos (show (stepped s.sync).state = .founding from founding),
        if_neg (show (stepped s.sync).state ≠ .learn from by show s.sync.state ≠ _; rw [founding]; nofun)]
    refine ⟨_, exec_frameRow (c := .foundingTrialEnd sh) rfl due high (by rw [founding]; rfl), ?_⟩
    rw [show (frameStarted sh s).lockHigh = _ from by unfold State.lockHigh; rw [sync], sync, frameStarted_line_eq, still,
      frameStepped_sync, show (stepped s.sync).state = .founding from founding]
    refine ⟨rfl, rfl, rfl, if_pos last, if_pos last, rfl, fun n c here idle => ?_⟩
    obtain ⟨begunSync, alloc, -, -, -, loader, -⟩ := frameBegun_frame sh s
    rw [still, frameStepped_sync] at begunSync
    have trial : (frameBegun sh s).sync.state = .founding := by rw [begunSync]; exact founding
    obtain ⟨d, at', state⟩ := (frameBegun_onlyFollows sh s).state (n := n) (by rw [still]; exact frameStepped_source here)
    obtain ⟨e, sought, seeking⟩ := enterLockedNow_seeking at' (state.trans idle)
    have locked : syncAtBoundary (frameBegun sh s) = enterLockedNow (frameBegun sh s) := by
      unfold syncAtBoundary
      rw [trial]
    have own : OwnActive (enterLockedNow (frameBegun sh s)) := by
      refine ownActive_of_same (s := s) (fun e mem mine => absurd mine (foreign e mem)) ?_ ?_
      · simp [alloc]
      · simp [loader]
    have upkept : sourceAt (boundary (frameBegun sh s)) n = some (unqueued e) := by
      have ran : sourceAt (boundary (frameBegun sh s)) n = sourceAt (upkeep (enterLockedNow (frameBegun sh s))) n := by
        unfold boundary
        dsimp only
        rw [if_pos trial, locked]
        exact OnlyRequeues.of_same (by simp) n
      rw [ran, upkeep_sourceAt own (by rw [enterLockedNow_sync]; rfl)]
      have before : sourceAt (enterLockedNow (frameBegun sh s)) n = some (unqueued e) := sourceAt_some sought
      rw [before]
      exact congrArg some (if_neg (show e.state ≠ .owned from by rw [seeking]; nofun))
    obtain ⟨q, stands⟩ := of_sourceAt upkept
    rw [frameStarted_boundary crosses]
    exact ⟨_, stands, seeking⟩

end Sys2Proof.Proofs
end

section
/-! Relays at a boundary: what the upkeep and the sources leave of the relay table, and the deadlines (R173, R175). -/

namespace Sys2Proof.Proofs

open Sys2Proof.Machine

/-! ### Entries whose item has left the queue -/

/-- An operation that leaves every relay entry that is QUEUED no more: only a queued item's loss completes a QUEUED one
(R52, R175). -/
def KeepsSettled (s t : State) : Prop := ∀ h r, s.relay h = some r → r.phase ≠ .queued → t.relay h = some r

namespace KeepsSettled

theorem refl (s : State) : KeepsSettled s s := fun _ _ here _ => here

theorem trans {s t u : State} (h : KeepsSettled s t) (k : KeepsSettled t u) : KeepsSettled s u :=
  fun g r here settled => k g r (h g r here settled) settled

theorem of_same {s t : State} (same : t.req.table = s.req.table) : KeepsSettled s t := fun h r here _ => by
  unfold State.relay
  rw [same]
  exact here

theorem foldl {α : Type} {f : State → α → State} (l : List α) (s : State) (round : ∀ t x, KeepsSettled t (f t x)) :
    KeepsSettled s (l.foldl f s) :=
  foldl_inv (KeepsSettled s) f l s (refl s) (fun t x h => h.trans (round t x))

theorem forEach {f : Nat → State → State} (n : Nat) (s : State) (round : ∀ i t, KeepsSettled t (f i t)) :
    KeepsSettled s (Machine.forEach n f s) := foldl _ s (fun t i => round i t)

end KeepsSettled

theorem dropRelay_settled (h q : Nat) (s : State) : KeepsSettled s (dropRelay h q s) := by
  intro g r here settled
  unfold dropRelay
  split
  case h_1 r' at' =>
    split
    case isTrue own =>
      rw [completeRelay_relay]
      split
      case isTrue same =>
        subst same
        rw [at', Option.some.injEq] at here
        exact absurd (here ▸ own.2) settled
      case isFalse => exact here
    case isFalse => exact here
  case h_2 => exact here

theorem returnItem_settled (it : QItem) (s : State) : KeepsSettled s (returnItem it s) := by
  cases it with
  | probe h q x subject i => exact dropRelay_settled h q s
  | command h q x a i => exact dropRelay_settled h q s
  | release n tag r stale => cases stale <;> exact .refl s
  | claim | offer | answer | leave => exact .refl s

theorem noteQueued_settled (it : QItem) (s : State) : KeepsSettled s (noteQueued it s) := by
  cases it <;> exact .refl s

theorem enqueue_settled (it : QItem) (s : State) : KeepsSettled s (enqueue it s) := by
  unfold enqueue
  split
  · exact noteQueued_settled it (modQueue _ s)
  split
  · split
    · exact (returnItem_settled _ (countLoss s)).trans (noteQueued_settled it (modQueue _ _))
    · exact returnItem_settled it (countLoss s)
  · exact returnItem_settled it (countLoss s)

theorem post_settled (it : QItem) (s : State) : KeepsSettled s (post it s) := by
  unfold post
  split
  · split
    · split
      · exact .refl s
      · exact enqueue_settled _ s
    · exact enqueue_settled _ s
  · cases it with
    | answer => exact .of_same rfl
    | claim | offer | release | probe | command | leave => exact returnItem_settled _ s

/-! ### The boundary up to its deadlines -/

theorem matureOwn_settled (n : Nat) (e : DirEntry) (s : State) : KeepsSettled s (matureOwn n e s) := by
  refine KeepsSettled.trans ?_ (post_settled _ _)
  exact .of_same (by simp)

theorem maturityStep_settled (s : State) : KeepsSettled s (maturityStep s) := by
  unfold maturityStep
  dsimp only
  refine (KeepsSettled.foldl _ s (fun t e => ?_)).trans (KeepsSettled.forEach _ _ (fun n t => ?_))
  · exact .refl t
  · repeat' split
    · exact matureOwn_settled n _ t
    · exact .refl t
    · exact .refl t

theorem upkeepTables_settled (s : State) : KeepsSettled s (upkeepTables s) := by
  rw [upkeepTables_eq]
  refine KeepsSettled.trans (t := upkeptSlots s) ?_ (KeepsSettled.forEach _ _ (fun n t => ?_))
  · refine (maturityStep_settled s).trans (KeepsSettled.foldl (f := fun t e => leaseRun e t) _ _ (fun t e => .of_same ?_))
    simp
  · unfold refreshRound refreshSource
    repeat' split
    · exact .refl t
    · exact (KeepsSettled.refl t).trans (post_settled _ (t.modSource n _))
    · exact .refl t
    · exact .refl t

theorem upkeep_settled (s : State) : KeepsSettled s (upkeep s) := by
  unfold upkeep
  split
  · exact (upkeepTables_settled s).trans (.of_same (by simp [action]))
  · exact .refl s

theorem seek_settled (n : Nat) (s : State) : KeepsSettled s (seek n s) := post_settled _ (s.modSource n _)

theorem postRelease_settled (n : Nat) (s : State) : KeepsSettled s (postRelease n s) := by
  unfold postRelease
  repeat' split
  · exact post_settled _ s
  · exact .refl s
  · exact .refl s

theorem sourceBoundary_settled (n : Nat) (s : State) : KeepsSettled s (sourceBoundary n s) := by
  unfold sourceBoundary
  repeat' split
  · exact .refl s
  · exact seek_settled n s
  · exact .refl s
  · exact seek_settled n s
  · exact .refl s
  · exact post_settled _ s
  · exact .refl s
  · exact postRelease_settled n s
  · exact .refl s
  · exact .refl s
  · exact .refl s

theorem sourcesBoundary_settled (s : State) : KeepsSettled s (sourcesBoundary s) :=
  KeepsSettled.forEach _ s (fun n t => sourceBoundary_settled n t)

/-! ### Deadlines -/

/-- An entry after the deadlines at the boundary into `m` (R173). -/
def timedOut (m : Superframe) (r : Relay) : Relay :=
  if r.expiresAt m then { r with phase := .done r.sent .timeout } else r

theorem isOpen_of_expiresAt {m : Superframe} {r : Relay} (expires : r.expiresAt m = true) : r.isOpen = true := by
  unfold Relay.expiresAt at expires
  unfold Relay.isOpen
  split at expires
  case h_1 sent awaiting => rw [awaiting]
  case h_2 => cases expires

theorem relayDeadlines_relay {h : Nat} (s : State) (low : h < 4) :
    (relayDeadlines s).relay h = (s.relay h).map (timedOut s.sync.superframe) := by
  unfold relayDeadlines
  rw [forEach_at State.relay (fun t => t.sync = s.sync) (G := fun _ => timedOut s.sync.superframe) ?_ ?_ 4 s rfl,
    if_pos low]
  · intro g t same
    repeat' split
    all_goals simpa using same
  · intro g t m same
    cases here : t.relay g with
    | none =>
      dsimp only
      split
      case isTrue is => rw [is, here]; rfl
      case isFalse => rfl
    | some r =>
      dsimp only
      rw [same]
      by_cases expires : r.expiresAt s.sync.superframe = true
      · rw [if_pos expires, completeRelay_relay]
        show (if m = g then (t.relay g).map _ else t.relay m) = _
        rw [here]
        refine congrArg (ite _ · _) (congrArg some ?_)
        simp [relayCompleted, timedOut, expires, isOpen_of_expiresAt expires]
      · rw [if_neg expires]
        split
        case isTrue is =>
          rw [is, here]
          exact congrArg some (if_neg expires).symm
        case isFalse => rfl

/-- Away from the trial a boundary leaves a settled entry to its deadline (R2, R173). -/
theorem boundary_relay {s : State} {h : Nat} {r : Relay} (low : h < 4) (here : s.relay h = some r)
    (settled : r.phase ≠ .queued) (noTrial : s.sync.state ≠ .founding) :
    (boundary s).relay h = some (timedOut s.sync.superframe r) := by
  have still : (syncAtBoundary s).relay h = some r ∧ (syncAtBoundary s).sync.superframe = s.sync.superframe := by
    rw [syncAtBoundary_sync]
    refine ⟨?_, rfl⟩
    unfold syncAtBoundary
    split
    · exact here
    · exact absurd ‹_› noTrial
    · exact here
  have kept := (upkeep_settled _).trans (sourcesBoundary_settled _) h r still.1 settled
  unfold boundary
  dsimp only
  rw [if_neg noTrial, relayDeadlines_relay _ low, kept]
  refine congrArg some ?_
  simp [still.2]

/-- Settles O30: the entry stands through the upkeep, and the boundary's deadlines complete it. -/
theorem relayDeadlineTimesOut : Obligations.RelayDeadlineTimesOut := by
  intro h sh r sent s high low state last here awaiting reached
  have noListen : s.sync.state ≠ .listen := by rcases state with st | st <;> (rw [st]; nofun)
  have noLearn : s.sync.state ≠ .learn := by rcases state with st | st <;> (rw [st]; nofun)
  have runs : s.sync.state.timerRuns = true := by rcases state with st | st <;> (rw [st]; rfl)
  have not : founds s = false := founds_eq_false_of_state noListen
  have crosses := crossesBoundary_eq_true runs last not
  have expires : r.expiresAt (nextSuperframe s) = true := by
    unfold Relay.expiresAt deadlineReached nextSuperframe
    rw [awaiting]
    dsimp only
    rcases reached with now | past
    · rw [now]
      simp
    · exact Bool.or_eq_true_iff.mpr (.inr (decide_eq_true past))
  have due : relayExpires h s = true := by simp [relayExpires, crosses, here, expires]
  have noQueue : r.phase ≠ .queued := by rw [awaiting]; nofun
  obtain ⟨sync, -, -, req, -⟩ := frameBegun_frame sh s
  have stepState : (frameSync s).sync.state = s.sync.state := by
    rw [frameSync_step not]
    unfold syncAtFrameStart
    rw [frameStepped_sync]
    rcases state with st | st <;> simp [stepped, st, frameStepped_sync]
  have req' : (frameBegun sh s).req = s.req := by
    rw [req, frameSync_step not,
      (syncAtFrameStart_tables (s := frameStepped s) (by rw [frameStepped_sync]; exact noLearn)).2.1]
    rfl
  have at' : (frameBegun sh s).relay h = some r := by
    unfold State.relay
    rw [req']
    exact here
  have superframe : (frameBegun sh s).sync.superframe = nextSuperframe s := by
    rw [sync, (frameSync_position not).2.2.2.2, if_pos last]
    rfl
  have noTrial : (frameBegun sh s).sync.state ≠ .founding := by
    rw [sync, stepState]
    rcases state with st | st <;> (rw [st]; nofun)
  refine ⟨_, exec_frameRow (c := .relayTimeout h sh) rfl due high runs, ?_⟩
  rw [frameStarted_boundary crosses, boundary_relay low at' noQueue noTrial, superframe]
  unfold timedOut
  rw [if_pos expires, Relay.sent, awaiting]

end Sys2Proof.Proofs
end

section
/-! Port frames and the clock watch (chapter 9): what one port frame moves, and what the other ports leave of it. -/

namespace Sys2Proof.Proofs

open Sys2Proof.Machine

/-! ### Lanes -/

/-- Samples placed in lanes that have room for them (R160). -/
theorem placeLanes_eq (at0 : Nat) (xs lanes : List Sample) (room : at0 + xs.length ≤ lanes.length) :
    placeLanes at0 xs lanes = lanes.take at0 ++ (xs ++ lanes.drop (at0 + xs.length)) := by
  induction xs generalizing at0 lanes with
  | nil => simp [placeLanes]
  | cons x xs ih =>
    rw [List.length_cons] at room
    rw [placeLanes, ih (at0 + 1) (lanes.set at0 x) (by rw [List.length_set]; omega)]
    have front : (lanes.set at0 x).take (at0 + 1) = lanes.take at0 ++ [x] := by
      rw [List.take_add_one, List.getElem?_set_self (by omega), List.take_set_of_le (le_refl at0)]
      rfl
    have back : (lanes.set at0 x).drop (at0 + 1 + xs.length) = lanes.drop (at0 + (x :: xs).length) := by
      rw [List.drop_set_of_lt (by omega), List.length_cons]
      congr 1
      omega
    rw [front, back, List.append_assoc]
    rfl

theorem placeLanes_zeros (at0 : Nat) (xs : List Sample) (room : at0 + xs.length ≤ 8) :
    placeLanes at0 xs (zeroFrame 8) =
      List.replicate at0 0 ++ (xs ++ List.replicate (8 - at0 - xs.length) 0) := by
  rw [placeLanes_eq at0 xs _ (by rw [zeroFrame, List.length_replicate]; exact room), zeroFrame, List.take_replicate,
    List.drop_replicate, Nat.min_eq_left (by omega), Nat.sub_sub]

/-- The lanes of OUT port `p` once sinks have played onto them in turn (R160). -/
def playedLanes (p : Nat) (bridge : Bool) (sinks : List Sink) (lanes : List Sample) : List Sample :=
  sinks.foldl (fun l c => if c.cfg.port = p
    then placeLanes (sinkPlayed p bridge c).cfg.firstLane (sinkPlayed p bridge c).lanes l else l) lanes

theorem playedLanes_of_none {p : Nat} {bridge : Bool} {sinks : List Sink} (lanes : List Sample)
    (none : ∀ c ∈ sinks, c.cfg.port ≠ p) : playedLanes p bridge sinks lanes = lanes := by
  unfold playedLanes
  induction sinks with
  | nil => rfl
  | cons c sinks ih =>
    rw [List.foldl_cons, if_neg (none c List.mem_cons_self)]
    exact ih fun d mem => none d (List.mem_cons_of_mem _ mem)

/-- With one sink on the port its samples alone are placed. -/
theorem playedLanes_of_single {p n : Nat} {bridge : Bool} {sinks : List Sink} {c : Sink} (lanes : List Sample)
    (here : sinks[n]? = some c) (port : c.cfg.port = p)
    (single : ∀ (m : Nat) (d : Sink), sinks[m]? = some d → d.cfg.port = p → m = n) :
    playedLanes p bridge sinks lanes =
      placeLanes (sinkPlayed p bridge c).cfg.firstLane (sinkPlayed p bridge c).lanes lanes := by
  obtain ⟨whole, -⟩ := split_at_getElem? here c
  have before : ∀ d ∈ sinks.take n, d.cfg.port ≠ p := by
    intro d mem is
    obtain ⟨m, at'⟩ := List.getElem?_of_mem mem
    rw [List.getElem?_take] at at'
    split at at'
    · have := single m d at' is
      omega
    · cases at'
  have after : ∀ d ∈ sinks.drop (n + 1), d.cfg.port ≠ p := by
    intro d mem is
    obtain ⟨m, at'⟩ := List.getElem?_of_mem mem
    rw [List.getElem?_drop] at at'
    have := single _ d at' is
    omega
  have first := playedLanes_of_none (bridge := bridge) lanes before
  rw [whole]
  unfold playedLanes at first ⊢
  rw [List.foldl_append, first, List.foldl_cons, if_pos port]
  exact playedLanes_of_none _ after

theorem sinkPlayed_cfg (p : Nat) (bridge : Bool) (c : Sink) : (sinkPlayed p bridge c).cfg = c.cfg := by
  unfold sinkPlayed Sink.play
  repeat' split
  all_goals rfl

/-! ### The rows of a play -/

theorem resolveFrame_eq (c : Sink) (marks : List Mark) : resolveFrame c.cfg.gap marks c.lastGood = PlayedOf c marks := by
  unfold resolveFrame PlayedOf
  congr 1
  funext m last
  cases m <;> cases c.cfg.gap <;> rfl

theorem goodAfter_eq (c : Sink) (marks : List Mark) : List.zipWith goodAfter marks c.lastGood = GoodOf c marks := by
  have same : goodAfter = fun m last => match m with
      | .good x => x
      | _ => last := by
    funext m last
    cases m <;> rfl
  rw [same]
  rfl

theorem playMarks_eq (c : Sink) (marks : List Mark) (rest : List (List Mark)) : c.playMarks marks rest =
    { c with queue := rest, lastOutput := some (PlayedOf c marks), lastGood := GoodOf c marks } := by
  unfold Sink.playMarks
  rw [resolveFrame_eq, goodAfter_eq]

/-- The first row of R147 and R148 that applies is the context a play leaves, with what it plays as its last output. -/
theorem play_of_row {bridge : Bool} {c c' : Sink} {out : List Sample} (row : PlayRow bridge c out c') :
    c.play bridge = c' ∧ c'.lastOutput = some out := by
  unfold PlayRow at row
  unfold Sink.play
  rcases row with ⟨level, rfl, rfl⟩ | ⟨first, second, rest, skips, queue, rfl, rfl⟩ | ⟨repeats, last, rfl⟩ |
    ⟨first, rest, noSkip, noRepeat, queue, rfl, rfl⟩
  · have choice : playChoice bridge c = .underflow := if_pos level
    rw [choice, playMarks_eq]
    refine ⟨?_, rfl⟩
    rw [← List.eq_nil_of_length_eq_zero level]
    rfl
  · have choice : playChoice bridge c = .skip := by
      unfold playChoice
      dsimp only
      rw [if_neg (by rw [queue]; exact Nat.succ_ne_zero _), if_pos skips]
    rw [choice]
    dsimp only
    rw [playMarks_eq, queue]
    exact ⟨rfl, rfl⟩
  · have choice : playChoice bridge c = .repeatLast := by
      obtain ⟨isBridge, some, low, known, full⟩ := repeats
      unfold playChoice
      dsimp only
      rw [if_neg some, if_neg (by omega), if_pos ⟨isBridge, low, Option.isSome_iff_ne_none.mpr known, full⟩]
    rw [choice]
    exact ⟨rfl, last⟩
  · have choice : playChoice bridge c = .pop := by
      have some : c.queue.length ≠ 0 := by rw [queue]; exact Nat.succ_ne_zero _
      unfold playChoice
      dsimp only
      rw [if_neg some, if_neg noSkip, if_neg]
      rintro ⟨isBridge, low, known, full⟩
      exact noRepeat ⟨isBridge, some, low, Option.isSome_iff_ne_none.mp known, full⟩
    rw [choice]
    dsimp only
    rw [playMarks_eq, queue]
    exact ⟨rfl, rfl⟩

theorem play_state (bridge : Bool) (c : Sink) : (c.play bridge).state = c.state ∧ (c.play bridge).muted = c.muted ∧
    (c.play bridge).cfg = c.cfg := by
  unfold Sink.play
  split <;> exact ⟨rfl, rfl, rfl⟩

/-- What a sink that plays puts on its lanes (R145, R150). -/
theorem sinkPlayed_row {p : Nat} {bridge : Bool} {c c' : Sink} {played : List Sample} (port : c.cfg.port = p)
    (row : PlayRow bridge c played c') :
    (c.state = .running → sinkPlayed p bridge c = c' ∧
      (sinkPlayed p bridge c).lanes = if c.muted = true then List.replicate c.cfg.channels 0 else played) ∧
    (c.state ≠ .running → sinkPlayed p bridge c = c ∧
      (sinkPlayed p bridge c).lanes = List.replicate c.cfg.channels 0) := by
  obtain ⟨is, last⟩ := play_of_row row
  obtain ⟨state, muted, cfg⟩ := play_state bridge c
  rw [is] at state muted cfg
  refine ⟨fun running => ?_, fun other => ?_⟩
  · have plays : sinkPlayed p bridge c = c' := (if_pos ⟨port, running⟩).trans is
    refine ⟨plays, ?_⟩
    rw [plays, Sink.lanes, state, running, muted, last, cfg]
    cases c.muted <;> rfl
  · have idle : sinkPlayed p bridge c = c := if_neg (fun both => other both.2)
    exact ⟨idle, by rw [idle]; exact if_neg (fun both => other both.1)⟩

/-! ### One port frame -/

theorem modPort_at {p : Nat} {q : Port} {s : State} (f : Port → Port) (here : s.ports[p]? = some q) :
    (s.modPort p f).ports[p]? = some (f q) := modify_getElem?_self f here

theorem modPort_other {p j : Nat} (f : Port → Port) (s : State) (other : j ≠ p) :
    (s.modPort p f).ports[j]? = s.ports[j]? := modify_getElem?_ne f (Ne.symm other)

theorem direction_of {p : Nat} {q : Port} {cfg : PortConfig} {s : State} (here : s.ports[p]? = some q)
    (is : q.cfg = some cfg) : s.direction p = some cfg.direction := by
  rw [State.direction, here, Option.bind_some, is]
  rfl

theorem clocking_of {p : Nat} {q : Port} {cfg : PortConfig} {s : State} (here : s.ports[p]? = some q)
    (is : q.cfg = some cfg) : s.clocking p = some cfg.clocking := by
  rw [State.clocking, here, Option.bind_some, is]
  rfl

/-- A loop's result by what its rounds make of a predicate over the numbers done. -/
theorem forEach_ind (P : Nat → State → Prop) {f : Nat → State → State} {s : State} (start : P 0 s)
    (round : ∀ i t, P i t → P (i + 1) (f i t)) (n : Nat) : P n (forEach n f s) := by
  induction n with
  | zero => exact start
  | succ n ih =>
    rw [forEach_succ]
    exact round n _ ih

theorem playSink_port {p n : Nat} {bridge : Bool} {s : State} {q : Port} (here : s.ports[p]? = some q) :
    (playSink p bridge n s).ports[p]? = some { q with
      lanesOut := match s.sinks[n]? with
        | some c => if c.cfg.port = p
            then placeLanes (sinkPlayed p bridge c).cfg.firstLane (sinkPlayed p bridge c).lanes q.lanesOut else q.lanesOut
        | none => q.lanesOut } := by
  unfold playSink
  cases at' : s.sinks[n]? with
  | none => exact here
  | some c =>
    dsimp only
    by_cases port : c.cfg.port = p
    · rw [if_pos port, if_pos port]
      have plays : sinkPlayed p bridge c = if c.state = .running then c.play bridge else c := by
        unfold sinkPlayed
        by_cases running : c.state = .running
        · rw [if_pos ⟨port, running⟩, if_pos running]
        · rw [if_neg (fun both => running both.2), if_neg running]
      rw [plays]
      exact modPort_at (s := s.modSink n _) _ here
    · rw [if_neg port, if_neg port]
      exact here

theorem playSink_other {p n j : Nat} {bridge : Bool} {s : State} (other : j ≠ p) :
    (playSink p bridge n s).ports[j]? = s.ports[j]? := by
  unfold playSink
  split
  · split
    · exact modPort_other (s := s.modSink n _) _ other
    · rfl
  · rfl

/-- The lanes of an OUT port after its port frame (R160). -/
theorem fillLanes_port {p : Nat} {bridge : Bool} {s : State} {q : Port} (here : s.ports[p]? = some q) :
    (fillLanes p bridge s).ports[p]? = some { q with lanesOut := playedLanes p bridge s.sinks (zeroFrame 8) } := by
  have rounds := forEach_ind (f := playSink p bridge) (s := s.modPort p (fun q => { q with lanesOut := zeroFrame 8 }))
    (fun k t => (∀ m, k ≤ m → t.sinks[m]? = s.sinks[m]?) ∧
      t.ports[p]? = some { q with lanesOut := playedLanes p bridge (s.sinks.take k) (zeroFrame 8) })
    ⟨fun _ _ => rfl, modPort_at _ here⟩
    (fun k t ⟨sinks, port⟩ => by
      refine ⟨fun m later => ?_, ?_⟩
      · rw [playSink_sinks, modify_getElem?_ne _ (by omega)]
        exact sinks m (by omega)
      · rw [playSink_port port, sinks k (le_refl k), List.take_add_one]
        unfold playedLanes
        rw [List.foldl_append]
        cases s.sinks[k]? <;> rfl)
    s.sinks.length
  rw [List.take_length] at rounds
  exact rounds.2

theorem fillLanes_other {p j : Nat} {bridge : Bool} {s : State} (other : j ≠ p) :
    (fillLanes p bridge s).ports[j]? = s.ports[j]? :=
  forEach_inv (fun t => t.ports[j]? = s.ports[j]?) _ _ _ (modPort_other _ s other)
    (fun _ _ same => (playSink_other other).trans same)

/-- A port frame of port `p`: the short frame counted, the lanes moved, the port primed (R157 to R160). -/
def portFramed (p : Nat) (bridge whole short : Bool) (lanes : List Sample) (s : State) : State :=
  prime p (portFrame p bridge whole lanes (if short then countShort p s else s))

theorem followFrame_eq {p : Nat} {q : Port} {s : State} (short : Bool) (bits : List Bool) (here : s.ports[p]? = some q) :
    followFrame short p bits s = portFramed p false (q.primed && !short) (q.primed && short) (lanesOf bits) s := by
  unfold followFrame
  rw [here]
  rfl

theorem strobe_eq {p : Nat} {q : Port} {s : State} (periods : Nat) (bits : List Bool) (here : s.ports[p]? = some q) :
    strobe p periods bits s = portFramed p true (q.primed && decide (192 ≤ periods)) (q.primed && decide (periods < 192))
      (lanesOf bits) (restoreClock p s) := by
  unfold strobe
  rw [here]
  rfl

theorem countedShort_at {p : Nat} {q : Port} {s : State} (short : Bool) (here : s.ports[p]? = some q) :
    (if short then countShort p s else s).ports[p]? =
      some { q with shortFrames := if short then bump q.shortFrames else q.shortFrames } := by
  cases short with
  | true => exact modPort_at _ here
  | false => exact here

theorem countedShort_other {p j : Nat} {s : State} (short : Bool) (other : j ≠ p) :
    (if short then countShort p s else s).ports[j]? = s.ports[j]? := by
  cases short with
  | true => exact modPort_other _ s other
  | false => rfl

theorem countedShort_frame (p : Nat) (short : Bool) (s : State) :
    (if short then countShort p s else s).sources = s.sources ∧ (if short then countShort p s else s).sinks = s.sinks := by
  cases short <;> exact ⟨rfl, rfl⟩

/-- The port frame of an IN port (R157, R158, R159). -/
theorem portFramed_input {p : Nat} {bridge whole short : Bool} {lanes : List Sample} {q : Port} {s : State}
    {clocking : Clocking} (here : s.ports[p]? = some q) (cfg : q.cfg = some ⟨.input, clocking⟩) :
    (portFramed p bridge whole short lanes s).ports[p]? = some { q with
      primed := true, shortFrames := if short then bump q.shortFrames else q.shortFrames } ∧
    (portFramed p bridge whole short lanes s).sinks = s.sinks ∧
    (portFramed p bridge whole short lanes s).sources = if whole
      then s.sources.map (fun c => if c.cfg.port = p then c.push bridge (laneFrame c lanes) else c) else s.sources := by
  have counted := countedShort_at (p := p) short here
  obtain ⟨sources, sinks⟩ := countedShort_frame p short s
  have moved : portFrame p bridge whole lanes (if short then countShort p s else s) =
      if whole then deliverLanes p bridge lanes (if short then countShort p s else s)
      else (if short then countShort p s else s) := by
    unfold portFrame
    rw [direction_of counted (cfg := ⟨.input, clocking⟩) cfg]
  unfold portFramed
  rw [moved]
  cases whole with
  | true =>
    refine ⟨modPort_at _ counted, sinks, ?_⟩
    show (if short then countShort p s else s).sources.map _ = _
    rw [sources]
    rfl
  | false => exact ⟨modPort_at _ counted, sinks, sources⟩

/-- The port frame of an OUT port (R145, R157, R158, R160). -/
theorem portFramed_output {p : Nat} {bridge whole short : Bool} {lanes : List Sample} {q : Port} {s : State}
    {clocking : Clocking} (here : s.ports[p]? = some q) (cfg : q.cfg = some ⟨.output, clocking⟩) :
    (portFramed p bridge whole short lanes s).ports[p]? = some { q with
      primed := true, shortFrames := if short then bump q.shortFrames else q.shortFrames
      lanesOut := playedLanes p bridge s.sinks (zeroFrame 8) } ∧
    (portFramed p bridge whole short lanes s).sources = s.sources ∧
    (portFramed p bridge whole short lanes s).sinks = s.sinks.map (sinkPlayed p bridge) := by
  have counted := countedShort_at (p := p) short here
  obtain ⟨sources, sinks⟩ := countedShort_frame p short s
  have moved : portFrame p bridge whole lanes (if short then countShort p s else s) =
      fillLanes p bridge (if short then countShort p s else s) := by
    unfold portFrame
    rw [direction_of counted (cfg := ⟨.output, clocking⟩) cfg]
  unfold portFramed
  rw [moved]
  refine ⟨?_, ?_, ?_⟩
  · rw [← sinks]
    exact modPort_at _ (fillLanes_port counted)
  · refine Eq.trans ?_ sources
    simp
  · refine Eq.trans ?_ ((fillLanes_sinks p bridge _).trans (by rw [sinks]))
    rfl

theorem portFrame_other {p j : Nat} {bridge whole : Bool} {lanes : List Sample} {s : State} (other : j ≠ p) :
    (portFrame p bridge whole lanes s).ports[j]? = s.ports[j]? := by
  unfold portFrame
  split
  · split <;> rfl
  · exact fillLanes_other other
  · rfl

theorem portFramed_other {p j : Nat} {bridge whole short : Bool} {lanes : List Sample} {s : State} (other : j ≠ p) :
    (portFramed p bridge whole short lanes s).ports[j]? = s.ports[j]? :=
  (modPort_other _ _ other).trans ((portFrame_other other).trans (countedShort_other short other))

/-! ### Strobes -/

theorem restoreClock_at {p : Nat} {q : Port} {s : State} (here : s.ports[p]? = some q) :
    (restoreClock p s).ports[p]? = some { q with watch := 0, clock := some .active } := by
  unfold restoreClock
  rw [here]
  dsimp only
  split <;> exact modPort_at _ here

theorem restoreClock_other {p j : Nat} {s : State} (other : j ≠ p) : (restoreClock p s).ports[j]? = s.ports[j]? := by
  unfold restoreClock
  split
  · dsimp only
    split <;> exact modPort_other _ s other
  · rfl

theorem portFramed_frame (p : Nat) (bridge whole short : Bool) (lanes : List Sample) (s : State) :
    (portFramed p bridge whole short lanes s).mgmt = s.mgmt ∧ (portFramed p bridge whole short lanes s).sync = s.sync ∧
    (portFramed p bridge whole short lanes s).line = s.line ∧ (portFramed p bridge whole short lanes s).alloc = s.alloc ∧
    (portFramed p bridge whole short lanes s).tx = s.tx := by
  have counted : (if short then countShort p s else s).mgmt = s.mgmt := by cases short <;> rfl
  refine ⟨(portFrame_mgmt p bridge whole lanes _).trans counted, ?_⟩
  unfold portFramed
  cases short <;> simp

theorem restoreClock_mgmt {p : Nat} {q : Port} {s : State} (here : s.ports[p]? = some q) :
    (q.clock ≠ some .lost → (restoreClock p s).mgmt = s.mgmt) ∧ (q.clock = some .lost → s.mgmt.notices = [] →
      (restoreClock p s).mgmt.notices = [.fault (.clockRestored p s.sync.superframe)]) := by
  unfold restoreClock
  rw [here]
  dsimp only
  refine ⟨fun stands => by rw [if_neg stands]; rfl, fun lost empty => ?_⟩
  rw [if_pos lost, notify_notices]
  show (if s.mgmt.notices.length < 16 then s.mgmt.notices ++ _ else s.mgmt.notices) = _
  rw [empty]
  rfl

/-- What a BRIDGE port pushes into a source (R128, R130, R159). -/
theorem push_bridge (frame : List Sample) (c : Source) : c.push true frame =
    if c.state = .claiming ∨ c.state = .owned then { c with
      queue := if decide (8 ≤ c.queue.length) then c.queue.tail ++ [frame] else c.queue ++ [frame]
      counters := if decide (8 ≤ c.queue.length) = true ∧ c.state = .owned
        then { c.counters with overflows := bump c.counters.overflows } else c.counters } else c := by
  unfold Source.push pushCapped
  by_cases full : 8 ≤ c.queue.length
  · simp [full, Nat.not_lt.mpr full]
  · simp [full, Nat.not_le.mp full]

/-- Settles O55: the clock restored, then the port frame by its direction. -/
theorem bridgeStrobeMakesAPortFrame : Obligations.BridgeStrobeMakesAPortFrame := by
  intro p periods bits q dir s high runs here cfg
  have bridged : s.clocking p = some .bridge := clocking_of here cfg
  have takes : takesStrobe p s = true := by simp [takesStrobe, runs, bridged]
  have ran : exec (.bridgeStrobe p periods bits) s = .next (strobe p periods bits s) :=
    (underReset_high _ high).trans (congrArg _ (whenDue_of _ takes))
  have at' := restoreClock_at here
  obtain ⟨mgmt, sync, line, alloc, tx⟩ := portFramed_frame p true (q.primed && decide (192 ≤ periods))
    (q.primed && decide (periods < 192)) (lanesOf bits) (restoreClock p s)
  obtain ⟨quiet, restored⟩ := restoreClock_mgmt here
  rw [ran, strobe_eq periods bits here]
  have short : (if (q.primed && decide (periods < 192)) = true then bump q.shortFrames else q.shortFrames) =
      if q.primed = true ∧ periods < 192 then bump q.shortFrames else q.shortFrames := by
    simp only [Bool.and_eq_true, decide_eq_true_eq]
  cases dir with
  | input =>
    obtain ⟨port, sinks, sources⟩ := portFramed_input (bridge := true) (whole := q.primed && decide (192 ≤ periods))
      (short := q.primed && decide (periods < 192)) (lanes := lanesOf bits) at' cfg
    refine ⟨_, _, rfl, port, rfl, rfl, rfl, rfl, rfl, short, fun stands => mgmt.trans (quiet stands), fun lost empty => ?_,
      fun j other => (portFramed_other other).trans (restoreClock_other other), by simp [sync], by simp [line],
      by simp [alloc], by simp [tx], fun _ => ⟨by simp [sinks], rfl, fun notWhole => ?_, fun primed long n c stands => ?_⟩,
      nofun⟩
    · rw [mgmt]
      exact restored lost empty
    · rw [sources, if_neg (by simpa using notWhole)]
      simp
    · have pushed : ∀ d, (if c.cfg.port = p then c.push true (laneFrame c (lanesOf bits)) else c) = d →
          (portFramed p true (q.primed && decide (192 ≤ periods)) (q.primed && decide (periods < 192)) (lanesOf bits)
            (restoreClock p s)).sources[n]? = some d := by
        rintro d rfl
        have before : (restoreClock p s).sources[n]? = some c := by simpa using stands
        rw [sources, if_pos (by simp [primed, long]), List.getElem?_map, before]
        rfl
      refine ⟨fun own takes => pushed _ ?_, fun aside => pushed _ ?_⟩
      · rw [if_pos own, push_bridge, if_pos takes]
        rfl
      · rcases aside with other | ⟨notClaiming, notOwned⟩
        · exact if_neg other
        · rw [push_bridge, if_neg (not_or.mpr ⟨notClaiming, notOwned⟩), ite_self]
  | output =>
    obtain ⟨port, sources, sinks⟩ := portFramed_output (bridge := true) (whole := q.primed && decide (192 ≤ periods))
      (short := q.primed && decide (periods < 192)) (lanes := lanesOf bits) at' cfg
    have before : (restoreClock p s).sinks = s.sinks := by simp
    rw [before] at port sinks
    refine ⟨_, _, rfl, port, rfl, rfl, rfl, rfl, rfl, short, fun stands => mgmt.trans (quiet stands), fun lost empty => ?_,
      fun j other => (portFramed_other other).trans (restoreClock_other other), by simp [sync], by simp [line],
      by simp [alloc], by simp [tx], nofun, fun _ => ⟨by simp [sources], fun n c c' played stands own fits length single row =>
        ?_⟩⟩
    · rw [mgmt]
      exact restored lost empty
    · obtain ⟨plays, rests⟩ := sinkPlayed_row own row
      have lanes := playedLanes_of_single (bridge := true) (zeroFrame 8) stands own single
      have others (m : Nat) (d : Sink) (ne : m ≠ n) (at'' : s.sinks[m]? = some d) : sinkPlayed p true d = d :=
        if_neg (fun both => ne (single m d at'' both.1))
      have whole : s.sinks.map (sinkPlayed p true) = s.sinks.set n (sinkPlayed p true c) := by
        apply List.ext_getElem?
        intro m
        rw [List.getElem?_map]
        by_cases same : m = n
        · subst same
          rw [stands, set_getElem?_self stands]
          rfl
        · rw [List.getElem?_set_ne (Ne.symm same)]
          cases at'' : s.sinks[m]? with
          | none => rfl
          | some d => exact congrArg some (others m d same at'')
      refine ⟨fun running => ?_, fun other => ?_⟩
      · obtain ⟨is, out⟩ := plays running
        refine ⟨by rw [sinks, whole, is], lanes.trans ?_⟩
        rw [out, sinkPlayed_cfg, placeLanes_zeros]
        · split <;> simp [length]
        · split <;> simp [length, fits]
      · obtain ⟨is, out⟩ := rests other
        refine ⟨by rw [sinks, whole, is, set_same stands], lanes.trans ?_⟩
        rw [out, sinkPlayed_cfg, placeLanes_zeros _ _ (by simpa using fits)]
        rw [List.length_replicate, ← List.replicate_add, ← List.replicate_add]
        congr 1
        omega

end Sys2Proof.Proofs
end

section
/-! The ports at a frame start: each port by its own part, whatever the others do (R157, R161). -/

namespace Sys2Proof.Proofs

open Sys2Proof.Machine

/-! ### One port among four -/

/-- A loop up to and past number `p`, by a relation that every other round keeps. -/
theorem forEach_through {R : State → State → Prop} (refl : ∀ s, R s s) (trans : ∀ {s t u}, R s t → R t u → R s u)
    {f : Nat → State → State} {p : Nat} (aside : ∀ r, r ≠ p → ∀ t, R t (f r t)) {n : Nat} (inside : p < n) (s : State) :
    R s (forEach p f s) ∧ R (f p (forEach p f s)) (forEach n f s) := by
  refine ⟨?_, ?_⟩
  · have before (k : Nat) (low : k ≤ p) : R s (forEach k f s) := by
      induction k with
      | zero => exact refl s
      | succ k ih =>
        rw [forEach_succ]
        exact trans (ih (by omega)) (aside k (by omega) _)
    exact before p (le_refl p)
  · have after (k : Nat) : R (f p (forEach p f s)) (forEach (p + 1 + k) f s) := by
      induction k with
      | zero =>
        rw [Nat.add_zero, forEach_succ]
        exact refl _
      | succ k ih =>
        rw [← Nat.add_assoc, forEach_succ]
        exact trans ih (aside (p + 1 + k) (by omega) _)
    obtain ⟨k, rfl⟩ : ∃ k, n = p + 1 + k := ⟨n - (p + 1), by omega⟩
    exact after k

/-- Port `p`, its sources and its sinks are as they were, and no other source or sink has become one of its. -/
structure Aside (p : Nat) (s t : State) : Prop where
  port : t.ports[p]? = s.ports[p]?
  sources : ∀ n : Nat, (t.sources[n]?).filter (fun c => c.cfg.port == p) = (s.sources[n]?).filter (fun c => c.cfg.port == p)
  sinks : ∀ n : Nat, (t.sinks[n]?).filter (fun c => c.cfg.port == p) = (s.sinks[n]?).filter (fun c => c.cfg.port == p)

namespace Aside

theorem refl (p : Nat) (s : State) : Aside p s s := ⟨rfl, fun _ => rfl, fun _ => rfl⟩

theorem trans {p : Nat} {s t u : State} (h : Aside p s t) (k : Aside p t u) : Aside p s u :=
  ⟨k.port.trans h.port, fun n => (k.sources n).trans (h.sources n), fun n => (k.sinks n).trans (h.sinks n)⟩

theorem of_same {p : Nat} {s t : State} (port : t.ports[p]? = s.ports[p]?) (sources : t.sources = s.sources)
    (sinks : t.sinks = s.sinks) : Aside p s t := ⟨port, fun _ => by rw [sources], fun _ => by rw [sinks]⟩

theorem source {p n : Nat} {c : Source} {s t : State} (h : Aside p s t) (here : s.sources[n]? = some c)
    (own : c.cfg.port = p) : t.sources[n]? = some c := by
  have kept := h.sources n
  rw [here, Option.filter_some_pos (by simpa using own)] at kept
  exact (Option.filter_eq_some_iff.mp kept).1

theorem sink {p n : Nat} {c : Sink} {s t : State} (h : Aside p s t) (here : s.sinks[n]? = some c)
    (own : c.cfg.port = p) : t.sinks[n]? = some c := by
  have kept := h.sinks n
  rw [here, Option.filter_some_pos (by simpa using own)] at kept
  exact (Option.filter_eq_some_iff.mp kept).1

/-- A sink of the port afterwards was one before. -/
theorem sink_back {p n : Nat} {c : Sink} {s t : State} (h : Aside p s t) (here : t.sinks[n]? = some c)
    (own : c.cfg.port = p) : s.sinks[n]? = some c := by
  have kept := h.sinks n
  rw [here, Option.filter_some_pos (by simpa using own)] at kept
  exact (Option.filter_eq_some_iff.mp kept.symm).1

end Aside

/-- A map that keeps the port of each member and changes none of port `p` keeps those of port `p`. -/
theorem filter_map_getElem? {α : Type} {P : α → Bool} {f : α → α} (l : List α) (keeps : ∀ c, P (f c) = P c)
    (aside : ∀ c, P c = true → f c = c) (n : Nat) : ((l.map f)[n]?).filter P = (l[n]?).filter P := by
  rw [List.getElem?_map]
  cases l[n]? with
  | none => rfl
  | some c =>
    rw [Option.map_some]
    cases own : P c with
    | true => rw [aside c own]
    | false => rw [Option.filter_some_neg (by simp [keeps, own]), Option.filter_some_neg (by simp [own])]

theorem portFramed_aside {p r : Nat} {bridge whole short : Bool} {lanes : List Sample} {q : Port} {s : State}
    {cfg : PortConfig} (other : r ≠ p) (here : s.ports[r]? = some q) (is : q.cfg = some cfg) :
    Aside p s (portFramed r bridge whole short lanes s) := by
  obtain ⟨dir, clocking⟩ := cfg
  have port : (portFramed r bridge whole short lanes s).ports[p]? = s.ports[p]? := portFramed_other (Ne.symm other)
  cases dir with
  | input =>
    obtain ⟨-, sinks, sources⟩ := portFramed_input (bridge := bridge) (whole := whole) (short := short) (lanes := lanes)
      here is
    refine ⟨port, fun n => ?_, fun n => by rw [sinks]⟩
    rw [sources]
    split
    · refine filter_map_getElem? s.sources (fun c => ?_) (fun c own => ?_) n
      · split
        · rw [push_cfg]
        · rfl
      · refine if_neg (fun same => other ?_)
        rw [← same]
        simpa using own
    · rfl
  | output =>
    obtain ⟨-, sources, sinks⟩ := portFramed_output (bridge := bridge) (whole := whole) (short := short) (lanes := lanes)
      here is
    refine ⟨port, fun n => by rw [sources], fun n => ?_⟩
    rw [sinks]
    refine filter_map_getElem? s.sinks (fun c => by rw [sinkPlayed_cfg]) (fun c own => ?_) n
    refine if_neg (fun both => other ?_)
    rw [← both.1]
    simpa using own

theorem cfg_of_clocking {p : Nat} {q : Port} {s : State} {k : Clocking} (here : s.ports[p]? = some q)
    (is : s.clocking p = some k) : ∃ dir, q.cfg = some ⟨dir, k⟩ := by
  rw [State.clocking, here, Option.bind_some] at is
  obtain ⟨cfg, known, rfl⟩ := Option.map_eq_some_iff.mp is
  exact ⟨cfg.direction, known⟩

theorem watchClock_other {p r : Nat} {s : State} (other : r ≠ p) : (watchClock r s).ports[p]? = s.ports[p]? := by
  unfold watchClock
  repeat' split
  · exact modPort_other _ s (Ne.symm other)
  · exact modPort_other _ s (Ne.symm other)
  · rfl
  · rfl

/-- A port at a frame start leaves what belongs to another. -/
theorem portAtFrameStart_aside {p r : Nat} (short : Bool) (sh : List (List Bool)) (other : r ≠ p) (s : State) :
    Aside p s (portAtFrameStart short sh r s) := by
  unfold portAtFrameStart
  split
  case h_1 follow =>
    cases here : s.ports[r]? with
    | none =>
      unfold followFrame
      rw [here]
      exact .refl p s
    | some q =>
      obtain ⟨dir, is⟩ := cfg_of_clocking here follow
      rw [followFrame_eq short _ here]
      exact portFramed_aside other here is
  case h_2 => exact .of_same (watchClock_other other) (by simp) (by simp)
  case h_3 => exact .refl p s

/-- The ports up to port `p`. -/
def portsUpTo (p : Nat) (sh : List (List Bool)) (s : State) : State :=
  forEach p (portAtFrameStart (followCutShort s.sync.jump) sh) (driveMarker (frameSync s))

/-- A frame start before its boundary, from port `p`'s part on both sides. -/
theorem frameBegun_through {p : Nat} (sh : List (List Bool)) (s : State) (low : p < 4) :
    Aside p (frameSync s) (portsUpTo p sh s) ∧
    Aside p (portAtFrameStart (followCutShort s.sync.jump) sh p (portsUpTo p sh s)) (frameBegun sh s) := by
  have through := forEach_through (R := Aside p) (.refl p) .trans
    (fun r other t => portAtFrameStart_aside (followCutShort s.sync.jump) sh other t) low (driveMarker (frameSync s))
  have marked : Aside p (frameSync s) (driveMarker (frameSync s)) := .of_same rfl rfl rfl
  exact ⟨marked.trans through.1, through.2⟩

/-! ### The clock watch -/

theorem enterLockedNow_notices (s : State) : (enterLockedNow s).mgmt.notices.length ≤ s.mgmt.notices.length + 1 := by
  show (sourcesSeek _).mgmt.notices.length ≤ _
  rw [(sourcesSeek_mgmt _).1]
  unfold notifySync
  rw [notify_notices]
  split
  · simp
  · simp

theorem frameSync_notices (s : State) : (frameSync s).mgmt.notices.length ≤ s.mgmt.notices.length + 1 := by
  unfold frameSync
  split
  · unfold enterFounding notifySync
    rw [notify_notices]
    split
    · simp
    · simp
  · unfold syncAtFrameStart
    repeat' split
    · exact Nat.le_succ _
    · exact Nat.le_succ _
    · exact Nat.le_succ _
    · exact enterLockedNow_notices _
    · exact Nat.le_succ _
    · exact Nat.le_succ _

theorem portAtFrameStart_notices (short : Bool) (sh : List (List Bool)) (p : Nat) (s : State) :
    (portAtFrameStart short sh p s).mgmt.notices.length ≤ s.mgmt.notices.length + 1 := by
  unfold portAtFrameStart
  split
  · rw [followFrame_mgmt]
    exact Nat.le_succ _
  · unfold watchClock
    repeat' split
    · exact Nat.le_succ _
    · rw [notify_notices]
      split
      · simp
      · simp
    · exact Nat.le_succ _
    · exact Nat.le_succ _
  · exact Nat.le_succ _

/-- Ahead of port `p` there is room for its notice if the queue was empty. -/
theorem portsUpTo_notices {p : Nat} {sh : List (List Bool)} {s : State} (empty : s.mgmt.notices = []) :
    (portsUpTo p sh s).mgmt.notices.length ≤ p + 1 := by
  refine forEach_ind (fun k t => t.mgmt.notices.length ≤ k + 1) ?_ (fun k t few => ?_) p
  · have first := frameSync_notices s
    rw [empty] at first
    exact first
  · have one := portAtFrameStart_notices (followCutShort s.sync.jump) sh k t
    omega

theorem portsUpTo_sync (p : Nat) (sh : List (List Bool)) (s : State) : (portsUpTo p sh s).sync = (frameSync s).sync :=
  forEach_inv (fun t => t.sync = (frameSync s).sync) _ _ _ rfl (fun i t same => by simpa using same)

theorem watchClock_lost {p : Nat} {q : Port} {s : State} (here : s.ports[p]? = some q) (active : q.clock = some .active)
    (last : q.watch = 63) : watchClock p s = notify (.fault (.clockLost p s.sync.superframe)) (s.modPort p (fun q =>
      { q with watch := 64, clock := some .lost, primed := false, clockLosses := bump q.clockLosses })) := by
  unfold watchClock
  rw [here]
  exact (if_pos active).trans (if_neg (by omega))

theorem frameStarted_ports (sh : List (List Bool)) (s : State) : (frameStarted sh s).ports = (frameBegun sh s).ports := by
  cases crosses : crossesBoundary s with
  | false => rw [frameStarted_away crosses]
  | true => rw [frameStarted_boundary crosses]; simp

theorem frameStarted_superframe (sh : List (List Bool)) (s : State) :
    (frameStarted sh s).sync.superframe = (frameSync s).sync.superframe := by
  rw [frameStarted_sync]
  split <;> rfl

theorem frameStarted_grows_from_begun (sh : List (List Bool)) (s : State) :
    PostsOnly (frameBegun sh s) (frameStarted sh s) := by
  cases crosses : crossesBoundary s with
  | false => rw [frameStarted_away crosses]; exact .refl _
  | true => rw [frameStarted_boundary crosses]; exact boundary_grows _

/-- Settles O31: port `p`'s own watch, with the other ports and the boundary aside. -/
theorem clockWatchLosesThePort : Obligations.ClockWatchLosesThePort := by
  intro p sh q cfg s high low runs here is bridge
  obtain ⟨before, after⟩ := frameBegun_through sh s low
  have at' : (portsUpTo p sh s).ports[p]? = some q := before.port.trans (by simpa using here)
  have bridged : (portsUpTo p sh s).clocking p = some .bridge := by rw [clocking_of at' is, bridge]
  have own : portAtFrameStart (followCutShort s.sync.jump) sh p (portsUpTo p sh s) = watchClock p (portsUpTo p sh s) := by
    unfold portAtFrameStart
    rw [bridged]
  have port : (frameStarted sh s).ports[p]? = (watchClock p (portsUpTo p sh s)).ports[p]? := by
    rw [frameStarted_ports, after.port, own]
  refine ⟨fun active last => ?_, fun active below => ?_, fun lost => ?_⟩
  · have due : watchExpires p s = true := by
      simp [watchExpires, runs, here, clocking_of here is, bridge, active, last]
    have watched := watchClock_lost at' active last
    have found : (frameStarted sh s).ports[p]? = some { q with
        clock := some .lost, watch := 64, primed := false, clockLosses := bump q.clockLosses } := by
      rw [port, watched]
      exact modPort_at _ at'
    refine ⟨_, exec_frameRow (c := .clockWatchExpiry p sh) rfl due high runs, found, ?_, fun empty => ?_⟩
    · exact (faultHigh_iff _).mpr (.inr (.inr (.inr ⟨_, List.mem_of_getElem? found, rfl⟩)))
    · have few := portsUpTo_notices (p := p) (sh := sh) empty
      have through := forEach_through (R := PostsOnly) .refl .trans
        (fun r _ t => portAtFrameStart_grows (followCutShort s.sync.jump) sh r t) low (driveMarker (frameSync s))
      have grows : PostsOnly (watchClock p (portsUpTo p sh s)) (frameStarted sh s) := by
        rw [← own]
        exact PostsOnly.trans through.2 (frameStarted_grows_from_begun sh s)
      refine grows.1.subset ?_
      rw [watched, notify_notices, frameStarted_superframe, ← portsUpTo_sync p sh s]
      show _ ∈ if (portsUpTo p sh s).mgmt.notices.length < 16 then (portsUpTo p sh s).mgmt.notices ++ _ else _
      rw [if_pos (by omega)]
      simp
  · refine ⟨_, exec_frameStart high runs, ?_⟩
    rw [port]
    unfold watchClock
    rw [at']
    dsimp only
    rw [if_pos active, if_pos (by omega)]
    exact modPort_at _ at'
  · refine ⟨_, exec_frameStart high runs, ?_⟩
    rw [port]
    unfold watchClock
    rw [at']
    dsimp only
    rw [if_neg (by rw [lost]; nofun)]
    exact at'

/-! ### FOLLOW ports -/

theorem frameSync_sources {s : State} (other : s.sync.state ≠ .learn) :
    (frameSync s).sources = s.sources.map (fun c => { c with collidedNow := false }) := by
  unfold frameSync
  split
  · simp [endFrame]
  · exact (syncAtFrameStart_tables (s := frameStepped s) (by rw [frameStepped_sync]; exact other)).2.2.1

theorem followCutShort_iff (jump : Option Nat) : followCutShort jump = true ↔
    ∃ length, jump = some length ∧ length < 2046 ∧ length < Config.followBitTicks := by
  cases jump <;> simp [followCutShort]

/-- The lanes of 192 bits (R155). -/
theorem lanesOf_getD {bits : List Bool} (whole : bits.length = 192) {i : Nat} (low : i < 8) :
    (lanesOf bits).getD i 0 = BitVec.ofNat 24 (natOf ((bits.drop (24 * i)).take 24)) := by
  have padded : padTo 192 bits = bits := by
    unfold padTo
    rw [List.take_append_of_le_length (by omega), List.take_of_length_le (by omega)]
  unfold lanesOf
  rw [List.getD_eq_getElem?_getD, List.getElem?_map, List.getElem?_range low, padded]
  rfl

theorem laneFrame_eq {bits : List Bool} {c : Source} (whole : bits.length = 192)
    (fits : c.cfg.firstLane + c.cfg.channels ≤ 8) : laneFrame c (lanesOf bits) =
      (List.range c.cfg.channels).map (fun j =>
        BitVec.ofNat 24 (natOf ((bits.drop (24 * (c.cfg.firstLane + j))).take 24))) := by
  refine List.map_congr_left (fun j mem => ?_)
  rw [List.mem_range] at mem
  exact lanesOf_getD whole (by omega)

theorem push_follow_takes {frame : List Sample} {c : Source} (takes : c.state = .claiming ∨ c.state = .owned) :
    c.push false frame = { c with queue := [frame] } := by
  unfold Source.push
  rw [if_pos takes]
  rfl

theorem push_other {bridge : Bool} {frame : List Sample} {c : Source} (other : c.state ≠ .claiming ∧ c.state ≠ .owned) :
    c.push bridge frame = c := if_neg (not_or.mpr other)

/-- Settles O32: port `p`'s own port frame, by its direction. -/
theorem followPortsMakeAPortFrame : Obligations.FollowPortsMakeAPortFrame := by
  intro p sh bits q dir s high low runs inside other here cfg shifted whole
  obtain ⟨before, after⟩ := frameBegun_through sh s low
  have at' : (portsUpTo p sh s).ports[p]? = some q := before.port.trans (by simpa using here)
  have given : sh.getD p [] = bits := by rw [List.getD_eq_getElem?_getD, shifted]; rfl
  have own : portAtFrameStart (followCutShort s.sync.jump) sh p (portsUpTo p sh s) =
      portFramed p false (q.primed && !followCutShort s.sync.jump) (q.primed && followCutShort s.sync.jump)
        (lanesOf bits) (portsUpTo p sh s) := by
    unfold portAtFrameStart
    rw [clocking_of at' cfg]
    dsimp only
    rw [followFrame_eq _ _ at', given]
  rw [own] at after
  have ran : exec (.frameStart sh) s = .next (frameBegun sh s) := by
    rw [exec_frameStart high runs, frameStarted_away (crossesBoundary_eq_false inside)]
  have counted {y : Nat} (is : y = if (q.primed && followCutShort s.sync.jump) = true then bump q.shortFrames
      else q.shortFrames) :
      (q.primed = true → (∃ length, s.sync.jump = some length ∧ length < 2046 ∧ length < Config.followBitTicks) →
        y = bump q.shortFrames) ∧
      (q.primed = false ∨ ¬(∃ length, s.sync.jump = some length ∧ length < 2046 ∧ length < Config.followBitTicks) →
        y = q.shortFrames) := by
    rw [← followCutShort_iff]
    refine ⟨fun primed short => ?_, fun not => ?_⟩
    · rw [is, primed, short]; rfl
    · rw [is, if_neg]
      rcases not with unprimed | long
      · simp [unprimed]
      · simp [long]
  cases dir with
  | input =>
    obtain ⟨port, -, sources⟩ := portFramed_input (bridge := false) (whole := q.primed && !followCutShort s.sync.jump)
      (short := q.primed && followCutShort s.sync.jump) (lanes := lanesOf bits) at' cfg
    obtain ⟨short, long⟩ := counted rfl
    refine ⟨_, _, ran, after.port.trans port, rfl, rfl, rfl, rfl, rfl, short, long, fun _ => ⟨rfl, fun n c stands mine =>
      ⟨fun primed notShort takes fits => ?_, fun not => ?_⟩⟩, nofun, nofun⟩
    · have first : (portsUpTo p sh s).sources[n]? = some { c with collidedNow := false } := by
        refine before.source ?_ mine
        rw [frameSync_sources other, List.getElem?_map, stands]
        rfl
      refine after.source ?_ mine
      rw [← followCutShort_iff, Bool.not_eq_true] at notShort
      rw [sources, if_pos (by simp [primed, notShort]), List.getElem?_map, first]
      refine congrArg some ((if_pos mine).trans ?_)
      rw [← laneFrame_eq whole fits]
      exact push_follow_takes (c := { c with collidedNow := false }) takes
    · have first : (portsUpTo p sh s).sources[n]? = some { c with collidedNow := false } := by
        refine before.source ?_ mine
        rw [frameSync_sources other, List.getElem?_map, stands]
        rfl
      refine after.source ?_ mine
      rw [← followCutShort_iff] at not
      rw [sources]
      split
      case isTrue moves =>
        simp only [Bool.and_eq_true, Bool.not_eq_true'] at moves
        rw [List.getElem?_map, first]
        refine congrArg some ((if_pos mine).trans (push_other ?_))
        rcases not with unprimed | isShort | states
        · rw [unprimed] at moves; exact absurd moves.1 nofun
        · rw [isShort] at moves; exact absurd moves.2 nofun
        · exact states
      case isFalse => exact first
  | output =>
    obtain ⟨port, -, sinks⟩ := portFramed_output (bridge := false) (whole := q.primed && !followCutShort s.sync.jump)
      (short := q.primed && followCutShort s.sync.jump) (lanes := lanesOf bits) at' cfg
    obtain ⟨short, long⟩ := counted rfl
    have same : (frameSync s).sinks = s.sinks := by simp
    refine ⟨_, _, ran, after.port.trans port, rfl, rfl, rfl, rfl, rfl, short, long, nofun, fun _ none => ?_,
      fun _ n c c' played stands mine fits length single row => ?_⟩
    · refine playedLanes_of_none _ (fun d mem is => ?_)
      obtain ⟨m, there⟩ := List.getElem?_of_mem mem
      have back := before.sink_back there is
      rw [same] at back
      exact none d (List.mem_of_getElem? back) is
    · have first : (portsUpTo p sh s).sinks[n]? = some c := before.sink (by rw [same]; exact stands) mine
      have alone (m : Nat) (d : Sink) (there : (portsUpTo p sh s).sinks[m]? = some d) (is : d.cfg.port = p) : m = n := by
        have back := before.sink_back there is
        rw [same] at back
        exact single m d back is
      have lanes := playedLanes_of_single (bridge := false) (zeroFrame 8) first mine alone
      obtain ⟨plays, rests⟩ := sinkPlayed_row mine row
      have last : (frameBegun sh s).sinks[n]? = some (sinkPlayed p false c) := by
        refine after.sink ?_ (by rw [sinkPlayed_cfg]; exact mine)
        rw [sinks, List.getElem?_map, first]
        rfl
      refine ⟨fun running => ?_, fun resting => ?_⟩
      · obtain ⟨is, out⟩ := plays running
        refine ⟨by rw [last, is], lanes.trans ?_⟩
        rw [out, sinkPlayed_cfg, placeLanes_zeros]
        · split <;> simp [length]
        · split <;> simp [length, fits]
      · obtain ⟨is, out⟩ := rests resting
        refine ⟨by rw [last, is], lanes.trans ?_⟩
        rw [out, sinkPlayed_cfg, placeLanes_zeros _ _ (by simpa using fits)]
        rw [List.length_replicate, ← List.replicate_add, ← List.replicate_add]
        congr 1
        omega

end Sys2Proof.Proofs
end

section
/-! The encodings of cells, items and port frames read back as what was written. -/

namespace Sys2Proof.Proofs
open Sys2Proof.Machine

/-! ### Bits and fields -/

theorem bitsOf_congr {w u v : Nat} (same : ∀ i < w, u.testBit i = v.testBit i) : bitsOf w u = bitsOf w v := by
  induction w with
  | zero => rfl
  | succ w ih => rw [bitsOf, bitsOf, same w (Nat.lt_succ_self w), ih (fun i low => same i (Nat.lt_succ_of_lt low))]

/-- The low bits alone are written. -/
theorem bitsOf_mod (w v : Nat) : bitsOf w (v % 2 ^ w) = bitsOf w v :=
  bitsOf_congr (fun i low => by rw [Nat.testBit_mod_two_pow, decide_eq_true low, Bool.true_and])

/-- A bit string is what its number is written as. -/
theorem bitsOf_natOf (bits : List Bool) : bitsOf bits.length (natOf bits) = bits := by
  induction bits with
  | nil => rfl
  | cons b rest ih =>
    have value : natOf (b :: rest) = 2 ^ rest.length * natOf [b] + natOf rest := by
      rw [Nat.mul_comm]
      exact natOf_append [b] rest
    have places (j : Nat) := Nat.testBit_two_pow_mul_add (natOf [b]) (natOf_lt rest) j
    have first : (natOf (b :: rest)).testBit rest.length = b := by
      rw [value, places, if_neg (Nat.lt_irrefl _), Nat.sub_self]
      cases b <;> rfl
    have others : bitsOf rest.length (natOf (b :: rest)) = bitsOf rest.length (natOf rest) :=
      bitsOf_congr (fun i low => by rw [value, places, if_pos low])
    rw [List.length_cons, bitsOf, first, others, ih]

theorem bitsOf_ofNat {w : Nat} {bits : List Bool} (long : bits.length = w) :
    bitsOf w (BitVec.ofNat w (natOf bits)).toNat = bits := by
  subst long
  rw [BitVec.toNat_ofNat, bitsOf_mod, bitsOf_natOf]

theorem bitsOf_getElem? (w v j : Nat) (low : j < w) : (bitsOf w v)[j]? = some (v.testBit (w - 1 - j)) := by
  induction w generalizing j with
  | zero => omega
  | succ w ih =>
    cases j with
    | zero => rfl
    | succ j => rw [bitsOf, List.getElem?_cons_succ, ih j (by omega)]; congr 2; omega

/-- A field behind another one. -/
theorem field_skip {w off : Nat} (x v : Nat) (rest : List Bool) (behind : w ≤ off) :
    field off x (bitsOf w v ++ rest) = field (off - w) x rest := by
  have after := field_after (off - w) x (bitsOf w v) rest
  rwa [bitsOf_length, Nat.add_sub_cancel' behind] at after

theorem field_whole (w v : Nat) : field 0 w (bitsOf w v) = v % 2 ^ w := by
  have whole := field_here w v []
  rwa [List.append_nil] at whole

theorem ofNat_mod_self {w : Nat} (x : BitVec w) : BitVec.ofNat w (x.toNat % 2 ^ w) = x := by
  rw [Nat.mod_eq_of_lt x.isLt, BitVec.ofNat_toNat, BitVec.setWidth_eq]

theorem padTo_of_length_le {n : Nat} {bits : List Bool} (short : bits.length ≤ n) :
    padTo n bits = bits ++ List.replicate (n - bits.length) false := by
  unfold padTo
  rw [List.take_append, List.take_of_length_le short, List.take_replicate]
  congr 2
  omega

theorem flag_read (f : Bool) : (flagVal f % 2 == 1) = f := by cases f <;> rfl

/-! ### Items -/

/-- The bits of an item position packed from fields that fit into it. -/
theorem bitsOf_pack {fields : List (Nat × Nat)} (fits : (fields.map Prod.fst).sum ≤ 56) :
    bitsOf 56 (Item.bits.pack fields).toNat =
      fieldBits fields ++ List.replicate (56 - (fields.map Prod.fst).sum) false := by
  unfold Item.bits.pack
  rw [bitsOf_ofNat (padTo_length 56 _), padTo_of_length_le (by rw [fieldBits_length]; exact fits), fieldBits_length]

theorem decode_claim {a b c d : Nat} (tag : a < 4096) (first : b < 64) (count : c < 16) (priority : d < 4) :
    decodeItem (Item.claim a b c d).bits = .claim a b c d := by
  unfold decodeItem Item.bits
  rw [bitsOf_pack (by simp)]
  simp [fieldBits, field_here, field_skip, Nat.mod_eq_of_lt, tag, first, count, priority]

theorem decode_offer {a b c d : Nat} (f : Bool) (tag : a < 4096) (first : b < 64) (count : c < 16) (priority : d < 4) :
    decodeItem (Item.offer a b c d f).bits = .offer a b c d f := by
  unfold decodeItem Item.bits
  rw [bitsOf_pack (by simp)]
  simp [fieldBits, field_here, field_skip, Nat.mod_eq_of_lt, tag, first, count, priority, flag_read]

theorem decode_release {a b c : Nat} (tag : a < 4096) (first : b < 64) (count : c < 16) :
    decodeItem (Item.release a b c).bits = .release a b c := by
  unfold decodeItem Item.bits
  rw [bitsOf_pack (by simp)]
  simp [fieldBits, field_here, field_skip, Nat.mod_eq_of_lt, tag, first, count]

theorem decode_leave : decodeItem Item.leave.bits = .leave := by
  unfold decodeItem Item.bits
  rw [bitsOf_pack (by simp)]
  simp [fieldBits, field_here]

theorem decode_probe {a b c d : Nat} (target : a < 32) (reqNo : b < 256) (code : c < 16) (index : d < 64) :
    decodeItem (Item.probe a b c d).bits = .probe a b c d := by
  unfold decodeItem Item.bits
  rw [bitsOf_pack (by simp)]
  simp [fieldBits, field_here, field_skip, Nat.mod_eq_of_lt, target, reqNo, code, index]

theorem decode_command {a b c d : Nat} (target : a < 32) (reqNo : b < 256) (code : c < 16) (index : d < 64) :
    decodeItem (Item.command a b c d).bits = .command a b c d := by
  unfold decodeItem Item.bits
  rw [bitsOf_pack (by simp)]
  simp [fieldBits, field_here, field_skip, Nat.mod_eq_of_lt, target, reqNo, code, index]

theorem decode_answer {a b d e : Nat} (x : Payload) (addressee : a < 32) (reqNo : b < 256) (status : d < 8) (code : e < 16) :
    decodeItem (Item.answer a b d e x).bits = .answer a b d e x := by
  unfold decodeItem Item.bits
  rw [bitsOf_pack (by simp)]
  simp [fieldBits, field_here, field_skip, Nat.mod_eq_of_lt, addressee, reqNo, status, code, field_whole]
  exact ofNat_mod_self x

theorem decode_unknown {k : Nat} (none : k = 0 ∨ 8 ≤ k) (fits : k < 16) :
    decodeItem (Item.unknown k).bits = .unknown k := by
  unfold decodeItem Item.bits
  rw [bitsOf_pack (by simp)]
  simp only [fieldBits, List.append_assoc, field_here, Nat.mod_eq_of_lt (show k < 2 ^ 4 from fits)]
  split
  case h_8 => rfl
  all_goals omega

/-! ### Cells -/

@[simp] theorem string_length (c : Cell) : c.string.length = 210 := by
  simp [Cell.string, Cell.checkedBits, Cell.headerBits, fieldBits]

@[simp] theorem checkedBits_length (c : Cell) : c.checkedBits.length = 193 := by
  simp [Cell.checkedBits, Cell.headerBits, fieldBits]

theorem blocksOf_length {n : Nat} {bits : List Bool} (long : bits.length = 30 * n) :
    (blocksOf n bits).length = 32 * n := by
  induction n generalizing bits with
  | zero => rfl
  | succ n ih =>
    simp only [blocksOf, List.length_cons, List.length_append, List.length_take]
    rw [ih (by simp; omega)]
    omega

theorem unblock_blocksOf {n : Nat} {bits : List Bool} (long : bits.length = 30 * n) :
    unblock n (blocksOf n bits) = some bits := by
  induction n generalizing bits with
  | zero =>
    rw [List.eq_nil_of_length_eq_zero (by omega : bits.length = 0)]
    rfl
  | succ n ih =>
    have block : (bits.take 30).length = 30 := by simp; omega
    rw [blocksOf, unblock, List.drop_left' block, List.take_left' block, ih (by simp; omega), Option.map_some,
      List.take_append_drop]

/-- What the string of a cell spells. -/
theorem readCell_string {c : Cell} (sender : c.sender < 32) (count : c.count < 8) (three : c.items.length = 3) :
    readCell c.string = some c := by
  have covered : c.string.take 193 = c.checkedBits := List.take_left' (checkedBits_length c)
  have check : field 193 16 c.string = (crc16 c.checkedBits).toNat := by
    have after := field_after 0 16 c.checkedBits (bitsOf 16 (crc16 c.checkedBits).toNat ++ [false])
    rw [checkedBits_length, field_here, Nat.mod_eq_of_lt (crc16 c.checkedBits).isLt] at after
    exact after
  have fill : field 209 1 c.string = 0 := by
    have after := field_after 16 1 c.checkedBits (bitsOf 16 (crc16 c.checkedBits).toNat ++ [false])
    rw [checkedBits_length, field_skip _ _ _ (Nat.le_refl _)] at after
    exact after
  unfold readCell
  rw [covered, check, fill, if_pos (by simp)]
  obtain ⟨sender', superframe, count', fresh, items⟩ := c
  obtain ⟨x, y, z, rfl⟩ := List.length_eq_three.mp three
  simp only at sender count
  simp [Cell.string, Cell.checkedBits, Cell.headerBits, Cell.item, fieldBits, field_here, field_skip, Nat.mod_eq_of_lt,
    sender, count, flag_read]
  exact ⟨ofNat_mod_self superframe, ofNat_mod_self x, ofNat_mod_self y, ofNat_mod_self z⟩

theorem decode_encode {c : Cell} (sender : c.sender < 32) (count : c.count < 8) (three : c.items.length = 3) :
    decodeCell (encodeCell c) = some c := by
  have long : c.string.length = 30 * 7 := string_length c
  unfold decodeCell encodeCell
  rw [bitsOf_ofNat (blocksOf_length long), unblock_blocksOf long]
  exact readCell_string sender count three

/-- A window of no carrier is no cell: a block has a dominant tick. -/
theorem decodeCell_zero : decodeCell 0 = none := by
  show (unblock (6 + 1) (bitsOf (222 + 1 + 1) 0)).bind readCell = none
  rw [bitsOf, bitsOf, Nat.zero_testBit, Nat.zero_testBit]
  rfl

theorem classify_encode {c : Cell} (sender : c.sender < 32) (count : c.count < 8) (three : c.items.length = 3) :
    classifyCell (encodeCell c) = .good c := by
  have back := decode_encode sender count three
  have carrier : encodeCell c ≠ 0 := by
    intro zero
    rw [zero, decodeCell_zero] at back
    cases back
  rw [classifyCell, if_neg carrier, back]

/-! ### Lanes -/

@[simp] theorem bitsOfLanes_length (lanes : List Sample) : (bitsOfLanes lanes).length = 24 * lanes.length := by
  simp [bitsOfLanes, List.length_flatMap, Nat.mul_comm]

theorem field_bitsOfLanes {lanes : List Sample} {i : Nat} (later : List Bool) (low : i < lanes.length) :
    field (24 * i) 24 (bitsOfLanes lanes ++ later) = lanes[i].toNat := by
  induction lanes generalizing i with
  | nil => simp at low
  | cons x rest ih =>
    rw [show bitsOfLanes (x :: rest) = bitsOf 24 x.toNat ++ bitsOfLanes rest from rfl, List.append_assoc]
    cases i with
    | zero => rw [Nat.mul_zero, field_here]; exact Nat.mod_eq_of_lt x.isLt
    | succ i =>
      rw [field_skip _ _ _ (by omega), show 24 * (i + 1) - 24 = 24 * i by omega]
      exact ih (Nat.lt_of_succ_lt_succ low)

theorem lanesOf_bitsOfLanes {lanes : List Sample} (later : List Bool) (eight : lanes.length = 8) :
    lanesOf (bitsOfLanes lanes ++ later) = lanes := by
  have given : padTo 192 (bitsOfLanes lanes ++ later) = bitsOfLanes lanes := by
    unfold padTo
    rw [List.append_assoc]
    exact List.take_left' (by simp [eight])
  unfold lanesOf
  rw [given]
  refine List.ext_getElem (by simp [eight]) (fun i low low' => ?_)
  have lane := field_bitsOfLanes [] low'
  rw [List.append_nil] at lane
  simp [lane]

theorem bitsOfLanes_getElem? (lanes : List Sample) (i : Nat) {j : Nat} (low : j < 24) :
    (bitsOfLanes lanes)[24 * i + j]? = (lanes[i]?).map (fun x => x.getLsbD (23 - j)) := by
  induction lanes generalizing i with
  | nil => simp [bitsOfLanes]
  | cons x rest ih =>
    rw [show bitsOfLanes (x :: rest) = bitsOf 24 x.toNat ++ bitsOfLanes rest from rfl]
    cases i with
    | zero =>
      rw [Nat.mul_zero, Nat.zero_add, List.getElem?_append_left (by simpa using low), bitsOf_getElem? _ _ _ low]
      rfl
    | succ i =>
      rw [List.getElem?_append_right (by simp; omega), bitsOf_length, show 24 * (i + 1) + j - 24 = 24 * i + j by omega,
        ih, List.getElem?_cons_succ]

/-- Settles O56: the fields of cells and items follow one another, and lanes are 24 bits each. -/
theorem cellsItemsAndLanesRoundTrip : Obligations.CellsItemsAndLanesRoundTrip := by
  refine ⟨fun c sender count three => ⟨decode_encode sender count three, classify_encode sender count three⟩,
    fun a b c d e f x => ⟨fun tag first count priority => ⟨decode_claim tag first count priority,
      decode_offer f tag first count priority, decode_release tag first count⟩, decode_leave,
      fun target reqNo code index => ⟨decode_probe target reqNo code index, decode_command target reqNo code index⟩,
      fun addressee reqNo status code => decode_answer x addressee reqNo status code, decode_unknown⟩,
    fun lanes later eight => ⟨by simp [eight], lanesOf_bitsOfLanes later eight,
      fun i j _ low => bitsOfLanes_getElem? lanes i low⟩⟩

end Sys2Proof.Proofs
end

section
/-! What an action's signals make of a sink, and the notices they post. -/

namespace Sys2Proof.Proofs
open Sys2Proof.Machine

/-! ### The notice of a signal -/

/-- What a sink is told when an entry is evaluated (R138, R153). -/
def evaluationTold (e : DirEntry) (c : Sink) : Option SinkEvent :=
  if e.active then
    if e.count = c.cfg.channels then some (.bound e.station e.run) else some (.mismatch e.station e.count)
  else none

/-- What a sink is told when it leaves its binding (R139, R153). -/
def leavingTold (c : Sink) : Option SinkEvent := if c.state = .unbound then none else some .unbound

/-- What a sink is told at a signal (R109, R153). -/
def signalTold (ch : Change) (c : Sink) : Option SinkEvent :=
  match ch with
  | .created e => if c.state = .unbound then evaluationTold e c else none
  | .activated e => if c.state = .unbound then evaluationTold e c else none
  | .replaced e => if e.active then evaluationTold e c else leavingTold c
  | .removed => leavingTold c

/-- The management port with the notice of an event of sink `n`, if there is one. -/
def withSinkNotice (n : Nat) (c : Sink) (told : Option SinkEvent) (s : State) : Mgmt :=
  match told with
  | some ev => (notifySink n c ev s).mgmt
  | none => s.mgmt

theorem evaluateSink_mgmt (n : Nat) (c : Sink) (e : DirEntry) (s : State) :
    (evaluateSink n c e s).mgmt = withSinkNotice n c (evaluationTold e c) s := by
  unfold evaluateSink evaluationTold
  split
  · split <;> rfl
  · rfl

theorem signalSink_mgmt (n : Nat) (c : Sink) (ch : Change) (s : State) :
    (signalSink n c ch s).mgmt = withSinkNotice n c (signalTold ch c) s := by
  cases ch with
  | created e | activated e =>
    dsimp only [signalSink, signalTold]
    split
    · exact evaluateSink_mgmt n c e s
    · rfl
  | replaced e =>
    dsimp only [signalSink, signalTold, leavingTold]
    split
    · exact evaluateSink_mgmt n c e _
    · split <;> rfl
  | removed =>
    dsimp only [signalSink, signalTold, leavingTold]
    split <;> rfl

theorem withSinkNotice_length (n : Nat) (c : Sink) (told : Option SinkEvent) (s : State) :
    (withSinkNotice n c told s).notices.length ≤ s.mgmt.notices.length + 1 := by
  cases told with
  | none => exact Nat.le_succ _
  | some ev =>
    show (notify _ s).mgmt.notices.length ≤ _
    rw [notify_notices]
    split
    · simp
    · exact Nat.le_succ _

/-! ### Signals in the order of the sinks -/

/-- The round of one sink in the delivery of signals. -/
def deliverTo (before after : List DirEntry) (n : Nat) (t : State) : State :=
  match t.sinks[n]? with
  | some c => match changeOf (findTag c.cfg.tag before) (findTag c.cfg.tag after) with
    | some ch => signalSink n c ch t
    | none => t
  | none => t

theorem deliverTo_grows (before after : List DirEntry) (n : Nat) (t : State) :
    PostsOnly t (deliverTo before after n t) := by
  unfold deliverTo
  repeat' split
  · exact signalSink_grows _ _ _ t
  · exact .refl t
  · exact .refl t

theorem deliverTo_length (before after : List DirEntry) (n : Nat) (t : State) :
    (deliverTo before after n t).mgmt.notices.length ≤ t.mgmt.notices.length + 1 := by
  unfold deliverTo
  repeat' split
  · rw [signalSink_mgmt]; exact withSinkNotice_length _ _ _ t
  · exact Nat.le_succ _
  · exact Nat.le_succ _

/-- A round leaves the other sinks. -/
theorem deliverTo_other (before after : List DirEntry) {n m : Nat} (other : m ≠ n) (t : State) :
    (deliverTo before after n t).sinks[m]? = t.sinks[m]? := by
  unfold deliverTo
  cases here : t.sinks[n]? with
  | none => rfl
  | some c =>
    dsimp only
    split
    · rw [signalSink_sinks _ here, List.getElem?_set_ne (Ne.symm other)]
    · rfl

/-- With room for a notice of each sink, what a sink is told is posted. -/
theorem deliverSignals_told {before after : List DirEntry} {n : Nat} {c : Sink} {ch : Change} {ev : SinkEvent} {s : State}
    (here : s.sinks[n]? = some c) (change : changeOf (findTag c.cfg.tag before) (findTag c.cfg.tag after) = some ch)
    (told : signalTold ch c = some ev) (room : s.mgmt.notices.length + s.sinks.length ≤ 16) :
    .sink n c.cfg.tag ev ∈ (deliverSignals before after s).mgmt.notices := by
  have inside : n < s.sinks.length := (List.getElem?_eq_some_iff.mp here).1
  have earlier := forEach_through (R := fun t u : State => u.sinks[n]? = t.sinks[n]?) (fun _ => rfl)
    (fun first second => second.trans first) (f := deliverTo before after)
    (fun r other t => deliverTo_other before after (Ne.symm other) t) inside s
  have later := forEach_through (R := PostsOnly) .refl .trans (f := deliverTo before after)
    (fun r _ t => deliverTo_grows before after r t) inside s
  have few := forEach_ind (fun k t => t.mgmt.notices.length ≤ s.mgmt.notices.length + k) (f := deliverTo before after)
    (Nat.le_refl _) (fun k t low => (deliverTo_length before after k t).trans (Nat.succ_le_succ low)) n
  have here' := earlier.1.trans here
  refine later.2.1.subset ?_
  have round : (deliverTo before after n (forEach n (deliverTo before after) s)).mgmt =
      (notifySink n c ev (forEach n (deliverTo before after) s)).mgmt := by
    unfold deliverTo at here' ⊢
    rw [here']
    dsimp only
    rw [change]
    dsimp only
    rw [signalSink_mgmt, told]
    rfl
  rw [round]
  show _ ∈ (notify _ _).mgmt.notices
  rw [notify_notices, if_pos (by omega)]
  simp

/-! ### One action -/

section
variable {f : State → State} {n : Nat} {c : Sink} {s : State}

theorem action_sink (here : (f s).sinks[n]? = some c) :
    (action f s).sinks[n]? = some (sinkAfter s.alloc.dir (f s).alloc.dir c) := by
  rw [action_sinks, List.getElem?_map, here, Option.map_some]

/-- A sink whose tag's entry changes takes the signal, and is told. -/
theorem action_signalled {ch : Change} (here : (f s).sinks[n]? = some c)
    (change : changeOf (findTag c.cfg.tag s.alloc.dir) (findTag c.cfg.tag (f s).alloc.dir) = some ch) :
    (action f s).sinks[n]? = some (sinkSignalled ch c) ∧
    ∀ ev, signalTold ch c = some ev → (f s).mgmt.notices.length + (f s).sinks.length ≤ 16 →
      .sink n c.cfg.tag ev ∈ (action f s).mgmt.notices := by
  refine ⟨?_, fun ev told room => deliverSignals_told here change told room⟩
  rw [action_sink here, sinkAfter, change]

theorem action_unsignalled (here : (f s).sinks[n]? = some c)
    (same : changeOf (findTag c.cfg.tag s.alloc.dir) (findTag c.cfg.tag (f s).alloc.dir) = none) :
    (action f s).sinks[n]? = some c := by
  rw [action_sink here, sinkAfter, same]

end

/-! ### The evaluation of an entry -/

theorem sinkEvaluated_bound {e : DirEntry} {c : Sink} (active : e.active = true) (count : c.cfg.channels = e.count) :
    sinkEvaluated e c = BoundTo e c := by
  rw [sinkEvaluated, if_pos active, if_pos count.symm]
  rfl

theorem sinkEvaluated_mismatch {e : DirEntry} {c : Sink} (active : e.active = true) (count : c.cfg.channels ≠ e.count) :
    sinkEvaluated e c = { c with state := .mismatch, run := none } := by
  rw [sinkEvaluated, if_pos active, if_neg (Ne.symm count)]

theorem evaluationTold_bound {e : DirEntry} {c : Sink} (active : e.active = true) (count : c.cfg.channels = e.count) :
    evaluationTold e c = some (.bound e.station ⟨e.first, e.count⟩) := by
  rw [evaluationTold, if_pos active, if_pos count.symm]
  rfl

theorem evaluationTold_mismatch {e : DirEntry} {c : Sink} (active : e.active = true) (count : c.cfg.channels ≠ e.count) :
    evaluationTold e c = some (.mismatch e.station e.count) := by
  rw [evaluationTold, if_pos active, if_neg (Ne.symm count)]

/-- What is said of a sink at which an entry is evaluated. -/
theorem evaluated_cases {e : DirEntry} {d : Sink} {after : Option Sink} {posted : SinkEvent → Prop}
    (sink : after = some (sinkEvaluated e d)) (told : ∀ ev, evaluationTold e d = some ev → posted ev) :
    (e.active = false → after = some d) ∧
    (e.active = true → d.cfg.channels = e.count → after = some (BoundTo e d) ∧ posted (.bound e.station ⟨e.first, e.count⟩)) ∧
    (e.active = true → d.cfg.channels ≠ e.count → after = some { d with state := .mismatch, run := none } ∧
      posted (.mismatch e.station e.count)) := by
  refine ⟨fun inactive => ?_, fun active count => ⟨?_, told _ (evaluationTold_bound active count)⟩,
    fun active count => ⟨?_, told _ (evaluationTold_mismatch active count)⟩⟩
  · rw [sink, sinkEvaluated, if_neg (by simp [inactive])]
  · rw [sink, sinkEvaluated_bound active count]
  · rw [sink, sinkEvaluated_mismatch active count]

/-- The signal of a replaced entry: the sink is evaluated anew from UNBOUND, and told that it leaves if it is not told more. -/
theorem replaced_told {e : DirEntry} {c : Sink} :
    (∀ ev, evaluationTold e (Unbound c) = some ev → signalTold (.replaced e) c = some ev) ∧
    (e.active = false → c.state ≠ .unbound → signalTold (.replaced e) c = some .unbound) := by
  refine ⟨fun ev told => ?_, fun inactive bound => ?_⟩
  · cases active : e.active with
    | false => simp [evaluationTold, active] at told
    | true => exact (if_pos active).trans told
  · simp [signalTold, leavingTold, inactive, bound]

theorem findTag_removeRun (use : SlotUse) (e : DirEntry) (s : State) :
    findTag e.tag (removeRun use e s).alloc.dir = none :=
  findTag_eq_none.mpr (fun d mem => by simpa using (List.mem_filter.mp mem).2)

/-- Settles O53: the change of the sink's tag decides its signal. -/
theorem sinksFollowTheDirectory : Obligations.SinksFollowTheDirectory := by
  refine ⟨fun f n c s here => ⟨fun same => ?unchanged, fun e was is => ⟨fun unbound => ?created, fun bound => ?kept⟩,
    fun b e was is => ⟨fun station first count active => ?same, fun station first count pending active => ⟨fun unbound => ?activated,
      fun bound => ?keptActive⟩, fun differs => ?replaced⟩, fun b was is => ?removed⟩,
    fun x tag a b n e c s found station here carries => ?release⟩
  case unchanged =>
    refine action_unsignalled here ?_
    rw [same]
    cases findTag c.cfg.tag s.alloc.dir with
    | none => rfl
    | some b => simp [changeOf]
  case created =>
    obtain ⟨sink, told⟩ := action_signalled (ch := .created e) here (by rw [was, is]; rfl)
    rw [sinkSignalled, if_pos unbound] at sink
    exact evaluated_cases sink (fun ev say => told ev (by rw [signalTold, if_pos unbound, say]))
  case kept =>
    obtain ⟨sink, -⟩ := action_signalled (ch := .created e) here (by rw [was, is]; rfl)
    rwa [sinkSignalled, if_neg bound] at sink
  case same =>
    exact action_unsignalled here (by rw [was, is]; simp [changeOf, station, first, count, active])
  case activated =>
    obtain ⟨sink, told⟩ := action_signalled (ch := .activated e) here
      (by rw [was, is]; simp [changeOf, station, first, count, pending, active])
    rw [sinkSignalled, if_pos unbound] at sink
    exact evaluated_cases sink (fun ev say => told ev (by rw [signalTold, if_pos unbound, say]))
  case keptActive =>
    obtain ⟨sink, -⟩ := action_signalled (ch := .activated e) here
      (by rw [was, is]; simp [changeOf, station, first, count, pending, active])
    rwa [sinkSignalled, if_neg bound] at sink
  case replaced =>
    obtain ⟨sink, told⟩ := action_signalled (ch := .replaced e) here (by
      rw [was, is]
      unfold changeOf
      by_cases moved : b.station ≠ e.station ∨ b.first ≠ e.first ∨ b.count ≠ e.count
      · exact if_pos moved
      · have turned : b.active = true ∧ e.active = false := by tauto
        refine (if_neg moved).trans ?_
        simp [turned])
    obtain ⟨evaluates, leaves⟩ := @replaced_told e c
    exact ⟨evaluated_cases sink (fun ev say => told ev (evaluates ev say)),
      fun inactive bound => told _ (leaves inactive bound)⟩
  case removed =>
    obtain ⟨sink, told⟩ := action_signalled (ch := .removed) here (by rw [was, is]; rfl)
    exact ⟨sink, fun bound => told _ (by simp [signalTold, leavingTold, bound])⟩
  case release =>
    obtain ⟨-, tagE⟩ := findTag_mem found
    have freed : heardRelease x tag s = removeRun .free e s := by
      rw [heardRelease, found]
      exact if_pos station
    have gone : findTag c.cfg.tag (heardRelease x tag s).alloc.dir = none := by
      rw [freed, carries, ← tagE]
      exact findTag_removeRun .free e s
    exact (action_signalled (ch := .removed) (by rw [freed]; simpa using here)
      (by rw [gone, carries, found]; rfl)).1

end Sys2Proof.Proofs
end

section
/-! How an image is judged, and what its acceptance leaves. -/

namespace Sys2Proof.Proofs
open Sys2Proof.Machine

/-! ### Tests made in order -/

/-- The reason of the first test that fails. -/
def firstFailing : List (FaultReason × Bool) → Option FaultReason
  | [] => none
  | (reason, fails) :: later => if fails then some reason else firstFailing later

/-- Each test fails just where `F` says, if the tests before it do not. -/
def Judges (F : FaultReason → Prop) : List (FaultReason × Bool) → Prop
  | [] => True
  | (reason, fails) :: later => (fails = true ↔ F reason) ∧ (fails = false → Judges F later)

theorem firstFailing_eq_none_iff {F : FaultReason → Prop} {tests : List (FaultReason × Bool)} (judges : Judges F tests) :
    firstFailing tests = none ↔ ∀ r ∈ tests.map Prod.fst, ¬F r := by
  induction tests with
  | nil => simp [firstFailing]
  | cons test later ih =>
    obtain ⟨reason, fails⟩ := test
    obtain ⟨iff, rest⟩ := judges
    rw [List.map_cons, List.forall_mem_cons, ← iff]
    cases fails with
    | true => simp [firstFailing]
    | false => simpa [firstFailing] using ih (rest rfl)

theorem firstFailing_mem {tests : List (FaultReason × Bool)} {reason : FaultReason} (first : firstFailing tests = some reason) :
    reason ∈ tests.map Prod.fst := by
  induction tests with
  | nil => cases first
  | cons test later ih =>
    obtain ⟨r, fails⟩ := test
    cases fails with
    | true => cases first; exact List.mem_cons_self
    | false => exact List.mem_cons_of_mem _ (ih first)

theorem firstFailing_eq_some_iff {F : FaultReason → Prop} {tests : List (FaultReason × Bool)} (judges : Judges F tests)
    (single : (tests.map Prod.fst).Nodup) {earlier later : List FaultReason} {reason : FaultReason}
    (order : tests.map Prod.fst = earlier ++ reason :: later) :
    firstFailing tests = some reason ↔ F reason ∧ ∀ r ∈ earlier, ¬F r := by
  induction tests generalizing earlier with
  | nil => exact absurd order (by simp)
  | cons test rest ih =>
    obtain ⟨r, fails⟩ := test
    obtain ⟨iff, restJudges⟩ := judges
    obtain ⟨only, single'⟩ := List.nodup_cons.mp single
    cases earlier with
    | nil =>
      obtain ⟨rfl, -⟩ := List.cons.inj order
      rw [← iff]
      cases fails with
      | true => simp [firstFailing]
      | false => simpa [firstFailing] using fun first => only (firstFailing_mem first)
    | cons r' earlier =>
      obtain ⟨rfl, order'⟩ := List.cons.inj order
      rw [List.forall_mem_cons, ← iff]
      cases fails with
      | true =>
        have other : r ≠ reason := fun same => only (by rw [order', same]; simp)
        simp [firstFailing, other]
      | false => simpa [firstFailing] using ih (restJudges rfl) single' order'

/-! ### The layout -/

theorem imageWord_eq (bytes : List Byte) (i : Nat) : imageWord bytes i = WordOf bytes i := by
  unfold imageWord
  rw [Nat.mul_comm]
  rfl

/-- The values of an image are read from their places (R191). -/
theorem readImage_laidOut (bytes : List Byte) : LaidOutAs bytes (readImage bytes) := by
  have ranged {α : Type} {f : Nat → α} {k n : Nat} (low : n < k) : ((List.range k).map f)[n]? = some (f n) := by
    rw [List.getElem?_map, List.getElem?_range low, Option.map_some]
  refine ⟨rfl, ?_, by simp [readImage, imageManagers]; rfl, fun i low => ranged low, rfl, fun n low => ranged low,
    by simp [readImage]; rfl, fun n low => ?_, by simp [readImage]; rfl, fun n low => ?_⟩
  · simp [readImage]; rfl
  · refine (ranged low).trans (congrArg some ?_)
    rw [sourceRecord, imageWord_eq]
    rfl
  · refine (ranged low).trans (congrArg some ?_)
    rw [sinkRecord, imageWord_eq]
    rfl

/-! ### The tests of R180 -/

section
variable (bytes : List Byte)

/-- The eight tests in their order. -/
def imageTests : List (FaultReason × Bool) :=
  let im := readImage bytes
  [(.badLength, !lengthInRange (imageByte bytes 1) || imageByte bytes 1 != impliedLength bytes),
   (.badCheck, (imageCrc bytes).toNat != imageCheck bytes),
   (.badId, decide (31 < im.stationId) || im.managers.any (fun m => decide (31 < m))),
   (.countRange, countRangeFails bytes im),
   (.dupTag, hasRepeat (im.sources.map SourceConfig.tag) || im.sources.any (fun r => r.tag == 0)
      || im.sinks.any (fun r => r.tag == 0)),
   (.portConflict, im.sources.any (fun r => imageDirection im r.port == some .output)
      || im.sinks.any (fun r => imageDirection im r.port == some .input)),
   (.laneOverflow, im.sources.any (fun r => decide (8 < r.firstLane + r.channels))
      || im.sinks.any (fun r => decide (8 < r.firstLane + r.channels))),
   (.laneOverlap, laneOverlapIn (im.sources.map (fun r => (r.port, r.firstLane, r.channels)))
      || laneOverlapIn (im.sinks.map (fun r => (r.port, r.firstLane, r.channels))))]

theorem validateImage_eq : validateImage bytes = firstFailing (imageTests bytes) := rfl

theorem any_sources (P : SourceConfig → Bool) :
    (readImage bytes).sources.any P = true ↔ ∃ n, n < ByteOf bytes 17 ∧ P (sourceRecord bytes n) = true := by
  simp only [readImage, List.any_map, List.any_eq_true, List.mem_range]
  rfl

theorem any_sinks (P : SinkConfig → Bool) :
    (readImage bytes).sinks.any P = true ↔ ∃ n, n < ByteOf bytes 18 ∧ P (sinkRecord bytes n) = true := by
  simp only [readImage, List.any_map, List.any_eq_true, List.mem_range]
  rfl

theorem any_range (k : Nat) (P : Nat → Bool) : (List.range k).any P = true ↔ ∃ n, n < k ∧ P n = true := by
  simp only [List.any_eq_true, List.mem_range]

theorem byteBits_eq (l : List Byte) : byteBits l = l.flatMap (fun x => bitsOf 8 x.toNat) := by
  induction l with
  | nil => rfl
  | cons b rest ih => rw [byteBits, ih, List.flatMap_cons]

theorem badLength_iff : (!lengthInRange (imageByte bytes 1) || imageByte bytes 1 != impliedLength bytes) = true ↔
    FailsTest bytes .badLength := by
  show _ ↔ 160 < imageByte bytes 1 ∨ imageByte bytes 1 < 26 ∨
    imageByte bytes 1 ≠ 26 + 8 * (imageByte bytes 17 + imageByte bytes 18)
  simp only [lengthInRange, impliedLength, imageSources, imageSinks, Bool.or_eq_true, Bool.not_eq_true', bne_iff_ne,
    Bool.and_eq_false_iff, decide_eq_false_iff_not]
  omega

theorem badCheck_iff : ((imageCrc bytes).toNat != imageCheck bytes) = true ↔ FailsTest bytes .badCheck := by
  rw [bne_iff_ne, imageCrc, byteBits_eq, imageCheck, imageWord_eq]
  rfl

theorem badId_iff : (decide (31 < (readImage bytes).stationId) ||
    (readImage bytes).managers.any (fun m => decide (31 < m))) = true ↔ FailsTest bytes .badId := by
  simp only [readImage, imageManagers, List.any_map, Bool.or_eq_true, any_range, Function.comp_apply, decide_eq_true_eq]
  exact or_congr decide_eq_true_iff Iff.rfl

theorem countRange_iff : countRangeFails bytes (readImage bytes) = true ↔ FailsTest bytes .countRange := by
  unfold countRangeFails FailsTest
  simp only [Bool.or_eq_true, any_sources, any_sinks, any_range, decide_eq_true_eq, beq_iff_eq, sourceRecord, sinkRecord,
    imageWord_eq, portCodes, imageSources, imageSinks, sinkOffset, imageByte]
  grind

/-! The tests of pairs of records. -/

theorem hasRepeat_iff (l : List Nat) : hasRepeat l = true ↔ ¬l.Pairwise (· ≠ ·) := by
  induction l with
  | nil => simp [hasRepeat]
  | cons x rest ih =>
    rw [hasRepeat, Bool.or_eq_true, ih, List.pairwise_cons, not_and_or]
    refine or_congr ?_ Iff.rfl
    simp

theorem laneOverlapIn_iff (l : List (Nat × Nat × Nat)) :
    laneOverlapIn l = true ↔ ¬l.Pairwise (fun a b => lanesShared a.1 a.2.1 a.2.2 b.1 b.2.1 b.2.2 = false) := by
  induction l with
  | nil => simp [laneOverlapIn]
  | cons x rest ih =>
    rw [laneOverlapIn, Bool.or_eq_true, ih, List.pairwise_cons, not_and_or]
    refine or_congr ?_ Iff.rfl
    simp

/-- A property of some pair of records, the earlier one first. -/
theorem not_pairwise_records {α : Type} {R : α → α → Prop} {f : Nat → α} {k : Nat} :
    ¬((List.range k).map f).Pairwise R ↔ ∃ m n, m < n ∧ n < k ∧ ¬R (f m) (f n) := by
  rw [List.pairwise_map, List.pairwise_iff_getElem]
  simp only [List.length_range, List.getElem_range, not_forall]
  constructor
  · rintro ⟨m, n, -, low, before, holds⟩
    exact ⟨m, n, before, low, holds⟩
  · rintro ⟨m, n, before, low, holds⟩
    exact ⟨m, n, before.trans low, low, before, holds⟩

/-- Lane ranges that are not empty overlap just where they hold a common lane. -/
theorem lanesShared_iff {p f c p' f' c' : Nat} (some : 0 < c) (some' : 0 < c') :
    lanesShared p f c p' f' c' = true ↔ ShareALane p f c p' f' c' := by
  simp only [lanesShared, Bool.and_eq_true, beq_iff_eq, decide_eq_true_eq]
  constructor
  · rintro ⟨⟨port, low⟩, high⟩
    exact ⟨port, max f f', by omega⟩
  · rintro ⟨port, lane, inside⟩
    exact ⟨⟨port, by omega⟩, by omega⟩

variable {bytes}

/-- What test 4 leaves of the records (R180). -/
structure InRange (bytes : List Byte) : Prop where
  source : ∀ n, n < ByteOf bytes 17 → 0 < (sourceRecord bytes n).channels ∧ (sourceRecord bytes n).port < 4
  sink : ∀ n, n < ByteOf bytes 18 → 0 < (sinkRecord bytes n).channels ∧ (sinkRecord bytes n).port < 4
  direction : ∀ n, n < 4 → ByteOf bytes (9 + 2 * n) ≤ 1

theorem inRange_of_passes (pass : countRangeFails bytes (readImage bytes) = false) : InRange bytes := by
  have passes := pass
  unfold countRangeFails at passes
  simp only [← Bool.not_eq_true, any_sources, any_sinks, any_range, decide_eq_true_eq, beq_iff_eq,
    portCodes, Bool.or_eq_true, not_exists, not_and, not_or] at passes
  obtain ⟨⟨⟨⟨-, sources⟩, sinks⟩, -⟩, ports⟩ := passes
  exact ⟨fun n low => by have := sources n low; omega, fun n low => by have := sinks n low; omega,
    fun n low => Nat.not_lt.mp (fun high => (ports n low).1 (decide_eq_true high))⟩

theorem dupTag_iff : (hasRepeat ((readImage bytes).sources.map SourceConfig.tag) ||
    (readImage bytes).sources.any (fun r => r.tag == 0) || (readImage bytes).sinks.any (fun r => r.tag == 0)) = true ↔
    FailsTest bytes .dupTag := by
  have repeats : hasRepeat ((readImage bytes).sources.map SourceConfig.tag) = true ↔
      ∃ m n, m < n ∧ n < ByteOf bytes 17 ∧ (sourceRecord bytes m).tag = (sourceRecord bytes n).tag := by
    rw [hasRepeat_iff, show (readImage bytes).sources = (List.range (ByteOf bytes 17)).map (sourceRecord bytes) from rfl,
      List.map_map, not_pairwise_records]
    simp
  simp only [Bool.or_eq_true, any_sources, any_sinks, repeats, beq_iff_eq, sourceRecord, sinkRecord, imageWord_eq, or_assoc]
  rfl

theorem imageDirection_eq {n : Nat} (low : n < 4) :
    imageDirection (readImage bytes) n = some (directionOf (ByteOf bytes (9 + 2 * n))) := by
  simp only [imageDirection, readImage, List.getElem?_map, List.getElem?_range low, Option.map_some]
  rfl

theorem portConflict_iff (inRange : InRange bytes) :
    ((readImage bytes).sources.any (fun r => imageDirection (readImage bytes) r.port == some .output) ||
      (readImage bytes).sinks.any (fun r => imageDirection (readImage bytes) r.port == some .input)) = true ↔
    FailsTest bytes .portConflict := by
  rw [Bool.or_eq_true, any_sources, any_sinks]
  refine or_congr (exists_congr fun n => and_congr_right fun low => ?_)
    (exists_congr fun n => and_congr_right fun low => ?_)
  · show _ ↔ ByteOf bytes (9 + 2 * (sourceRecord bytes n).port) = 1
    rw [imageDirection_eq (inRange.source n low).2, directionOf]
    split <;> simp [*]
  · show _ ↔ ByteOf bytes (9 + 2 * (sinkRecord bytes n).port) = 0
    have code := inRange.direction _ (inRange.sink n low).2
    rw [imageDirection_eq (inRange.sink n low).2, directionOf]
    split
    case isTrue is => simp [is]
    case isFalse other => simp; omega

theorem laneOverflow_iff : ((readImage bytes).sources.any (fun r => decide (8 < r.firstLane + r.channels)) ||
    (readImage bytes).sinks.any (fun r => decide (8 < r.firstLane + r.channels))) = true ↔
    FailsTest bytes .laneOverflow := by
  rw [Bool.or_eq_true, any_sources, any_sinks]
  simp only [decide_eq_true_eq]
  rfl

theorem laneOverlap_iff (inRange : InRange bytes) :
    (laneOverlapIn ((readImage bytes).sources.map (fun r => (r.port, r.firstLane, r.channels))) ||
      laneOverlapIn ((readImage bytes).sinks.map (fun r => (r.port, r.firstLane, r.channels)))) = true ↔
    FailsTest bytes .laneOverlap := by
  rw [Bool.or_eq_true, laneOverlapIn_iff, laneOverlapIn_iff,
    show (readImage bytes).sources = (List.range (ByteOf bytes 17)).map (sourceRecord bytes) from rfl,
    show (readImage bytes).sinks = (List.range (ByteOf bytes 18)).map (sinkRecord bytes) from rfl,
    List.map_map, List.map_map, not_pairwise_records, not_pairwise_records]
  simp only [Function.comp_apply, Bool.not_eq_false]
  refine or_congr (exists₂_congr fun m n => and_congr_right fun before => and_congr_right fun low => ?_)
    (exists₂_congr fun m n => and_congr_right fun before => and_congr_right fun low => ?_)
  · exact lanesShared_iff (inRange.source m (before.trans low)).1 (inRange.source n low).1
  · exact lanesShared_iff (inRange.sink m (before.trans low)).1 (inRange.sink n low).1

/-- Tests 6 and 8 say what R180 says of records that test 4 has passed. -/
theorem imageTests_judge : Judges (FailsTest bytes) (imageTests bytes) :=
  ⟨badLength_iff bytes, fun _ => ⟨badCheck_iff bytes, fun _ => ⟨badId_iff bytes, fun _ => ⟨countRange_iff bytes, fun pass =>
    ⟨dupTag_iff, fun _ => ⟨portConflict_iff (inRange_of_passes pass), fun _ => ⟨laneOverflow_iff, fun _ =>
      ⟨laneOverlap_iff (inRange_of_passes pass), fun _ => trivial⟩⟩⟩⟩⟩⟩⟩⟩

theorem imageTests_single : ((imageTests bytes).map Prod.fst).Nodup := by
  show List.Nodup [FaultReason.badLength, .badCheck, .badId, .countRange, .dupTag, .portConflict, .laneOverflow,
    .laneOverlap]
  decide

theorem judgedInOrder (bytes : List Byte) : JudgedInOrder bytes :=
  ⟨firstFailing_eq_none_iff imageTests_judge,
    fun _ _ _ order => firstFailing_eq_some_iff imageTests_judge imageTests_single order,
    readImage_laidOut bytes⟩

end

/-! ### Acceptance -/

/-- Zeros played onto zeros are zeros. -/
theorem placeLanes_zeros_replicate (k n at0 : Nat) :
    placeLanes at0 (List.replicate k 0) (List.replicate n 0) = List.replicate n 0 := by
  induction k generalizing at0 with
  | zero => rfl
  | succ k ih =>
    rw [List.replicate_succ, placeLanes, List.set_replicate_self]
    exact ih (at0 + 1)

/-- Sinks that do not run play silence. -/
theorem playedLanes_of_cold (p : Nat) (bridge : Bool) (sinks : List Sink) (idle : ∀ c ∈ sinks, c.state ≠ .running) :
    playedLanes p bridge sinks (zeroFrame 8) = zeroFrame 8 := by
  unfold playedLanes
  induction sinks with
  | nil => rfl
  | cons c rest ih =>
    rw [List.foldl_cons]
    have silent : sinkPlayed p bridge c = c :=
      if_neg (fun both => idle c List.mem_cons_self both.2)
    have zeros : (if c.cfg.port = p then placeLanes (sinkPlayed p bridge c).cfg.firstLane
        (sinkPlayed p bridge c).lanes (zeroFrame 8) else zeroFrame 8) = zeroFrame 8 := by
      split
      · rw [silent, Sink.lanes, if_neg (fun both => idle c List.mem_cons_self both.1)]
        exact placeLanes_zeros_replicate _ _ _
      · rfl
    rw [zeros]
    exact ih (fun d mem => idle d (List.mem_cons_of_mem _ mem))

/-- What the first strobe makes of a port. -/
def firstStrobed (q : Port) : Port :=
  match q.cfg with
  | some ⟨.input, .follow⟩ => { q with primed := true }
  | some ⟨.output, .follow⟩ => { q with primed := true, lanesOut := zeroFrame 8 }
  | _ => q

theorem clocking_eq {p : Nat} {q : Port} {s : State} (here : s.ports[p]? = some q) :
    s.clocking p = q.cfg.map PortConfig.clocking := by
  rw [State.clocking, here, Option.bind_some]

/-- The round of port `p` at the first frame start. -/
theorem firstStrobe_round {p : Nat} {s : State} {sources : List SourceConfig} {sinks : List SinkConfig}
    (cold : s.sources = sources.map Source.cold ∧ s.sinks = sinks.map Sink.cold) :
    let t := if s.clocking p = some .follow then followFrame false p [] s else s
    (t.sources = sources.map Source.cold ∧ t.sinks = sinks.map Sink.cold) ∧
    ∀ m, t.ports[m]? = if m = p then (s.ports[p]?).map firstStrobed else s.ports[m]? := by
  obtain ⟨idle, unbound⟩ := cold
  cases here : s.ports[p]? with
  | none =>
    have unknown : s.clocking p ≠ some .follow := by simp [State.clocking, here]
    rw [if_neg unknown]
    refine ⟨⟨idle, unbound⟩, fun m => ?_⟩
    split
    case isTrue same => rw [same]; exact here
    case isFalse => rfl
  | some q =>
    have others (m : Nat) (other : m ≠ p) : (followFrame false p [] s).ports[m]? = s.ports[m]? := by
      rw [followFrame_eq false [] here]
      exact portFramed_other other
    have rest (is : s.clocking p ≠ some .follow) (same : firstStrobed q = q) :
        let t := if s.clocking p = some .follow then followFrame false p [] s else s
        (t.sources = sources.map Source.cold ∧ t.sinks = sinks.map Sink.cold) ∧
        ∀ m, t.ports[m]? = if m = p then (some q).map firstStrobed else s.ports[m]? := by
      rw [if_neg is, Option.map_some, same]
      refine ⟨⟨idle, unbound⟩, fun m => ?_⟩
      split
      case isTrue at' => rw [at']; exact here
      case isFalse => rfl
    match cfg : q.cfg with
    | none => exact rest (by simp [clocking_eq here, cfg]) (by simp [firstStrobed, cfg])
    | some ⟨_, .bridge⟩ => exact rest (by simp [clocking_eq here, cfg]) (by simp [firstStrobed, cfg])
    | some ⟨.input, .follow⟩ =>
      obtain ⟨port, sinks', sources'⟩ := portFramed_input (bridge := false) (whole := q.primed && !false)
        (short := q.primed && false) (lanes := lanesOf []) here cfg
      have takes : (portFramed p false (q.primed && !false) (q.primed && false) (lanesOf []) s).sources = s.sources := by
        rw [sources']
        split
        · refine (List.map_congr_left (fun c mem => ?_)).trans (List.map_id _)
          rw [idle] at mem
          obtain ⟨r, -, rfl⟩ := List.mem_map.mp mem
          split
          · exact push_other ⟨nofun, nofun⟩
          · rfl
        · rfl
      rw [if_pos (by simp [clocking_eq here, cfg])]
      refine ⟨⟨?_, ?_⟩, fun m => ?_⟩
      · rw [followFrame_eq false [] here, takes, idle]
      · rw [followFrame_eq false [] here, sinks', unbound]
      · split
        case isTrue at' =>
          rw [at', followFrame_eq false [] here, port]
          simp [firstStrobed, cfg]
        case isFalse other => exact others m other
    | some ⟨.output, .follow⟩ =>
      obtain ⟨port, sources', sinks'⟩ := portFramed_output (bridge := false) (whole := q.primed && !false)
        (short := q.primed && false) (lanes := lanesOf []) here cfg
      have still (c : Sink) (mem : c ∈ s.sinks) : c.state ≠ .running := by
        rw [unbound] at mem
        obtain ⟨r, -, rfl⟩ := List.mem_map.mp mem
        nofun
      rw [if_pos (by simp [clocking_eq here, cfg])]
      refine ⟨⟨?_, ?_⟩, fun m => ?_⟩
      · rw [followFrame_eq false [] here, sources', idle]
      · rw [followFrame_eq false [] here, sinks', ← unbound]
        refine (List.map_congr_left (fun c mem => ?_)).trans (List.map_id _)
        exact if_neg (fun both => still c mem both.2)
      · split
        case isTrue at' =>
          rw [at', followFrame_eq false [] here, port, playedLanes_of_cold p false s.sinks still]
          simp [firstStrobed, cfg]
        case isFalse other => exact others m other

theorem firstFrameStart_tables {s : State} {sources : List SourceConfig} {sinks : List SinkConfig}
    (cold : s.sources = sources.map Source.cold ∧ s.sinks = sinks.map Sink.cold) :
    ((firstFrameStart s).sources = sources.map Source.cold ∧ (firstFrameStart s).sinks = sinks.map Sink.cold) ∧
    ∀ m, (firstFrameStart s).ports[m]? = if m < 4 then (s.ports[m]?).map firstStrobed else s.ports[m]? := by
  refine ⟨forEach_inv (fun t => t.sources = sources.map Source.cold ∧ t.sinks = sinks.map Sink.cold) 4 _ s cold
      (fun p t ok => (firstStrobe_round ok).1), fun m => ?_⟩
  refine forEach_at (fun t m => t.ports[m]?) (fun t => t.sources = sources.map Source.cold ∧ t.sinks = sinks.map Sink.cold)
    (G := fun _ => firstStrobed) (fun p t ok => (firstStrobe_round ok).1) (fun p t m ok => ?_) 4 s cold m
  exact (firstStrobe_round ok).2 m

/-- What acceptance of an image leaves (R181). -/
theorem acceptImage_acceptedAs (o : Origin) {im : Image} {s : State} (ports : s.ports.length = 4)
    (records : im.ports.length = 4) : AcceptedAs o im s (acceptImage o im s) := by
  obtain ⟨pending, resetLow, loader, sync, line, rx, tx, peers, alloc, req, mgmt⟩ := acceptImage_frame o im s
  obtain ⟨⟨sources, sinks⟩, strobed⟩ := firstFrameStart_tables (s := (configure o im s).modSync
    (fun y => { y.toListen with tick := 0, frameIndex := 0, superframe := 0 })) (sources := im.sources) (sinks := im.sinks)
    ⟨rfl, rfl⟩
  have records4 : (List.zipWith Port.accept im.ports s.ports).length = 4 := by simp [ports, records]
  have accepted : (acceptImage o im s).ports = (List.zipWith Port.accept im.ports s.ports).map firstStrobed := by
    refine List.ext_getElem? (fun m => (strobed m).trans ?_)
    rw [List.getElem?_map]
    split
    case isTrue => rfl
    case isFalse high =>
      have none : (List.zipWith Port.accept im.ports s.ports)[m]? = none := List.getElem?_eq_none (by omega)
      rw [none]
      exact none
  refine ⟨loader, by rw [sync]; rfl, by rw [sync], by rw [sync], by rw [sync], by rw [sync]; rfl, by rw [sync]; rfl, peers,
    sources, sinks, ?_, fun p q here => ?_, by rw [mgmt], by rw [mgmt], line, rx, tx, alloc, req, pending, resetLow⟩
  · rw [accepted, List.length_map, records4]
  · rw [accepted, List.getElem?_map, List.getElem?_zipWith] at here
    obtain ⟨d, both, rfl⟩ := Option.map_eq_some_iff.mp here
    cases record : im.ports[p]? with
    | none => simp [record] at both
    | some cfg =>
      cases before : s.ports[p]? with
      | none => simp [record, before] at both
      | some q =>
        simp only [record, before, Option.some.injEq] at both
        subst both
        refine ⟨cfg, rfl, ?_⟩
        obtain ⟨direction, clocking⟩ := cfg
        cases direction <;> cases clocking <;> exact ⟨rfl, rfl, rfl, rfl, rfl⟩

/-! ### The two ways an image comes in -/

theorem acceptedAs_respond {o : Origin} {im : Image} {s t : State} (st : LmpStatus) (body : List Byte)
    (accepted : AcceptedAs o im s t) : AcceptedAs o im s (respond st body t) := accepted

theorem rejectedAs_respond {o : Origin} {reason : FaultReason} {s t : State} (st : LmpStatus) (body : List Byte)
    (rejected : RejectedAs o reason s t) : RejectedAs o reason s (respond st body t) := rejected

/-- Settles O7: the boot image is the bytes that were read. -/
theorem bootReadJudgesTheImage : Obligations.BootReadJudgesTheImage := by
  intro rest length s high boot two long ports
  have image : bootImage length rest = 0x5C#8 :: BitVec.ofNat 8 length :: rest := by
    rw [bootImage, List.take_of_length_le (by omega)]
    rfl
  refine ⟨judgedInOrder _, (judgeImage .boot (bootImage length rest) s).2, ?_, ?_⟩
  · refine (underReset_high _ high).trans (congrArg _ ?_)
    unfold bootComplete
    rw [boot]
    exact if_pos (by omega)
  · rw [image]
    obtain ⟨reason, fails, judged⟩ | ⟨passes, judged⟩ := judgeImage_cases .boot (0x5C#8 :: BitVec.ofNat 8 length :: rest) s
    · rw [judged, fails]
      refine ⟨rejectImage_lmp _ _ s, nofun, fun r is => ?_⟩
      cases is
      exact rejectImage_rejectedAs _ _ s
    · rw [judged, passes]
      exact ⟨by simp, fun _ => acceptImage_acceptedAs .boot ports rfl, nofun⟩

/-- Settles O8: LOAD_IMAGE judges the bytes it takes, in the two states that take an image. -/
theorem loadImageJudgesTheImage : Obligations.LoadImageJudgesTheImage := by
  intro bytes image s high taken ports
  have ran : exec (.loadImage bytes) s = .next (judgeLoad image s) := by
    refine (underReset_high _ high).trans (congrArg _ ?_)
    unfold loadRequest
    rw [taken]
  refine ⟨judgedInOrder image, _, ran, fun waits => ?_, fun notWait notFault => ?_⟩
  · obtain ⟨-, ⟨reason, fails, judged⟩ | ⟨passes, judged⟩⟩ | ⟨other, -⟩ := judgeLoad_cases image s
    · rw [judged, fails]
      refine ⟨nofun, fun r is => ?_⟩
      cases is
      exact ⟨rejectedAs_respond _ _ (rejectImage_rejectedAs _ _ s), respond_lmp _ _ _⟩
    · rw [judged, passes]
      exact ⟨fun _ => ⟨acceptedAs_respond _ _ (acceptImage_acceptedAs .lmp ports rfl), respond_lmp _ _ _⟩, nofun⟩
    · exact absurd waits other
  · obtain ⟨waits, -⟩ | ⟨-, judged⟩ := judgeLoad_cases image s
    · exact absurd waits (by simp [notWait, notFault])
    · rw [judged]
      exact respond_onlyResponds s rfl rfl

end Sys2Proof.Proofs
end

section
/-! A new item and the outgoing queue: replacement, the tail, eviction, loss. -/

namespace Sys2Proof.Proofs
open Sys2Proof.Machine

/-! ### The item given back -/

/-- An item given back touches the transmitter if it is an ANSWER alone (R52). -/
theorem returnItem_tx (it : QItem) (s : State) : (returnItem it s).tx =
    { s.tx with lostAnswers := if it.isAnswer = true then bump s.tx.lostAnswers else s.tx.lostAnswers } := by
  cases it with
  | claim | offer | leave => rfl
  | release n tag r stale => cases stale <;> rfl
  | probe h q | command h q => simp [returnItem, QItem.isAnswer]
  | answer => rfl

theorem isAnswer_of_class {it : QItem} (worse : 0 < itemClass it) : it.isAnswer = false := by
  cases it with
  | answer => exact absurd worse (Nat.lt_irrefl 0)
  | claim | offer | release | leave | probe | command => rfl

theorem noteQueued_answer {it : QItem} (answer : it.isAnswer = true) (s : State) : noteQueued it s = s := by
  cases it with
  | answer => rfl
  | claim | offer | release | leave | probe | command => cases answer

/-- A lost item of a QUEUED relay ends the relay DROPPED (R52, R175). -/
theorem dropRelay_relay {h q : Nat} {r : Relay} {s : State} (here : s.relay h = some r) (number : r.reqNo = q)
    (queued : r.phase = .queued) : (dropRelay h q s).relay h = some { r with phase := .done none .dropped } := by
  unfold dropRelay
  rw [here]
  dsimp only
  rw [if_pos ⟨number, queued⟩, completeRelay_relay, if_pos rfl, here, Option.map_some]
  simp [relayCompleted, Relay.isOpen, Relay.sent, queued]

/-! ### The worst class (R51) -/

theorem worstClass_le {q : List QItem} {w : Nat} (all : ∀ x ∈ q, itemClass x ≤ w) : worstClass q ≤ w := by
  have fold (l : List QItem) (a : Nat) (low : a ≤ w) (all : ∀ x ∈ l, itemClass x ≤ w) :
      l.foldl (fun w it => max w (itemClass it)) a ≤ w := by
    induction l generalizing a with
    | nil => exact low
    | cons x rest ih =>
      rw [List.forall_mem_cons] at all
      exact ih _ (Nat.max_le.mpr ⟨low, all.1⟩) all.2
  exact fold q 0 (Nat.zero_le w) all

theorem le_worstClass {q : List QItem} {it : QItem} (mem : it ∈ q) : itemClass it ≤ worstClass q := by
  have fold (l : List QItem) (a : Nat) : a ≤ l.foldl (fun w it => max w (itemClass it)) a ∧
      ∀ x ∈ l, itemClass x ≤ l.foldl (fun w it => max w (itemClass it)) a := by
    induction l generalizing a with
    | nil => exact ⟨Nat.le_refl a, nofun⟩
    | cons x rest ih =>
      obtain ⟨start, others⟩ := ih (max a (itemClass x))
      rw [List.forall_mem_cons]
      exact ⟨(Nat.le_max_left _ _).trans start, (Nat.le_max_right _ _).trans start, others⟩
  exact (fold q 0).2 it mem

/-- The newest item of a kind is the one behind which there is no other. -/
theorem takeNewest_eq {p : QItem → Bool} {front back : List QItem} {it : QItem} (is : p it = true)
    (newest : ∀ x ∈ back, p x = false) : takeNewest p (front ++ it :: back) = some (it, front ++ back) := by
  have order : (front ++ it :: back).reverse = back.reverse ++ it :: front.reverse := by simp
  have later : ∀ x ∈ back.reverse, ¬p x = true := fun x mem => by simp [newest x (List.mem_reverse.mp mem)]
  have none : back.reverse.find? p = none := List.find?_eq_none.mpr later
  unfold takeNewest
  rw [order, List.find?_append, none, Option.none_or, List.find?_cons_of_pos is, Option.map_some,
    List.eraseP_append_right _ later, List.eraseP_cons_of_pos is]
  simp

/-! ### The three fates of a new item -/

theorem post_enqueues {it : QItem} {s : State} (state : s.sync.state = .founding ∨ s.sync.state = .locked)
    (fresh : ∀ (n : Nat) (o : Bool), it = .offer n o → ∀ p, .offer n p ∉ s.tx.queue) : post it s = enqueue it s := by
  have accepts : queueAccepts s.sync.state it = true := by rcases state with is | is <;> rw [is] <;> rfl
  refine post_accepted accepts (fun n o is => ?_)
  rw [List.any_eq_false]
  intro x mem offer
  cases x <;> simp [isOfferOf] at offer
  subst offer
  exact fresh _ _ is _ mem

/-- In a full queue the newest item of the worst class, if worse than the new one, goes (R51). -/
theorem enqueue_evicts {it old : QItem} {front back : List QItem} {s : State} (is : s.tx.queue = front ++ old :: back)
    (full : s.tx.queue.length = 16) (notLeave : old ≠ .leave) (worst : ∀ x ∈ s.tx.queue, itemClass x ≤ itemClass old)
    (newest : ∀ x ∈ back, itemClass x < itemClass old ∨ x = .leave) (better : itemClass it < itemClass old) :
    enqueue it s = noteQueued it (modQueue (fun _ => front ++ back ++ [it]) (returnItem old (countLoss s))) := by
  have mem : old ∈ s.tx.queue := by simp [is]
  have class_eq : worstClass s.tx.queue = itemClass old := Nat.le_antisymm (worstClass_le worst) (le_worstClass mem)
  have taken : takeNewest (evictable (itemClass old)) s.tx.queue = some (old, front ++ back) := by
    rw [is]
    refine takeNewest_eq (by simp [evictable, notLeave]) (fun x later => ?_)
    rcases newest x later with less | leave
    · simp [evictable, Nat.ne_of_lt less]
    · simp [evictable, leave]
  unfold enqueue
  rw [if_neg (by omega), class_eq, if_pos better, taken]

theorem enqueue_drops {it : QItem} {s : State} (full : s.tx.queue.length = 16)
    (worst : ∀ x ∈ s.tx.queue, itemClass x ≤ itemClass it) : enqueue it s = returnItem it (countLoss s) := by
  unfold enqueue
  rw [if_neg (by omega), if_neg (Nat.not_lt.mpr (worstClass_le worst))]

/-- The queued OFFER of a source keeps its place and takes either flag (R50). -/
theorem replaceOffer_eq {n : Nat} {old flag : Bool} {front back : List QItem}
    (only : ∀ p, .offer n p ∉ front ++ back) :
    replaceOffer n flag (front ++ .offer n old :: back) = front ++ .offer n (old || flag) :: back := by
  have others {l : List QItem} (none : ∀ p, QItem.offer n p ∉ l) : replaceOffer n flag l = l := by
    refine (List.map_congr_left (fun x mem => ?_)).trans (List.map_id l)
    cases x with
    | offer m o =>
      have other : m ≠ n := fun same => none o (by rw [← same]; exact mem)
      exact if_neg other
    | claim | release | leave | probe | command | answer => rfl
  have front' := others (l := front) (fun p mem => only p (List.mem_append_left _ mem))
  have back' := others (l := back) (fun p mem => only p (List.mem_append_right _ mem))
  unfold replaceOffer at front' back' ⊢
  rw [List.map_append, List.map_cons, front', back']
  simp

/-- Settles O45: replacement, the tail, eviction of the newest of the worst class, or loss. -/
theorem queueReplacesEvictsAndDrops : Obligations.QueueReplacesEvictsAndDrops := by
  refine fun it s state => ⟨fun n old flag front back offer queue only => ?replaced, fun fresh room => ?tail,
    fun front back old fresh queue full notLeave worst newest better => ?evicted, fun fresh full worst => ?dropped⟩
  case replaced =>
    subst offer
    have accepts : queueAccepts s.sync.state (.offer n flag) = true := by rcases state with is | is <;> rw [is] <;> rfl
    have waits : s.tx.queue.any (isOfferOf n) = true :=
      List.any_eq_true.mpr ⟨.offer n old, by simp [queue], by simp [isOfferOf]⟩
    have inPlace : post (.offer n flag) s = modQueue (replaceOffer n flag) s :=
      (if_pos accepts).trans (if_pos waits)
    rw [inPlace, modQueue, State.modTx, queue, replaceOffer_eq only]
  case tail =>
    have posted : post it s = noteQueued it (modQueue (· ++ [it]) s) := by
      rw [post_enqueues state fresh, enqueue, if_pos room]
    rw [posted]
    exact ⟨noteQueued_tx it _, by simp [modQueue], by simp [modQueue]⟩
  case evicted =>
    have notAnswer : old.isAnswer = false := isAnswer_of_class (Nat.zero_lt_of_lt better)
    rw [post_enqueues state fresh, enqueue_evicts queue full notLeave worst newest better]
    have tx : (noteQueued it (modQueue (fun _ => front ++ back ++ [it]) (returnItem old (countLoss s)))).tx =
        { (countLoss s).tx with queue := front ++ back ++ [it] } := by
      rw [noteQueued_tx]
      show { (returnItem old (countLoss s)).tx with queue := front ++ back ++ [it] } = _
      rw [returnItem_tx, notAnswer]
      rfl
    refine ⟨by rw [tx], by rw [tx]; rfl, by rw [tx]; rfl, fun m c answer which here => ?_,
      fun h q r answer which low here number queued => ?_⟩
    · rw [noteQueued_answer answer]
      have returned : (returnItem old (countLoss s)).sources = s.sources.modify m (fun c => { c with queuedItem := .nothing }) := by
        rcases which with rfl | ⟨tag, r, rfl⟩ <;> rfl
      exact returned.trans (modify_of_getElem? _ here)
    · rw [noteQueued_answer answer]
      have returned : returnItem old (countLoss s) = dropRelay h q (countLoss s) := by
        rcases which with ⟨x, sub, i, rfl⟩ | ⟨x, act, i, rfl⟩ <;> rfl
      rw [returned]
      exact dropRelay_relay (s := countLoss s) here number queued
  case dropped =>
    rw [post_enqueues state fresh, enqueue_drops full worst, returnItem_tx]
    exact ⟨rfl, rfl, rfl⟩

end Sys2Proof.Proofs
end

section
/-! The end of a data slot: carrier, readback, captures. -/

namespace Sys2Proof.Proofs
open Sys2Proof.Machine

/-! ### What the end of a data slot consists of -/

/-- The slot's end ahead of the captures: carrier and readback. -/
def slotReadBack (k : Nat) (cl : SlotClass) (s : State) : State :=
  (slotReadback k cl (countCarrier k cl (atTick (slotLastTick k s) s))).modLine (fun l => { l with drive := .nothing })

theorem slotClassified_eq (k : Nat) (cl : SlotClass) (s : State) : slotClassified k cl s =
    forEach s.sinks.length (captureSlot k (markOf (sinkClass k cl s))) (slotReadBack k cl s) := rfl

/-- The captures change sinks and post notices, no more. -/
theorem slotClassified_rest (k : Nat) (cl : SlotClass) (s : State) :
    (slotClassified k cl s).loader = (slotReadBack k cl s).loader ∧ (slotClassified k cl s).sync = (slotReadBack k cl s).sync ∧
    (slotClassified k cl s).line = (slotReadBack k cl s).line ∧ (slotClassified k cl s).rx = (slotReadBack k cl s).rx ∧
    (slotClassified k cl s).tx = (slotReadBack k cl s).tx ∧ (slotClassified k cl s).peers = (slotReadBack k cl s).peers ∧
    (slotClassified k cl s).alloc = (slotReadBack k cl s).alloc ∧
    (slotClassified k cl s).sources = (slotReadBack k cl s).sources ∧
    (slotClassified k cl s).ports = (slotReadBack k cl s).ports ∧ (slotClassified k cl s).req = (slotReadBack k cl s).req := by
  rw [slotClassified_eq]
  refine forEach_inv (fun t => t.loader = (slotReadBack k cl s).loader ∧ t.sync = (slotReadBack k cl s).sync ∧
    t.line = (slotReadBack k cl s).line ∧ t.rx = (slotReadBack k cl s).rx ∧ t.tx = (slotReadBack k cl s).tx ∧
    t.peers = (slotReadBack k cl s).peers ∧ t.alloc = (slotReadBack k cl s).alloc ∧
    t.sources = (slotReadBack k cl s).sources ∧ t.ports = (slotReadBack k cl s).ports ∧
    t.req = (slotReadBack k cl s).req) _ _ _ (by simp) (fun n t same => ?_)
  simpa using same

theorem exec_dataSlotReceived {k : Nat} {line : OnLine SlotWindow} {s : State} (high : s.resetLow = false) (low : 8 ≤ k)
    (top : k ≤ 63) (runs : s.sync.state.timerRuns = true) :
    exec (.dataSlotReceived k line) s = .next (slotClassified k (slotClass k line s) s) := by
  refine (underReset_high _ high).trans (congrArg _ (if_pos ?_))
  simp [runs, isDataSlot, low, top]

theorem exec_slotEndRow {k : Nat} {line : OnLine SlotWindow} {s : State} {c : Instr} {due : State → Bool}
    (is : exec c s = underReset (whenDue due (slotEndEvent k line)) s) (now : due s = true) (high : s.resetLow = false)
    (low : 8 ≤ k) (top : k ≤ 63) (runs : s.sync.state.timerRuns = true) :
    exec c s = .next (slotClassified k (slotClass k line s) s) := by
  rw [is, underReset_high _ high, whenDue_of _ now]
  exact congrArg _ (if_pos (by simp [runs, isDataSlot, low, top]))

/-! ### The window and its carrier -/

theorem receivedSlot_driven {k n : Nat} {x : Sample} {v : Bool} {others : SlotWindow} {s : State}
    (drive : s.line.drive = .data k n x v) : receivedSlot k (.sound others) s = others ||| dataWord k x v := by
  simp [receivedSlot, heardWindow, Drive.inSlot, drive]

theorem receivedSlot_undriven {k : Nat} {others : SlotWindow} {s : State} (drive : ∀ n x v, s.line.drive ≠ .data k n x v) :
    receivedSlot k (.sound others) s = others := by
  have nothing : s.line.drive.inSlot k = 0 := by
    unfold Drive.inSlot
    split
    case h_1 j n x v is =>
      refine if_neg (fun same => drive n x v ?_)
      rw [is, same]
    case h_2 => rfl
  rw [receivedSlot, nothing]
  exact BitVec.or_zero

/-- Carrier is counted in the slot of the window alone (R13). -/
theorem countCarrier_slot {k j : Nat} {cl : SlotClass} {s : State} (size : s.alloc.slots.length = 56) (low : 8 ≤ j)
    (top : j ≤ 63) (lowK : 8 ≤ k) : (countCarrier k cl s).slot j =
      if j = k ∧ s.sync.state.takesCells = true ∧ cl ≠ .silent
      then { s.slot j with carrier := min ((s.slot j).carrier + 1) 32 } else s.slot j := by
  have inside : j - 8 < s.alloc.slots.length := by omega
  unfold countCarrier
  by_cases counts : s.sync.state.takesCells = true ∧ cl ≠ .silent
  · rw [if_pos (by simpa using counts)]
    show (s.alloc.slots.modify (k - 8) _).getD (j - 8) _ = _
    by_cases same : j = k
    · subst same
      rw [if_pos ⟨rfl, counts⟩, State.slot, List.getD_eq_getElem?_getD, List.getD_eq_getElem?_getD, List.getElem?_modify_eq,
        List.getElem?_eq_getElem inside]
      rfl
    · rw [if_neg (fun both => same both.1), State.slot, List.getD_eq_getElem?_getD, List.getD_eq_getElem?_getD,
        List.getElem?_modify_ne _ _ (by omega)]
  · rw [if_neg (by simpa using counts), if_neg (fun both => counts both.2)]

/-- A sink whose run leaves the slot out is untouched. -/
theorem sinkCaptured_outside {k : Nat} (m : Mark) {c : Sink} (outside : ∀ r, c.run = some r → inRun r.first r.count k = false) :
    sinkCaptured k m c = c := by
  unfold sinkCaptured
  cases run : c.run with
  | none => rfl
  | some r =>
    dsimp only
    rw [if_neg (by simp [outside r run])]

theorem slotClassified_sink {k n : Nat} {c : Sink} {cl : SlotClass} {s : State} (here : s.sinks[n]? = some c) :
    (slotClassified k cl s).sinks[n]? = some (sinkCaptured k (markOf (sinkClass k cl s)) c) := by
  rw [slotClassified_sinks, List.getElem?_map, here, Option.map_some]

/-- The readback of a word that came back whole, or of none, changes nothing (R12). -/
theorem slotReadback_clean {k : Nat} {cl : SlotClass} {s t : State} (drive : t.line.drive = s.line.drive)
    (clean : ∀ j n x v, s.line.drive = .data j n x v → j = k → cl = .good x v) : slotReadback k cl t = t := by
  have none : damagedSource k cl t = none := by
    unfold damagedSource
    rw [drive]
    split
    case h_1 j n x v is => exact if_neg (fun both => both.2 (clean j n x v is both.1))
    case h_2 => rfl
  rw [slotReadback, none]

/-- Settles O40: the window, its class, its carrier, and what it leaves alone. -/
theorem dataSlotReceivedCountsCarrier : Obligations.DataSlotReceivedCountsCarrier := by
  intro k line s high low top
  refine ⟨fun heard is => by rw [is]; rfl, fun others is => ⟨fun n x v drive => ?_, fun drive => ?_⟩, rfl, fun runs size => ?_⟩
  · rw [is, receivedSlot_driven drive]
    refine ⟨rfl, fun silent => dataWord_ne_zero k x v ?_⟩
    rw [slotClass, receivedSlot_driven drive, classifySlot_eq_silent_iff] at silent
    exact (BitVec.or_eq_zero_iff.mp silent).2
  · rw [is, receivedSlot_undriven drive]
  · obtain ⟨loader, sync, line', rx, tx, peers, alloc, sources, ports, req⟩ := slotClassified_rest k (slotClass k line s) s
    have silent : slotClass k line s ≠ .silent ↔ receivedSlot k line s ≠ 0 := not_congr (classifySlot_eq_silent_iff k _)
    have slot (j : Nat) (lowJ : 8 ≤ j) (topJ : j ≤ 63) := countCarrier_slot (cl := slotClass k line s)
      (s := atTick (slotLastTick k s) s) size lowJ topJ low
    have slots (j : Nat) : (slotClassified k (slotClass k line s) s).slot j =
        (countCarrier k (slotClass k line s) (atTick (slotLastTick k s) s)).slot j := by
      unfold State.slot
      rw [alloc]
      simp [slotReadBack]
    have counted : (countCarrier k (slotClass k line s) (atTick (slotLastTick k s) s)).alloc.dir = s.alloc.dir ∧
        (countCarrier k (slotClass k line s) (atTick (slotLastTick k s) s)).alloc.counters = s.alloc.counters := by
      unfold countCarrier
      split <;> exact ⟨rfl, rfl⟩
    refine ⟨_, exec_dataSlotReceived high low top runs, ?_, ?_, ?_, ?_, ?_, ?_, ?_, ?_, fun n c here outside => ?_,
      fun j lowJ topJ other => ?_, ?_, fun counts => ?_, fun not => ?_, fun clean => ?_⟩
    · rw [line']; simp [slotReadBack]
    · rw [alloc]; simpa [slotReadBack] using counted.1
    · rw [alloc]; simpa [slotReadBack] using counted.2
    · rw [peers]; simp [slotReadBack]
    · rw [ports]; simp [slotReadBack]
    · rw [rx]; simp [slotReadBack]
    · rw [loader]; simp [slotReadBack]
    · rw [sync]; simp [slotReadBack, atTick, slotLastTick]
    · rw [slotClassified_sink here, sinkCaptured_outside _ outside]
    · rw [slots, slot j lowJ topJ, if_neg (fun both => other both.1)]
      rfl
    · rw [slots, slot k low top]
      split <;> rfl
    · rw [slots, slot k low top, if_pos ⟨rfl, counts.1, silent.mpr counts.2⟩]
      rfl
    · rw [slots, slot k low top, if_neg (fun all => not ⟨all.2.1, silent.mp all.2.2⟩)]
      rfl
    · rw [sources, tx, req]
      unfold slotReadBack
      rw [slotReadback_clean (s := s) (by simp [atTick]) clean]
      simp [atTick]

end Sys2Proof.Proofs
end

section
/-! Damaged readbacks and completed captures. -/

namespace Sys2Proof.Proofs
open Sys2Proof.Machine

/-! ### The readback of a driven word (R12, R121) -/

/-- A source whose driven word came back damaged for the first time in a frame. -/
def sourceCollided (c : Source) : Source :=
  { c with collidedNow := true, tally := min (c.tally + 1) 32
           counters := { c.counters with collisions := bump c.counters.collisions } }

section
variable {k n : Nat} {cl : SlotClass} {x : Sample} {v : Bool} {c : Source} {s : State}

theorem damagedSource_of (drive : s.line.drive = .data k n x v) (damaged : cl ≠ .good x v) :
    damagedSource k cl s = some n := by
  unfold damagedSource
  rw [drive]
  exact if_pos ⟨rfl, damaged⟩

theorem slotReadback_damaged (drive : s.line.drive = .data k n x v) (damaged : cl ≠ .good x v) :
    slotReadback k cl s = damagedReadback n s := by
  rw [slotReadback, damagedSource_of drive damaged]

theorem damagedReadback_again (here : s.sources[n]? = some c) (again : c.collidedNow = true) :
    damagedReadback n s = s := by
  unfold damagedReadback
  rw [here]
  exact if_neg (by simp [again])

theorem damagedReadback_first (here : s.sources[n]? = some c) (owned : c.state = .owned) (first : c.collidedNow = false) :
    damagedReadback n s = if 16 ≤ c.tally + 1
      then notifySource n (.collided (c.run.getD ⟨0, 0⟩)) (enterReleasing n (s.modSource n sourceCollided))
      else s.modSource n sourceCollided := by
  unfold damagedReadback
  rw [here]
  exact if_pos ⟨owned, first⟩

theorem notifySource_eq (here : s.sources[n]? = some c) (e : SourceEvent) :
    notifySource n e s = notify (.source n c.cfg.tag e) s := by
  rw [notifySource, here]

end

/-- The sixteenth collision of a source: its run given up, and told (R121, R123). -/
theorem damagedReadback_forced {n : Nat} {c : Source} {r : Run} {q : QueuedItem} {tx : CellTx} {s : State}
    (here : s.sources[n]? = some c) (owned : c.state = .owned) (first : c.collidedNow = false) (many : 15 ≤ c.tally)
    (run : c.run = some r) (enters : enterReleasing n (s.modSource n sourceCollided) =
      { s with sources := (s.sources.modify n sourceCollided).modify n (sourceReleasing q), tx := tx }) :
    damagedReadback n s = notify (.source n c.cfg.tag (.collided r))
      { s with sources := s.sources.set n (sourceReleasing q (sourceCollided c)), tx := tx } := by
  have sources : (s.sources.modify n sourceCollided).modify n (sourceReleasing q) =
      s.sources.set n (sourceReleasing q (sourceCollided c)) := by
    rw [List.modify_modify_eq, modify_of_getElem? _ here]
    rfl
  rw [damagedReadback_first here owned first, if_pos (by omega), enters, sources, run]
  exact notifySource_eq (s := { s with sources := s.sources.set n (sourceReleasing q (sourceCollided c)), tx := tx })
    (c := sourceReleasing q (sourceCollided c)) (set_getElem?_self here) _

theorem damagedReadback_room {n : Nat} {c : Source} {r : Run} {s : State} (here : s.sources[n]? = some c)
    (owned : c.state = .owned) (first : c.collidedNow = false) (many : 15 ≤ c.tally) (run : c.run = some r)
    (locked : s.sync.state = .locked) (room : s.tx.queue.length < 16) :
    damagedReadback n s = notify (.source n c.cfg.tag (.collided r)) { s with
      sources := s.sources.set n (sourceReleasing .release (sourceCollided c))
      tx := { s.tx with queue := s.tx.queue ++ [.release n c.cfg.tag r false] } } :=
  damagedReadback_forced here owned first many run (enterReleasing_room (s := s.modSource n sourceCollided)
    (c := sourceCollided c) (modify_getElem?_self _ here) run (.inl locked) room)

theorem damagedReadback_refused {n : Nat} {c : Source} {r : Run} {s : State} (here : s.sources[n]? = some c)
    (owned : c.state = .owned) (first : c.collidedNow = false) (many : 15 ≤ c.tally) (run : c.run = some r)
    (leaving : s.sync.state = .leaving) :
    damagedReadback n s = notify (.source n c.cfg.tag (.collided r)) { s with
      sources := s.sources.set n (sourceReleasing .nothing (sourceCollided c)), tx := s.tx } :=
  damagedReadback_forced here owned first many run (enterReleasing_refused (s := s.modSource n sourceCollided)
    (c := sourceCollided c) (modify_getElem?_self _ here) run
    (by show queueAccepts s.sync.state _ = false; rw [leaving]; rfl))

/-! ### How many notices a readback posts -/

theorem notify_atMost (e : Notice) (s : State) : (notify e s).mgmt.notices.length ≤ s.mgmt.notices.length + 1 := by
  rw [notify_notices]
  split
  · simp
  · exact Nat.le_succ _

theorem completeRelay_atMost (h : Nat) (result : RelayOutcome) (s : State) :
    (completeRelay h result s).mgmt.notices.length ≤ s.mgmt.notices.length + 1 := by
  unfold completeRelay
  repeat' split
  · exact notify_atMost _ _
  · exact Nat.le_succ _
  · exact Nat.le_succ _

theorem dropRelay_atMost (h q : Nat) (s : State) :
    (dropRelay h q s).mgmt.notices.length ≤ s.mgmt.notices.length + 1 := by
  unfold dropRelay
  repeat' split
  · exact completeRelay_atMost h _ s
  · exact Nat.le_succ _
  · exact Nat.le_succ _

theorem returnItem_atMost (it : QItem) (s : State) :
    (returnItem it s).mgmt.notices.length ≤ s.mgmt.notices.length + 1 := by
  cases it with
  | claim | offer | answer | leave => exact Nat.le_succ _
  | release n tag r stale => cases stale <;> exact Nat.le_succ _
  | probe h q | command h q => exact dropRelay_atMost h q s

theorem enqueue_atMost (it : QItem) (s : State) :
    (enqueue it s).mgmt.notices.length ≤ s.mgmt.notices.length + 1 := by
  have returned (old : QItem) := returnItem_atMost old (countLoss s)
  unfold enqueue
  repeat' split
  · simp [modQueue]
  · rw [(noteQueued_frame it _).2.2.2.2.2.2.2.2.2.2.2.2]
    exact returned _
  · exact returned it
  · exact returned it

theorem post_atMost (it : QItem) (s : State) : (post it s).mgmt.notices.length ≤ s.mgmt.notices.length + 1 := by
  unfold post
  split
  · split
    · split
      · exact Nat.le_succ _
      · exact enqueue_atMost _ s
    · exact enqueue_atMost it s
  · unfold refuseItem
    split
    · exact Nat.le_succ _
    · exact returnItem_atMost it s

theorem enterReleasing_atMost (n : Nat) (s : State) :
    (enterReleasing n s).mgmt.notices.length ≤ s.mgmt.notices.length + 1 := by
  unfold enterReleasing postRelease
  repeat' split
  · exact post_atMost _ (s.modSource n _)
  · exact Nat.le_succ _
  · exact Nat.le_succ _

theorem slotReadback_atMost (k : Nat) (cl : SlotClass) (s : State) :
    (slotReadback k cl s).mgmt.notices.length ≤ s.mgmt.notices.length + 2 := by
  unfold slotReadback
  split
  case h_1 n _ =>
    unfold damagedReadback
    split
    · split
      · dsimp only
        split
        · have first (t : State) := enterReleasing_atMost n t
          unfold notifySource
          split
          · exact (notify_atMost _ _).trans (Nat.succ_le_succ (first (s.modSource n _)))
          · exact (first (s.modSource n _)).trans (Nat.le_succ _)
        · exact Nat.le_add_right _ 2
      · exact Nat.le_add_right _ 2
    · exact Nat.le_add_right _ 2
  case h_2 => exact Nat.le_add_right _ 2

/-! ### The notice of a capture (R142 to R144, R153) -/

/-- What a sink is told when a capture is pushed. -/
def pushTold (marks : List Mark) (c : Sink) : Option SinkEvent :=
  if c.state = .filling ∧ c.cfg.target ≤ (pushCapped 16 marks c.queue).length
  then some (.running (c.run.getD ⟨0, 0⟩) c.cfg.target) else none

/-- What a sink is told when a capture is completed. -/
def captureTold (marks : List Mark) (c : Sink) : Option SinkEvent :=
  match c.state with
  | .filling | .running =>
    if allSilent marks ∧ 64 ≤ c.silentRun + 1 then some (.starved (c.run.getD ⟨0, 0⟩)) else pushTold marks c
  | .starved => if allSilent marks then none else some (.resumed (c.run.getD ⟨0, 0⟩))
  | .unbound | .mismatch => none

theorem withSinkNotice_of_mgmt {n : Nat} {c : Sink} {told : Option SinkEvent} {s t : State} (same : t.mgmt = s.mgmt) :
    withSinkNotice n c told t = withSinkNotice n c told s := by
  cases told with
  | none => exact same
  | some ev =>
    show (notify _ t).mgmt = (notify _ s).mgmt
    rw [notify_mgmt, notify_mgmt, same]

theorem pushSink_mgmt (n : Nat) (c : Sink) (marks : List Mark) (s : State) :
    (pushSink n c marks s).mgmt = withSinkNotice n c (pushTold marks c) s := by
  have counted : (if c.queue.length < 16 then s else countSink n (fun k => { k with overflows := bump k.overflows }) s).mgmt =
      s.mgmt := by split <;> rfl
  unfold pushSink pushTold
  dsimp only
  split
  · exact withSinkNotice_of_mgmt (told := some _) counted
  · exact counted

theorem completeCapture_mgmt (n : Nat) (c : Sink) (marks : List Mark) (s : State) :
    (completeCapture n c marks s).mgmt = withSinkNotice n c (captureTold marks c) s := by
  have counted : (if isGap marks then countGap n s else s).mgmt = s.mgmt := by split <;> rfl
  unfold completeCapture captureTold
  cases c.state with
  | filling | running =>
    dsimp only
    by_cases silent : allSilent marks = true
    · rw [if_pos silent]
      split
      case isTrue few =>
        rw [if_neg (fun both => absurd both.2 (by omega)), pushSink_mgmt]
        exact withSinkNotice_of_mgmt rfl
      case isFalse many =>
        rw [if_pos ⟨silent, by omega⟩]
        rfl
    · have heard : ¬(allSilent marks = true ∧ 64 ≤ c.silentRun + 1) := fun both => silent both.1
      rw [if_neg silent, if_neg heard, pushSink_mgmt]
      exact withSinkNotice_of_mgmt counted
  | starved =>
    dsimp only
    split
    · rfl
    · exact withSinkNotice_of_mgmt (told := some _) counted
  | unbound | mismatch => rfl

theorem captureSlot_mgmt (k : Nat) (m : Mark) (n : Nat) (s : State) :
    (captureSlot k m n s).mgmt = s.mgmt ∨ ∃ c told, (captureSlot k m n s).mgmt = withSinkNotice n c told s := by
  unfold captureSlot
  repeat' split
  · exact .inr ⟨_, _, completeCapture_mgmt _ _ _ _⟩
  all_goals exact .inl rfl

/-- A capture posts one notice at most. -/
theorem captureSlot_grows (k : Nat) (m : Mark) (n : Nat) (s : State) : PostsOnly s (captureSlot k m n s) := by
  have tx : (captureSlot k m n s).tx = s.tx := by simp
  obtain same | ⟨c, told, is⟩ := captureSlot_mgmt k m n s
  · exact .of_same same tx
  · cases told with
    | none => exact .of_same is tx
    | some ev =>
      refine (notify_grows (.sink n c.cfg.tag ev) s).trans (.of_same is ?_)
      rw [tx]
      rfl

theorem captureSlot_atMost (k : Nat) (m : Mark) (n : Nat) (s : State) :
    (captureSlot k m n s).mgmt.notices.length ≤ s.mgmt.notices.length + 1 := by
  obtain same | ⟨c, told, is⟩ := captureSlot_mgmt k m n s
  · rw [same]; exact Nat.le_succ _
  · rw [is]; exact withSinkNotice_length n c told s

/-- The captures of a slot's end post after its readback. -/
theorem slotClassified_grows (k : Nat) (cl : SlotClass) (s : State) :
    PostsOnly (slotReadBack k cl s) (slotClassified k cl s) := by
  rw [slotClassified_eq]
  exact PostsOnly.forEach _ _ (fun n t => captureSlot_grows k _ n t)

/-! ### Collisions (R121) -/

/-- Settles O41: the readback goes first, and the captures leave the sources. -/
theorem damagedReadbacksForceARelease : Obligations.DamagedReadbacksForceARelease := by
  intro k n line x v c r s high low top state drive damaged here owned run
  have runs : s.sync.state.timerRuns = true := timerRuns_of_drives (by rcases state with is | is <;> rw [is] <;> rfl)
  have ran := exec_dataSlotReceived (line := line) high low top runs
  obtain ⟨-, -, -, -, tx, -, -, sources, -, req⟩ := slotClassified_rest k (slotClass k line s) s
  have counted : (countCarrier k (slotClass k line s) (atTick (slotLastTick k s) s)).sources = s.sources ∧
      (countCarrier k (slotClass k line s) (atTick (slotLastTick k s) s)).tx = s.tx ∧
      (countCarrier k (slotClass k line s) (atTick (slotLastTick k s) s)).req = s.req ∧
      (countCarrier k (slotClass k line s) (atTick (slotLastTick k s) s)).mgmt = s.mgmt ∧
      (countCarrier k (slotClass k line s) (atTick (slotLastTick k s) s)).sync.state = s.sync.state := by simp [atTick]
  have driven : (countCarrier k (slotClass k line s) (atTick (slotLastTick k s) s)).line.drive = .data k n x v := by
    simpa [atTick] using drive
  have back : slotReadBack k (slotClass k line s) s = (damagedReadback n (countCarrier k (slotClass k line s)
      (atTick (slotLastTick k s) s))).modLine (fun l => { l with drive := .nothing }) := by
    rw [slotReadBack, slotReadback_damaged driven damaged]
  generalize countCarrier k (slotClass k line s) (atTick (slotLastTick k s) s) = u at counted driven back
  obtain ⟨sources', tx', req', mgmt', state'⟩ := counted
  have there : u.sources[n]? = some c := by rw [sources']; exact here
  refine ⟨fun again => ⟨_, ran, ?_, ?_⟩, fun first few => ⟨_, ran, ?_⟩, fun first many => ⟨_, exec_slotEndRow
    (c := .forcedRelease k line) rfl ?_ high low top runs, fun empty fate => ?_, fun locked room => ?_, fun leaving => ?_⟩⟩
  · rw [sources, back, damagedReadback_again there again]; exact sources'
  · rw [tx, back, damagedReadback_again there again]; exact tx'
  · rw [sources, tx, req, back, damagedReadback_first there owned first, if_neg (by omega)]
    refine ⟨tx', req', ?_⟩
    show u.sources.modify n sourceCollided = _
    rw [modify_of_getElem? _ there, sources', sourceCollided, Nat.min_eq_left (by omega)]
  · simp [forcesRelease, runs, isDataSlot, low, top, damagedSource_of drive damaged, here, owned, first, many]
  · refine (slotClassified_grows k (slotClass k line s) s).head ?_
    rw [back]
    show (damagedReadback n u).mgmt.notices.head? = _
    have told {q : QueuedItem} {tx'' : CellTx} (is : damagedReadback n u = notify (.source n c.cfg.tag (.collided r))
        { u with sources := u.sources.set n (sourceReleasing q (sourceCollided c)), tx := tx'' }) :
        (damagedReadback n u).mgmt.notices.head? = some (.source n c.cfg.tag (.collided r)) := by
      rw [is]
      exact notify_head (s := { u with sources := _, tx := tx'' }) (by rw [← empty, ← mgmt'])
    by_cases leaves : s.sync.state = .leaving
    · exact told (damagedReadback_refused there owned first many run (state'.trans leaves))
    · exact told (damagedReadback_room there owned first many run (state'.trans (state.resolve_right leaves))
        (by rw [tx']; exact fate.resolve_left leaves))
  · have is := damagedReadback_room there owned first many run (state'.trans locked) (by rw [tx']; exact room)
    rw [sources, tx, req, back, is, ← sources', ← tx', ← req']
    simp [sourceReleasing, sourceCollided]
  · have is := damagedReadback_refused there owned first many run (state'.trans leaving)
    rw [sources, tx, req, back, is, ← sources', ← tx', ← req']
    simp [sourceReleasing, sourceCollided]

end Sys2Proof.Proofs
end

section
/-! Completed captures: what the sink's table row makes of it, and what the sink is told. -/

namespace Sys2Proof.Proofs
open Sys2Proof.Machine

/-! ### The capture that a slot completes -/

/-- The class a slot has to the sinks (R12, R140). -/
theorem markOf_sinkClass {k : Nat} {cl : SlotClass} {last : Mark} {s : State}
    (spoilt : (∃ m x v, s.line.drive = .data k m x v ∧ cl ≠ .good x v) → last = .damaged)
    (whole : ¬(∃ m x v, s.line.drive = .data k m x v ∧ cl ≠ .good x v) → last = markOf cl) :
    markOf (sinkClass k cl s) = last := by
  unfold sinkClass
  by_cases damaged : ∃ m x v, s.line.drive = .data k m x v ∧ cl ≠ .good x v
  · rw [spoilt damaged]
    obtain ⟨m, x, v, drive, other⟩ := damaged
    rw [damagedSource_of drive other]
    rfl
  · rw [whole damaged, if_neg]
    intro found
    obtain ⟨n, is⟩ := Option.isSome_iff_exists.mp found
    unfold damagedSource at is
    split at is
    case h_1 j m x v drive =>
      split at is
      case isTrue both => exact damaged ⟨m, x, v, by rw [drive, both.1], both.2⟩
      case isFalse => cases is
    case h_2 => cases is

/-- The last channel of a run completes the capture begun over the others (R140). -/
theorem extendCapture_last {front : List Mark} {last : Mark} {capture : Option (List Mark)}
    (begun : front = [] ∨ capture = some front) : extendCapture front.length last capture = some (front ++ [last]) := by
  unfold extendCapture
  rcases begun with rfl | rfl
  · exact if_pos rfl
  · cases front with
    | nil => exact if_pos rfl
    | cons m rest => exact (if_neg (Nat.succ_ne_zero _)).trans (if_pos rfl)

/-- What slot `k` completes at a sink: the marks of its whole run. -/
structure Completes (k : Nat) (m : Mark) (marks : List Mark) (c : Sink) : Prop where
  run : ∃ r, c.run = some r ∧ inRun r.first r.count k = true ∧ marks.length = r.count ∧
    extendCapture (k - r.first) m c.capture = some marks

section
variable {k n : Nat} {m : Mark} {marks : List Mark} {c : Sink} {s : State}

theorem completes_of_last {r : Run} {front : List Mark} (run : c.run = some r) (last : k + 1 = r.first + r.count)
    (length : front.length + 1 = r.count) (begun : front = [] ∨ c.capture = some front) :
    Completes k m (front ++ [m]) c := by
  refine ⟨r, run, by simp [inRun]; omega, by simpa using length, ?_⟩
  rw [show k - r.first = front.length by omega]
  exact extendCapture_last begun

theorem sinkCaptured_completes (whole : Completes k m marks c) :
    sinkCaptured k m c = sinkCompleted marks { c with capture := none } := by
  obtain ⟨r, run, inside, length, extended⟩ := whole
  unfold sinkCaptured
  rw [run]
  dsimp only
  rw [if_pos inside, extended]
  exact if_pos length

theorem captureSlot_completes (here : s.sinks[n]? = some c) (whole : Completes k m marks c) :
    captureSlot k m n s = completeCapture n c marks (s.modSink n (fun c => { c with capture := none })) := by
  obtain ⟨r, run, inside, length, extended⟩ := whole
  unfold captureSlot
  rw [here]
  dsimp only
  rw [run]
  dsimp only
  rw [if_pos inside, extended]
  exact if_pos length

end

/-- With the notice queue empty and 8 sinks at most, what a sink is told of its capture is posted (R153, R185). -/
theorem slotClassified_told {k n : Nat} {cl : SlotClass} {marks : List Mark} {c : Sink} {ev : SinkEvent} {s : State}
    (here : s.sinks[n]? = some c) (whole : Completes k (markOf (sinkClass k cl s)) marks c)
    (told : captureTold marks c = some ev) (few : s.sinks.length ≤ 8) (empty : s.mgmt.notices = []) :
    .sink n c.cfg.tag ev ∈ (slotClassified k cl s).mgmt.notices := by
  have inside : n < s.sinks.length := (List.getElem?_eq_some_iff.mp here).1
  have start : (slotReadBack k cl s).sinks[n]? = some c := by simpa [slotReadBack] using here
  have first : (slotReadBack k cl s).mgmt.notices.length ≤ 2 := by
    have back := slotReadback_atMost k cl (countCarrier k cl (atTick (slotLastTick k s) s))
    have none : (countCarrier k cl (atTick (slotLastTick k s) s)).mgmt.notices = [] := by simpa [atTick] using empty
    rw [none] at back
    exact back
  rw [slotClassified_eq]
  generalize markOf (sinkClass k cl s) = m at whole
  generalize slotReadBack k cl s = u at start first
  have earlier := forEach_through (R := fun t w : State => w.sinks[n]? = t.sinks[n]?) (fun _ => rfl)
    (fun first second => second.trans first) (f := captureSlot k m)
    (fun r other t => by rw [captureSlot_sinks, List.getElem?_modify_ne _ _ other]) inside u
  have later := forEach_through (R := PostsOnly) .refl .trans (f := captureSlot k m)
    (fun r _ t => captureSlot_grows k m r t) inside u
  have count := forEach_ind (fun i t => t.mgmt.notices.length ≤ 2 + i) (f := captureSlot k m) first
    (fun i t low => (captureSlot_atMost k m i t).trans (Nat.succ_le_succ low)) n
  have here' := earlier.1.trans start
  refine later.2.1.subset ?_
  rw [captureSlot_completes here' whole, completeCapture_mgmt, told]
  show _ ∈ (notify _ (State.modSink n _ (forEach n (captureSlot k m) u))).mgmt.notices
  rw [notify_notices]
  rw [if_pos (by show (forEach n (captureSlot k m) u).mgmt.notices.length < 16; omega)]
  simp

/-! ### The rows of a completed capture (R141 to R144) -/

theorem allSilent_iff (marks : List Mark) : allSilent marks = true ↔ ∀ m ∈ marks, m = .silent := by
  simp [allSilent, List.all_eq_true]

theorem gapCounted_eq (marks : List Mark) (k : SinkCounters) :
    gapCounted marks k = { k with gaps := if (∀ m ∈ marks, m.isGood = true) then k.gaps else bump k.gaps } := by
  have gap : isGap marks = true ↔ ¬∀ m ∈ marks, m.isGood = true := by simp [isGap, List.any_eq_true]
  unfold gapCounted
  by_cases good : ∀ m ∈ marks, m.isGood = true
  · rw [if_neg (fun is => gap.mp is good), if_pos good]
  · rw [if_pos (gap.mpr good), if_neg good]

/-- A silent capture is a gap. -/
theorem gapCounted_silent {marks : List Mark} (some' : marks ≠ []) (silent : allSilent marks = true) (k : SinkCounters) :
    gapCounted marks k = { k with gaps := bump k.gaps } := by
  rw [gapCounted_eq, if_neg]
  intro good
  obtain ⟨m, mem⟩ := List.exists_mem_of_ne_nil marks some'
  have heard := good m mem
  rw [(allSilent_iff marks).mp silent m mem] at heard
  cases heard

section
variable {marks : List Mark} {c : Sink}

/-- The row of FILLING and RUNNING short of starvation: the counts kept, the capture pushed. -/
theorem sinkCompleted_pushed (some' : marks ≠ []) (state : c.state = .filling ∨ c.state = .running)
    (short : ¬(allSilent marks = true ∧ 63 ≤ c.silentRun)) : sinkCompleted marks c =
      sinkPushed marks { c with
        silentRun := if allSilent marks = true then c.silentRun + 1 else 0
        counters := gapCounted marks c.counters } := by
  by_cases silent : allSilent marks = true
  · have few : c.silentRun + 1 < 64 := Nat.succ_lt_succ (Nat.not_le.mp (fun many => short ⟨silent, many⟩))
    rw [gapCounted_silent some' silent]
    rcases state with is | is <;> simp [sinkCompleted, is, silent, few]
  · rcases state with is | is <;> simp [sinkCompleted, is, silent]

theorem sinkCompleted_starved (state : c.state = .filling ∨ c.state = .running) (silent : allSilent marks = true)
    (many : 63 ≤ c.silentRun) : sinkCompleted marks c = { c with
      state := .starved, silentRun := 64, queue := [], lastOutput := none
      counters := { c.counters with gaps := bump c.counters.gaps } } := by
  have past : ¬c.silentRun + 1 < 64 := by omega
  rcases state with is | is <;> simp [sinkCompleted, is, silent, past]

/-- A capture pushed in FILLING that reaches the target depth ends FILLING (R142). -/
theorem sinkPushed_ripe (filling : c.state = .filling) (deep : c.cfg.target ≤ (pushCapped 16 marks c.queue).length) :
    (sinkPushed marks c).state = .running ∧ (sinkPushed marks c).slipGuard = 0 ∧ (sinkPushed marks c).lastOutput = none := by
  unfold sinkPushed
  rw [if_pos ⟨filling, deep⟩]
  exact ⟨rfl, rfl, rfl⟩

theorem sinkPushed_unripe (not : c.state = .running ∨ (pushCapped 16 marks c.queue).length < c.cfg.target) :
    (sinkPushed marks c).state = c.state ∧ (sinkPushed marks c).slipGuard = c.slipGuard ∧
      (sinkPushed marks c).lastOutput = c.lastOutput := by
  unfold sinkPushed
  rw [if_neg]
  · exact ⟨rfl, rfl, rfl⟩
  · rintro ⟨filling, deep⟩
    rcases not with running | shallow
    · rw [running] at filling; cases filling
    · omega

theorem sinkPushed_rest (marks : List Mark) (c : Sink) : (sinkPushed marks c).run = c.run ∧
    (sinkPushed marks c).capture = c.capture ∧ (sinkPushed marks c).queue = pushCapped 16 marks c.queue ∧
    (sinkPushed marks c).silentRun = c.silentRun ∧ (sinkPushed marks c).lastGood = c.lastGood ∧
    (sinkPushed marks c).counters = { c.counters with
      overflows := if c.queue.length < 16 then c.counters.overflows else bump c.counters.overflows } := by
  unfold sinkPushed
  dsimp only
  split <;> split <;> exact ⟨rfl, rfl, rfl, rfl, rfl, rfl⟩

end

/-- Settles O42: the marks complete the capture, and the sink's row takes it. -/
theorem capturesFollowTheTable : Obligations.CapturesFollowTheTable := by
  intro k n line c r front marks last s high low top runs here few run positive finish length begun returned spoilt
    damaged whole marksEq silent gaps
  subst marksEq
  have mark : markOf (sinkClass k (slotClass k line s) s) = last := by
    refine markOf_sinkClass damaged (fun not => (whole not).trans ?_)
    show _ = markOf returned
    cases returned with
    | silent | damaged => rfl
    | good x v => cases v <;> rfl
  have completes : Completes k (markOf (sinkClass k (slotClass k line s) s)) (front ++ [last]) c := by
    rw [mark]; exact completes_of_last run finish length begun
  have sink : (slotClassified k (slotClass k line s) s).sinks[n]? =
      some (sinkCompleted (front ++ [last]) { c with capture := none }) := by
    rw [slotClassified_sink here, sinkCaptured_completes completes]
  have ran := exec_dataSlotReceived (line := line) high low top runs
  have some' : front ++ [last] ≠ [] := by simp
  have isSilent : allSilent (front ++ [last]) = true ↔ silent := allSilent_iff _
  have gap : gapCounted (front ++ [last]) c.counters = { c.counters with gaps := gaps } := gapCounted_eq _ _
  refine ⟨fun state short => ⟨_, _, ran, sink, ?_⟩, fun state still many => ?_, fun starved still => ⟨_, ran, ?_⟩,
    fun starved heard => ⟨_, ran, ?_, fun empty => ?_⟩⟩
  · rw [sinkCompleted_pushed (c := { c with capture := none }) some' state (by rwa [isSilent])]
    obtain ⟨run', capture, queue, silentRun, lastGood, counters⟩ := sinkPushed_rest (front ++ [last])
      { c with
        capture := none, silentRun := if allSilent (front ++ [last]) = true then c.silentRun + 1 else 0
        counters := gapCounted (front ++ [last]) c.counters }
    refine ⟨run', capture, queue, fun still => ?_, fun heard => ?_, lastGood, ?_, fun filling deep => ?_, fun not => ?_⟩
    · rw [silentRun]; exact if_pos (isSilent.mpr still)
    · rw [silentRun]; exact if_neg (fun is => heard (isSilent.mp is))
    · rw [counters, gap]
    · rw [queue] at deep
      obtain ⟨state', guard, output⟩ := sinkPushed_ripe (marks := front ++ [last]) (c := { c with
        capture := none, silentRun := if allSilent (front ++ [last]) = true then c.silentRun + 1 else 0
        counters := gapCounted (front ++ [last]) c.counters }) filling deep
      refine ⟨state', guard, output, fun empty => slotClassified_told here completes ?_ few empty⟩
      have shortOf : ¬(allSilent (front ++ [last]) = true ∧ 64 ≤ c.silentRun + 1) := by
        rw [isSilent]; exact fun both => short ⟨both.1, by omega⟩
      simp only [captureTold, filling]
      rw [if_neg shortOf, pushTold, if_pos ⟨filling, deep⟩, run]
      rfl
    · rw [queue] at not
      exact sinkPushed_unripe not
  · have starves' : starves k line s = true := by
      have still' := isSilent.mpr still
      obtain ⟨r', run', inside, length', extended⟩ := completes.run
      have any : s.sinks.any (fun c => match c.run with
          | some r => (c.state == .filling || c.state == .running) && inRun r.first r.count k &&
            decide (64 ≤ c.silentRun + 1) && (match extendCapture (k - r.first)
              (markOf (sinkClass k (slotClass k line s) s)) c.capture with
            | some ms => ms.length == r.count && allSilent ms
            | none => false)
          | none => false) = true := by
        refine List.any_eq_true.mpr ⟨c, List.mem_of_getElem? here, ?_⟩
        rw [run']
        dsimp only
        rw [extended]
        simp only [inside, length', still']
        simp [many]
        exact state
      simp only [starves, runs, isDataSlot, low, top, decide_true, Bool.and_self, Bool.true_and]
      exact any
    refine ⟨_, exec_slotEndRow (c := .sinkStarved k line) rfl starves' high low top runs, ?_, fun empty =>
      slotClassified_told here completes ?_ few empty⟩
    · rw [sink, sinkCompleted_starved (c := { c with capture := none }) state (isSilent.mpr still) many]
    · have both : allSilent (front ++ [last]) = true ∧ 64 ≤ c.silentRun + 1 := ⟨isSilent.mpr still, by omega⟩
      unfold captureTold
      rw [if_pos both, run]
      rcases state with is | is <;> (rw [is]; rfl)
  · rw [sink]
    simp only [sinkCompleted, starved, isSilent.mpr still, if_true]
  · have heard' : ¬allSilent (front ++ [last]) = true := fun is => heard (isSilent.mp is)
    rw [sink]
    simp only [sinkCompleted, starved, if_neg heard', gap]
    rfl
  · have heard' : ¬allSilent (front ++ [last]) = true := fun is => heard (isSilent.mp is)
    refine slotClassified_told here completes ?_ few empty
    simp only [captureTold, starved, if_neg heard', run]
    rfl

end Sys2Proof.Proofs
end

section
/-! The start of a data slot: the take, the words handed over, the word driven. -/

namespace Sys2Proof.Proofs
open Sys2Proof.Machine

/-! ### The take (R129, R130) -/

/-- The row of the take that applies is the one the model makes. -/
theorem take_of_row {bridge : Bool} {c c' : Source} {fr : Option (List Sample)} (row : TakeRow bridge c fr c') :
    fr = takeFrame bridge c ∧ c' = c.take bridge := by
  have sent : c.lastSent ≠ none ↔ c.lastSent.isSome = true := Option.isSome_iff_ne_none.symm
  unfold TakeRow at row
  dsimp only at row
  rw [sent] at row
  obtain ⟨none, frame, rfl⟩ | ⟨skips, frame, rfl⟩ | ⟨repeats, frame, rfl⟩ | ⟨some', noSkip, noRepeat, frame, rfl⟩ := row
  · have choice : takeChoice bridge c = .underrun := if_pos none
    unfold takeFrame Source.take
    rw [choice]
    exact ⟨frame, rfl⟩
  · have choice : takeChoice bridge c = .skip := (if_neg (by omega)).trans (if_pos skips)
    unfold takeFrame Source.take
    rw [choice]
    exact ⟨frame, rfl⟩
  · have choice : takeChoice bridge c = .repeatLast :=
      (if_neg (by omega)).trans ((if_neg (fun skips => by omega)).trans (if_pos repeats))
    unfold takeFrame Source.take
    rw [choice]
    exact ⟨frame, rfl⟩
  · have choice : takeChoice bridge c = .pop := (if_neg some').trans ((if_neg noSkip).trans (if_neg noRepeat))
    unfold takeFrame Source.take
    rw [choice]
    exact ⟨frame, rfl⟩

/-- A take keeps all of a source but its queue, last sent frame, guard count and counters. -/
theorem take_rest (bridge : Bool) (c : Source) : (c.take bridge).cfg = c.cfg ∧ (c.take bridge).state = c.state ∧
    (c.take bridge).run = c.run := by
  unfold Source.take
  split <;> exact ⟨rfl, rfl, rfl⟩

section
variable {k n : Nat} {c : Source} {r : Run} {s : State}

/-- The state after the take of source `n` over run `r`. -/
def taken (n : Nat) (c : Source) (r : Run) (s : State) : State :=
  (s.modLine (fun l => { l with
    handed := l.handed ++ takeWords n r c (takeFrame (s.clocking c.cfg.port == some .bridge) c) })).modSource n
    (Source.take (s.clocking c.cfg.port == some .bridge))

theorem takeAt_takes (here : s.sources[n]? = some c) (owned : c.state = .owned) (run : c.run = some r) (first : r.first = k) :
    takeAt k n s = taken n c r s := by
  unfold takeAt
  rw [here]
  dsimp only
  rw [run]
  exact if_pos ⟨owned, first⟩

theorem takeAt_idle (idle : ∀ c r, s.sources[n]? = some c → c.run = some r → r.first = k → c.state ≠ .owned) :
    takeAt k n s = s := by
  unfold takeAt
  split
  case h_1 c here =>
    split
    case h_1 r run => exact if_neg (fun both => idle c r here run both.2 both.1)
    case h_2 => rfl
  case h_2 => rfl

theorem taken_source (here : s.sources[n]? = some c) : (taken n c r s).sources[n]? =
    some (c.take (s.clocking c.cfg.port == some .bridge)) := modify_getElem?_self _ here

/-- Where one source alone begins its run in the slot, the takes are its take. -/
theorem takes_single (here : s.sources[n]? = some c) (owned : c.state = .owned) (run : c.run = some r) (first : r.first = k)
    (single : ∀ (m : Nat) (d : Source) (q : Run), s.sources[m]? = some d → d.state = .owned → d.run = some q → q.first = k →
      m = n) : forEach s.sources.length (takeAt k) s = taken n c r s := by
  have inside : n < s.sources.length := (List.getElem?_eq_some_iff.mp here).1
  have rounds := forEach_ind (fun i t => t = if n < i then taken n c r s else s) (f := takeAt k) (s := s)
    (if_neg (Nat.not_lt_zero n)).symm (fun i t is => ?_) s.sources.length
  · rw [rounds, if_pos inside]
  · by_cases past : n < i
    · rw [if_pos past] at is
      rw [if_pos (past.trans (Nat.lt_succ_self i)), is]
      refine takeAt_idle (fun d q at' run' first' owned' => ?_)
      have before : s.sources[i]? = some d := by
        rw [← at']
        exact (modify_getElem?_ne _ (Nat.ne_of_lt past)).symm
      have same := single i d q before owned' run' first'
      omega
    · rw [if_neg past] at is
      rw [is]
      by_cases turn : i = n
      · subst turn
        rw [if_pos (Nat.lt_succ_self i)]
        exact takeAt_takes here owned run first
      · rw [if_neg (by omega)]
        exact takeAt_idle (fun d q at' run' first' owned' => turn (single i d q at' owned' run' first'))

theorem takes_none (none : ∀ (m : Nat) (d : Source) (q : Run), s.sources[m]? = some d → d.run = some q → q.first = k →
    d.state ≠ .owned) : forEach s.sources.length (takeAt k) s = s :=
  forEach_inv (fun t => t = s) _ _ _ rfl (fun m t is => by rw [is]; exact takeAt_idle (none m))

/-- The words of a take: the first for the slot of the take, the others for those that follow. -/
theorem takeWords_eq (n : Nat) (c : Source) (frame : Option (List Sample)) (first : r.first = k) (positive : 0 < r.count) :
    takeWords n r c frame = ⟨k, n, (frame.getD []).getD 0 0, frame.isSome && !c.muted⟩ ::
      (List.range (r.count - 1)).map (fun j =>
        ⟨k + (j + 1), n, (frame.getD []).getD (j + 1) 0, frame.isSome && !c.muted⟩) := by
  obtain ⟨m, count⟩ := Nat.exists_eq_succ_of_ne_zero (Nat.ne_of_gt positive)
  unfold takeWords
  rw [count, first, List.range_succ_eq_map, List.map_cons, List.map_map]
  rfl

end

/-! ### The decision what to drive (R4, R8) -/

theorem exec_dataSlotStart {k : Nat} {act : Option (Byte × Byte)} {s : State} (high : s.resetLow = false) (low : 8 ≤ k)
    (top : k ≤ 63) (runs : s.sync.state.timerRuns = true) :
    exec (.dataSlotStart ⟨k, act⟩) s = .next (slotStarted k (meetingAct act) s) := by
  refine (underReset_high _ high).trans (congrArg _ (if_pos ?_))
  simp [runs, isDataSlot, low, top]

/-- A word is driven while its source and its slot are OWNED. -/
theorem wordDriven_iff (s : State) (w : HandedWord) : wordDriven s w = true ↔
    ∃ c : Source, s.sources[w.source]? = some c ∧ c.state = .owned ∧ ∃ h p, (s.slot w.slot).use = .owned h c.cfg.tag p := by
  unfold wordDriven
  cases here : s.sources[w.source]? with
  | none => simp
  | some c =>
    cases (s.slot w.slot).use <;> simp

section
variable {k : Nat} {s : State}

/-- The words handed for other slots. -/
def wordsLeft (k : Nat) (l : List HandedWord) : List HandedWord := l.filter (fun w => w.slot != k)

theorem decideSlot_drives {w : HandedWord} (drives : s.sync.state.drives = true)
    (found : s.line.handed.find? (fun w => w.slot == k && wordDriven s w) = some w) :
    decideSlot k s = { s with line := { s.line with
      drive := .data k w.source w.sample w.valid, handed := wordsLeft k s.line.handed
      driven := s.line.driven ++ [⟨32 * k, bitsOf 32 (dataWord k w.sample w.valid).toNat⟩] } } := by
  have drive : slotDrive k s = .data k w.source w.sample w.valid := by
    unfold slotDrive
    rw [if_pos drives, found]
  unfold decideSlot
  rw [drive]
  rfl

theorem decideSlot_nothing (none : s.sync.state.drives = true →
    s.line.handed.find? (fun w => w.slot == k && wordDriven s w) = none) :
    decideSlot k s = { s with line := { s.line with drive := .nothing, handed := wordsLeft k s.line.handed } } := by
  have drive : slotDrive k s = .nothing := by
    unfold slotDrive
    split
    case isTrue drives => rw [none drives]
    case isFalse => rfl
  unfold decideSlot
  rw [drive]
  rfl

/-- Words for other slots are not looked at. -/
theorem find_skips {front back : List HandedWord} {P : HandedWord → Bool} (others : ∀ w ∈ front, w.slot ≠ k) :
    (front ++ back).find? (fun w => w.slot == k && P w) = back.find? (fun w => w.slot == k && P w) := by
  rw [List.find?_append, List.find?_eq_none.mpr (fun w mem => by simp [others w mem]), Option.none_or]

theorem wordsLeft_append (front back : List HandedWord) : wordsLeft k (front ++ back) = wordsLeft k front ++ wordsLeft k back :=
  List.filter_append _ _

theorem wordsLeft_others {l : List HandedWord} (others : ∀ w ∈ l, w.slot ≠ k) : wordsLeft k l = l :=
  List.filter_eq_self.mpr (fun w mem => by simpa using others w mem)

end

/-- The words of a take for the slots behind the first. -/
theorem laterWords_slot {k n : Nat} {m : Nat} {x : Nat → Sample} {v : Bool} :
    ∀ w ∈ (List.range m).map (fun j => (⟨k + (j + 1), n, x (j + 1), v⟩ : HandedWord)), w.slot ≠ k := by
  intro w mem
  obtain ⟨j, -, rfl⟩ := List.mem_map.mp mem
  show k + (j + 1) ≠ k
  omega

/-- A RESEEK of an OWNED source ends its driving, and no source but the queued items changes besides. -/
theorem meeting_reseek {i : Byte} {c : Source} {r : Run} {s : State} (here : s.sources[i.toNat]? = some c)
    (low : i.toNat ≤ 63) (owned : c.state = .owned) (run : c.run = some r) :
    ∃ q, let t := meetingAct (some (0x0A, i)) s
      t.sources[i.toNat]? = some (sourceReleasing q c) ∧ t.line = s.line ∧ t.mgmt.lmp = some ⟨[0x00, 0x00], .nothing⟩ := by
  have inside : i.toNat < s.sources.length := (List.getElem?_eq_some_iff.mp here).1
  have done : doAction .reseekSource i.toNat s = (.done, enterReleasing i.toNat s) := by
    simp [doAction, inside, reseek, sourceIs_of here, owned]
  have met : meetingAct (some (0x0A, i)) s = respond .done [] (enterReleasing i.toNat s) := by
    show act .reseekSource i s = _
    rw [act_in_range low, done]
    rfl
  have requeued := post_requeues (.release i.toNat c.cfg.tag r false) (s.modSource i.toNat (sourceReleasing .nothing)) i.toNat
  rw [← enterReleasing_eq here run, sourceAt_some (s := s.modSource i.toNat (sourceReleasing .nothing))
    (modify_getElem?_self _ here)] at requeued
  obtain ⟨q, is⟩ := of_sourceAt requeued
  rw [met]
  exact ⟨q, is, by simp, respond_lmp _ _ _⟩

/-- Settles O39: with a take its first word is driven, or none where a RESEEK meets it; without one the first that may be. -/
theorem dataSlotStartTakesAndDrives : Obligations.DataSlotStartTakesAndDrives := by
  intro k s high low top
  refine ⟨fun n c c' r fr state here owned run first positive slot others single row => ?take, fun none runs => ?noTake⟩
  case take =>
    have runs : s.sync.state.timerRuns = true := timerRuns_of_drives (by rcases state with is | is <;> rw [is] <;> rfl)
    have drives : s.sync.state.drives = true := by rcases state with is | is <;> rw [is] <;> rfl
    have bridge : decide (s.clocking c.cfg.port = some .bridge) = (s.clocking c.cfg.port == some .bridge) :=
      (beq_eq_decide _ _).symm
    rw [bridge] at row
    obtain ⟨rfl, rfl⟩ := take_of_row row
    intro x valid
    have takes : forEach s.sources.length (takeAt k) (atTick (32 * k) s) = taken n c r (atTick (32 * k) s) :=
      takes_single (s := atTick (32 * k) s) here owned run first single
    have handed : (taken n c r (atTick (32 * k) s)).line.handed = s.line.handed ++ (⟨k, n, x, valid⟩ ::
        (List.range (r.count - 1)).map (fun j => ⟨k + (j + 1), n,
          ((takeFrame (s.clocking c.cfg.port == some .bridge) c).getD []).getD (j + 1) 0, valid⟩)) :=
      congrArg (s.line.handed ++ ·) (takeWords_eq n c _ first positive)
    have source : (taken n c r (atTick (32 * k) s)).sources[n]? = some (c.take (s.clocking c.cfg.port == some .bridge)) :=
      taken_source (s := atTick (32 * k) s) here
    obtain ⟨cfg, state', run'⟩ := take_rest (s.clocking c.cfg.port == some .bridge) c
    have left : wordsLeft k (taken n c r (atTick (32 * k) s)).line.handed = s.line.handed ++
        (List.range (r.count - 1)).map (fun j => ⟨k + (j + 1), n,
          ((takeFrame (s.clocking c.cfg.port == some .bridge) c).getD []).getD (j + 1) 0, valid⟩) := by
      rw [handed, wordsLeft_append, wordsLeft_others others]
      refine congrArg (s.line.handed ++ ·) ((List.filter_cons_of_neg (by simp)).trans ?_)
      exact wordsLeft_others (laterWords_slot (x := fun j => (Option.getD _ []).getD j 0))
    refine ⟨⟨_, exec_dataSlotStart high low top runs, ?_⟩, fun i is small => ?_⟩
    · have found : (taken n c r (atTick (32 * k) s)).line.handed.find? (fun w => w.slot == k &&
          wordDriven (taken n c r (atTick (32 * k) s)) w) = some ⟨k, n, x, valid⟩ := by
        rw [handed, find_skips others, List.find?_cons_of_pos]
        simp only [beq_self_eq_true, Bool.true_and]
        refine (wordDriven_iff _ _).mpr ⟨_, source, state'.trans owned, ?_⟩
        rw [cfg]
        exact slot
      have is : slotStarted k (meetingAct none) s = decideSlot k (taken n c r (atTick (32 * k) s)) :=
        congrArg (decideSlot k) takes
      rw [is, decideSlot_drives (s := taken n c r (atTick (32 * k) s)) drives found, left]
      exact ⟨modify_of_getElem? _ here, rfl, rfl, rfl, rfl, rfl, rfl, rfl, rfl, rfl⟩
    · subst is
      obtain ⟨q, source', line, lmp⟩ := meeting_reseek source small (state'.trans owned) (run'.trans run)
      have is : slotStarted k (meetingAct (some (0x0A, i))) s =
          decideSlot k (meetingAct (some (0x0A, i)) (taken i.toNat c r (atTick (32 * k) s))) :=
        congrArg (fun t => decideSlot k (meetingAct (some (0x0A, i)) t)) takes
      refine ⟨_, sourceReleasing q (c.take (s.clocking c.cfg.port == some .bridge)), exec_dataSlotStart high low top runs, ?_⟩
      rw [is, decideSlot_nothing]
      · have driven := congrArg Line.driven line
        exact ⟨rfl, driven, source', rfl, rfl, run'.trans run, rfl, lmp⟩
      · intro _
        rw [line, handed, find_skips others, List.find?_cons_of_neg]
        · refine List.find?_eq_none.mpr (fun w mem => ?_)
          have other := laterWords_slot (x := fun j => (Option.getD _ []).getD j 0) w mem
          simp [other]
        · simp only [beq_self_eq_true, Bool.true_and, wordDriven_iff]
          rintro ⟨d, at', owned', -⟩
          rw [source'] at at'
          cases at'
          cases owned'
  case noTake =>
    intro goes left
    have still : slotStarted k (meetingAct .none) s = decideSlot k (atTick (32 * k) s) :=
      congrArg (decideSlot k) (takes_none (s := atTick (32 * k) s) none)
    have may (w : HandedWord) (drives : s.sync.state.drives = true) :
        (w.slot == k && wordDriven (atTick (32 * k) s) w) = true ↔ goes w := by
      rw [Bool.and_eq_true, wordDriven_iff, beq_iff_eq]
      constructor
      · rintro ⟨rfl, c, here, owned, use⟩
        exact ⟨rfl, drives, c, here, owned, use⟩
      · rintro ⟨rfl, -, c, here, owned, use⟩
        exact ⟨rfl, c, here, owned, use⟩
    refine ⟨fun front later w handed before going => ?_, fun nothing => ?_⟩
    · have drives := going.2.1
      have found : (atTick (32 * k) s).line.handed.find? (fun w => w.slot == k && wordDriven (atTick (32 * k) s) w) =
          some w := by
        show s.line.handed.find? _ = _
        rw [handed, List.find?_append, List.find?_eq_none.mpr (fun v mem is => before v mem ((may v drives).mp is)),
          Option.none_or]
        exact List.find?_cons_of_pos ((may w drives).mpr going)
      rw [exec_dataSlotStart high low top runs, still, decideSlot_drives (s := atTick (32 * k) s) drives found]
      rfl
    · rw [exec_dataSlotStart high low top runs, still, decideSlot_nothing]
      · rfl
      · intro drives
        exact List.find?_eq_none.mpr (fun v mem is => nothing v mem ((may v drives).mp is))

end Sys2Proof.Proofs
end

section
/-! The marker edges that a report finds in the ticks about a frame start. -/

namespace Sys2Proof.Proofs
open Sys2Proof.Machine

/-! ### Stretches of ticks -/

/-- The ticks of a stretch of a given length, by their positions. -/
def HasTicks (l : List Bool) (len : Nat) (f : Nat → Bool) : Prop := ∀ i, l[i]? = if i < len then some (f i) else none

theorem HasTicks.replicate (n : Nat) (b : Bool) : HasTicks (List.replicate n b) n (fun _ => b) :=
  fun _ => List.getElem?_replicate

theorem HasTicks.append {l l' : List Bool} {n n' : Nat} {f f' : Nat → Bool} (h : HasTicks l n f) (h' : HasTicks l' n' f') :
    HasTicks (l ++ l') (n + n') (fun i => if i < n then f i else f' (i - n)) := by
  have length : l.length = n := by
    have last := h l.length
    rw [List.getElem?_eq_none (Nat.le_refl _)] at last
    have high : n ≤ l.length := by by_contra low; rw [if_pos (by omega)] at last; cases last
    have next := h n
    rw [if_neg (Nat.lt_irrefl n), List.getElem?_eq_none_iff] at next
    omega
  intro i
  by_cases low : i < n
  · rw [List.getElem?_append_left (by omega), h i, if_pos low, if_pos (by omega)]
    exact congrArg some (if_pos low).symm
  · rw [List.getElem?_append_right (by omega), length, h' (i - n)]
    have shift : i - n < n' ↔ i < n + n' := by omega
    exact if_congr shift (congrArg some (if_neg low).symm) rfl

/-- Two stretches of the same ticks are the same. -/
theorem HasTicks.eq {l l' : List Bool} {n n' : Nat} {f f' : Nat → Bool} (h : HasTicks l n f) (h' : HasTicks l' n' f')
    (length : n = n') (ticks : ∀ i, i < n → f i = f' i) : l = l' := by
  subst length
  refine List.ext_getElem? (fun i => ?_)
  rw [h i, h' i]
  split
  case isTrue low => rw [ticks i low]
  case isFalse => rfl

/-- One dominant stretch. -/
def pulse (a n m : Nat) : List Bool := List.replicate a false ++ (List.replicate n true ++ List.replicate m false)

theorem pulse_ticks (a n m : Nat) : HasTicks (pulse a n m) (a + (n + m)) (fun i => decide (a ≤ i ∧ i < a + n)) := by
  intro i
  rw [pulse, (HasTicks.replicate a false).append ((HasTicks.replicate n true).append (HasTicks.replicate m false)) i]
  refine if_congr Iff.rfl (congrArg some ?_) rfl
  by_cases low : i < a
  · simp [low]
  · by_cases high : i - a < n <;> simp [low, high] <;> omega

/-- Two dominant stretches with recessive ticks between them. -/
def twoPulses (a n g n' m : Nat) : List Bool := List.replicate a false ++ (List.replicate n true ++ pulse (g + 1) n' m)

theorem twoPulses_ticks (a n g n' m : Nat) : HasTicks (twoPulses a n g n' m) (a + (n + (g + 1 + (n' + m))))
    (fun i => decide (a ≤ i ∧ i < a + n ∨ a + n + (g + 1) ≤ i ∧ i < a + n + (g + 1) + n')) := by
  intro i
  rw [twoPulses, (HasTicks.replicate a false).append ((HasTicks.replicate n true).append (pulse_ticks (g + 1) n' m)) i]
  refine if_congr Iff.rfl (congrArg some ?_) rfl
  by_cases low : i < a
  · simp [low]; omega
  · by_cases high : i - a < n
    · simp [low, high]; omega
    · simp only [low, high, if_false, decide_eq_decide]; omega

/-! ### Their markers (R189) -/

theorem markerEdges_skip (t a : Nat) (rest : List Bool) :
    markerEdges t 0 (List.replicate a false ++ rest) = markerEdges (t + a) 0 rest := by
  induction a generalizing t with
  | zero => rfl
  | succ a ih =>
    rw [List.replicate_succ, List.cons_append]
    show markerEdges (t + 1) 0 _ = _
    rw [ih]
    congr 1
    omega

/-- A recessive tick parts a stretch in two. -/
theorem markerEdges_part (t run : Nat) (front rest : List Bool) : markerEdges t run (front ++ false :: rest) =
    markerEdges t run front ++ markerEdges (t + front.length + 1) 0 rest := by
  induction front generalizing t run with
  | nil => rfl
  | cons b front ih =>
    rw [List.cons_append, markerEdges, markerEdges, ih, ih]
    have place : t + 1 + front.length + 1 = t + (b :: front).length + 1 := by simp; omega
    rw [place]
    split
    · rw [List.append_assoc]
    · rfl

theorem markerEdges_pulse (t a n m : Nat) : markerEdges t 0 (pulse a n m) = if 32 ≤ n then [t + a] else [] := by
  have ended : pulse a n m ++ [false] = List.replicate a false ++ (List.replicate n true ++ false :: List.replicate m false) := by
    rw [pulse, List.append_assoc, List.append_assoc, ← List.replicate_succ', List.replicate_succ]
  have run := markerEdges_run (t + a) 0 n (List.replicate m false)
  rw [← markerEdges_append_recessive, ended, markerEdges_skip]
  simpa using run

theorem markerEdges_twoPulses (a n g n' m : Nat) (long : 32 ≤ n) (long' : 32 ≤ n') :
    markerEdges 0 0 (twoPulses a n g n' m) = [a, a + n + (g + 1)] := by
  have run := markerEdges_run a 0 n (pulse g n' m)
  rw [Nat.add_zero, if_pos (by omega), markerEdges_pulse, if_pos long'] at run
  rw [twoPulses, show pulse (g + 1) n' m = false :: pulse g n' m from rfl, markerEdges_skip, Nat.zero_add, run]
  simp
  omega

/-! ### What the station drove about the frame start -/

/-- The own marker. -/
def ownMarker : Driven := ⟨0, List.replicate 32 true⟩

theorem droveAt_ownMarker (t : Int) : droveAt [ownMarker] t = decide (0 ≤ t ∧ t < 32) := by
  have tick : (List.replicate 32 true).getD t.toNat false = decide (t.toNat < 32) := by
    rw [List.getD_eq_getElem?_getD, List.getElem?_replicate]
    split <;> simp [*]
  simp only [droveAt, ownMarker, List.any_cons, List.any_nil, Bool.or_false, Int.sub_zero, tick, ← Bool.decide_and,
    decide_eq_decide]
  omega

/-- What the own marker adds to a stretch that begins `lead` ticks ahead of the frame start. -/
theorem HasTicks.withOwnMarker {l : List Bool} {n lead : Nat} {f : Nat → Bool} (h : HasTicks l n f) :
    HasTicks (withOwn [ownMarker] (-lead) l) n (fun i => f i || decide (lead ≤ i ∧ i < lead + 32)) := by
  intro i
  rw [withOwn_getElem?, h i, droveAt_ownMarker]
  split
  · have place : (0 ≤ -(lead : Int) + i ∧ -(lead : Int) + i < 32) ↔ lead ≤ i ∧ i < lead + 32 := by omega
    simp only [Option.map_some, place]
  · rfl

/-- A station with nothing to drive in slot 32 drove what is on record. -/
theorem drivenAbout_eq {s : State} (words : ∀ w ∈ s.line.handed, w.slot ≠ 32)
    (runs : ∀ c ∈ s.sources, ∀ r, c.run = some r → r.first ≠ 32) : drivenAbout s = s.line.driven := by
  have takes : forEach s.sources.length (takeAt 32) (atTick (32 * 32) s) = atTick (32 * 32) s :=
    takes_none (s := atTick (32 * 32) s) (fun m d q at' run first _ => runs d (List.mem_of_getElem? at') q run first)
  have started : slotStarted 32 (fun t => t) s = decideSlot 32 (atTick (32 * 32) s) := congrArg (decideSlot 32) takes
  unfold drivenAbout
  split
  · rfl
  · rw [started, decideSlot_nothing]
    · rfl
    · exact fun _ => List.find?_eq_none.mpr (fun w mem => by simp [words w mem])

/-- The leads of edges, as far as a report holds them (R5). -/
def reportedLeads (s : State) (edges : List Int) : List Int :=
  edges.filter (fun x => decide (-1023 ≤ x) && decide (x ≤ s.line.reportFrom))

theorem reportedLeads_zero {s : State} (range : 0 ≤ s.line.reportFrom) : reportedLeads s [0] = [0] := by
  simp [reportedLeads, range]

theorem reportLeads_sound {s : State} {driven : List Driven} (lead : Nat) (ticks : List Bool) (about : drivenAbout s = driven) :
    reportLeads (.sound ⟨lead, ticks⟩) s =
      reportedLeads s ((markerEdges 0 0 (withOwn driven (-lead) ticks)).map (fun (i : Nat) => (lead : Int) - i)) := by
  unfold reportLeads
  rw [about]
  rfl

theorem reportLeads_failed (s : State) (lead : Nat) (ticks : List Bool) : reportLeads (.failed ⟨lead, ticks⟩) s =
    reportedLeads s ((markerEdges 0 0 ticks).map (fun (i : Nat) => (lead : Int) - i)) := rfl

/-! ### The cases of R5 -/

section
variable {lead before rest : Nat}

theorem withOwn_quiet (fits : lead ≤ before + rest) :
    withOwn [ownMarker] (-lead) (List.replicate (before + 32 + rest) false) = pulse lead 32 (before + rest - lead) :=
  (HasTicks.replicate _ false).withOwnMarker.eq (pulse_ticks _ _ _) (by omega) (fun i _ => by simp)

/-- A foreign marker that meets the own one is of one run with it. -/
theorem withOwn_meets (fits : lead ≤ before + rest) (near : lead ≤ before + 32) (near' : before ≤ lead + 32) :
    withOwn [ownMarker] (-lead) (pulse before 32 rest) =
      pulse (min before lead) (max before lead + 32 - min before lead) (before + rest - max before lead) :=
  (pulse_ticks _ _ _).withOwnMarker.eq (pulse_ticks _ _ _) (by omega) (fun i _ => by
    rw [← Bool.decide_or, decide_eq_decide]; omega)

theorem withOwn_ahead (fits : lead ≤ before + rest) (apart : before + 33 ≤ lead) :
    withOwn [ownMarker] (-lead) (pulse before 32 rest) =
      twoPulses before 32 (lead - before - 33) 32 (before + rest - lead) :=
  (pulse_ticks _ _ _).withOwnMarker.eq (twoPulses_ticks _ _ _ _ _) (by omega) (fun i _ => by
    rw [← Bool.decide_or, decide_eq_decide]; omega)

theorem withOwn_behind (apart : lead + 33 ≤ before) :
    withOwn [ownMarker] (-lead) (pulse before 32 rest) = twoPulses lead 32 (before - lead - 33) 32 rest :=
  (pulse_ticks _ _ _).withOwnMarker.eq (twoPulses_ticks _ _ _ _ _) (by omega) (fun i _ => by
    rw [← Bool.decide_or, decide_eq_decide]; omega)

theorem withOwn_stub (n : Nat) : withOwn [ownMarker] (-((lead + n : Nat) : Int)) (pulse lead n (32 + rest)) =
    pulse lead (n + 32) rest :=
  (pulse_ticks _ _ _).withOwnMarker.eq (pulse_ticks _ _ _) (by omega) (fun i _ => by
    rw [← Bool.decide_or, decide_eq_decide]; omega)

/-- A word of the station's own just ahead of its marker. -/
def ownWord (word : List Bool) : Driven := ⟨-(word.length + 1), word ++ [false]⟩

theorem droveAt_ownWord_early (word : List Bool) {t : Int} (early : t < -(word.length + 1)) :
    droveAt [ownWord word] t = false := by
  have out : decide (-(word.length + 1 : Int) ≤ t) = false := decide_eq_false (by omega)
  simp only [droveAt, ownWord, List.any_cons, List.any_nil, out, Bool.false_and, Bool.or_false]

/-- It ends recessive. -/
theorem droveAt_ownWord_late (word : List Bool) {t : Int} (late : -1 ≤ t) : droveAt [ownWord word] t = false := by
  have beyond : word.length ≤ (t - -(word.length + 1 : Int)).toNat := by omega
  have tick : (word ++ [false]).getD (t - -(word.length + 1 : Int)).toNat false = false := by
    rw [List.getD_eq_getElem?_getD, List.getElem?_append_right beyond]
    cases (t - -(word.length + 1 : Int)).toNat - word.length <;> rfl
  simp only [droveAt, ownWord, List.any_cons, List.any_nil, Bool.or_false, tick, Bool.and_false]

/-- A word of fewer than 32 ticks and a recessive tick ahead of the own marker leave it alone. -/
theorem markerEdges_ownWord {word : List Bool} (short : word.length < 32) (fits : lead ≤ before + rest) :
    markerEdges 0 0 (withOwn [ownWord word, ownMarker] (-lead) (List.replicate (before + 32 + rest) false)) = [lead] := by
  have both (t : Int) : droveAt [ownWord word, ownMarker] t = (droveAt [ownWord word] t || droveAt [ownMarker] t) := by
    simp [droveAt]
  have whole : HasTicks (withOwn [ownWord word, ownMarker] (-lead) (List.replicate (before + 32 + rest) false))
      (before + 32 + rest) (fun i => droveAt [ownWord word] (-lead + i) || decide (lead ≤ i ∧ i < lead + 32)) := by
    intro i
    rw [withOwn_getElem?, List.getElem?_replicate, both, droveAt_ownMarker]
    have place : (0 ≤ -(lead : Int) + i ∧ -(lead : Int) + i < 32) ↔ lead ≤ i ∧ i < lead + 32 := by omega
    split
    · simp only [Option.map_some, place, Bool.false_or]
    · rfl
  cases lead with
  | zero =>
    have alone := whole.eq (pulse_ticks 0 32 (before + rest)) (by omega) (fun i _ => by
      rw [droveAt_ownWord_late word (by omega), Bool.false_or])
    rw [alone, markerEdges_pulse, if_pos (Nat.le_refl _)]
  | succ ahead =>
    have wordTicks : HasTicks (withOwn [ownWord word] (-((ahead + 1 : Nat) : Int)) (List.replicate ahead false)) ahead
        (fun i => droveAt [ownWord word] (-((ahead + 1 : Nat) : Int) + i)) := by
      intro i
      rw [withOwn_getElem?, List.getElem?_replicate]
      split
      · simp only [Option.map_some, Bool.false_or]
      · rfl
    have parted := whole.eq (wordTicks.append ((HasTicks.replicate 1 false).append
      (pulse_ticks 0 32 (before + rest - (ahead + 1))))) (by omega) (fun i _ => by
        by_cases early : i < ahead
        · simp [early]; omega
        · rw [droveAt_ownWord_late word (by omega), if_neg early]
          by_cases parts : i - ahead < 1
          · simp [parts]; omega
          · simp only [parts, if_false, Bool.false_or, decide_eq_decide]; omega)
    have quiet : markerEdges 0 0 (withOwn [ownWord word] (-((ahead + 1 : Nat) : Int)) (List.replicate ahead false)) = [] := by
      have front := wordTicks.eq ((HasTicks.replicate (ahead - word.length) false).append
        (l' := (withOwn [ownWord word] (-((ahead + 1 : Nat) : Int)) (List.replicate ahead false)).drop (ahead - word.length))
        (n' := ahead - (ahead - word.length))
        (f' := fun i => droveAt [ownWord word] (-((ahead + 1 : Nat) : Int) + (ahead - word.length + i : Nat)))
        (fun i => by
          rw [List.getElem?_drop, wordTicks]
          exact if_congr (by omega) rfl rfl)) (by omega) (fun i low => by
        by_cases early : i < ahead - word.length
        · rw [if_pos early]; exact droveAt_ownWord_early word (by omega)
        · rw [if_neg early, Nat.add_sub_cancel' (by omega)])
      rw [front, markerEdges_skip]
      exact markerEdges_of_short (by simp; omega)
    rw [parted, show List.replicate 1 false ++ pulse 0 32 (before + rest - (ahead + 1)) =
      false :: pulse 0 32 (before + rest - (ahead + 1)) from rfl, markerEdges_part, quiet, markerEdges_pulse,
      if_pos (Nat.le_refl _)]
    simp

end

/-- Settles O37: the dominant stretches of each case, and the edges of stretches of 32 ticks and more. -/
theorem markersOnTheLineAreReported : Obligations.MarkersOnTheLineAreReported := by
  intro lead before rest s words runs range fits own quiet marked b reported stub
  have about := drivenAbout_eq words runs
  have noEdges : reportedLeads s [] = [] := rfl
  have quietEdges : markerEdges 0 0 quiet.ticks = [] := markerEdges_recessive _ _ _
  have markedEdges : (markerEdges 0 0 marked.ticks).map (fun (i : Nat) => (lead : Int) - i) = [b] := by
    rw [show marked.ticks = pulse before 32 rest from rfl, markerEdges_pulse, if_pos (Nat.le_refl _)]
    simp [b]
  have stubIs (n : Nat) : stub n = .sound ⟨((lead + n : Nat) : Int), pulse lead n (32 + rest)⟩ := by
    rw [Int.natCast_add]
    rfl
  have markedIs : marked = ⟨lead, pulse before 32 rest⟩ := rfl
  refine ⟨?_, ?_, fun nothing => ⟨?_, ?_, fun n few => ?_⟩, fun drives => ⟨?_, fun ahead => ?_, fun ahead near => ?_,
    fun near behind => ?_, fun behind => ?_, fun n => ?_⟩, fun word short drives => ?_⟩
  · rw [reportLeads_failed, quietEdges]; rfl
  · rw [reportLeads_failed, markedEdges]; rfl
  · rw [reportLeads_sound lead _ (about.trans nothing), withOwn_none, quietEdges]; rfl
  · rw [reportLeads_sound lead _ (about.trans nothing), withOwn_none, markedEdges]; rfl
  · rw [stubIs, reportLeads_sound (lead + n) _ (about.trans nothing), withOwn_none, markerEdges_pulse,
      if_neg (Nat.not_le.mpr few)]
    rfl
  · have heard : withOwn [own] (-lead) (List.replicate (before + 32 + rest) false) = pulse lead 32 (before + rest - lead) :=
      withOwn_quiet fits
    rw [reportLeads_sound lead _ (about.trans drives), heard, markerEdges_pulse, if_pos (Nat.le_refl _)]
    simpa using reportedLeads_zero range
  · have heard : withOwn [own] (-lead) (pulse before 32 rest) = _ := withOwn_ahead fits (by omega)
    rw [markedIs, reportLeads_sound lead _ (about.trans drives), heard, markerEdges_twoPulses _ _ _ _ _ (by omega) (by omega)]
    refine congrArg (reportedLeads s) ?_
    simp [b]
    omega
  · have heard : withOwn [own] (-lead) (pulse before 32 rest) = _ := withOwn_meets fits (by omega) (by omega)
    rw [markedIs, reportLeads_sound lead _ (about.trans drives), heard, markerEdges_pulse, if_pos (by omega)]
    refine congrArg (reportedLeads s) ?_
    simp [b]
    omega
  · have heard : withOwn [own] (-lead) (pulse before 32 rest) = _ := withOwn_meets fits (by omega) (by omega)
    rw [markedIs, reportLeads_sound lead _ (about.trans drives), heard, markerEdges_pulse, if_pos (by omega),
      show min before lead = lead by omega]
    simpa using reportedLeads_zero range
  · have heard : withOwn [own] (-lead) (pulse before 32 rest) = _ := withOwn_behind (by omega)
    rw [markedIs, reportLeads_sound lead _ (about.trans drives), heard, markerEdges_twoPulses _ _ _ _ _ (by omega) (by omega)]
    refine congrArg (reportedLeads s) ?_
    simp [b]
    omega
  · have heard : withOwn [own] (-((lead + n : Nat) : Int)) (pulse lead n (32 + rest)) = pulse lead (n + 32) rest :=
      withOwn_stub n
    rw [stubIs, reportLeads_sound _ _ (about.trans drives), heard, markerEdges_pulse, if_pos (by omega)]
    refine congrArg (reportedLeads s) ?_
    simp
  · have heard : markerEdges 0 0 (withOwn [⟨-(word.length + 1), word ++ [false]⟩, own] (-lead)
        (List.replicate (before + 32 + rest) false)) = [lead] := markerEdges_ownWord short fits
    rw [reportLeads_sound lead _ (about.trans drives), heard]
    simpa using reportedLeads_zero range

end Sys2Proof.Proofs
end

section
/-! The build of the own cell: what each queued item comes to, and in what order. -/

namespace Sys2Proof.Proofs
open Sys2Proof.Machine

/-! ### One item considered (R55, R56) -/

/-- A build in progress takes an item out of the queue, and its owner's queued item with it. -/
theorem considerItem_tx (it : QItem) (acc : BuildAcc) :
    (considerItem it acc).st.tx = { acc.st.tx with queue := acc.st.tx.queue.erase it } := by
  unfold considerItem
  dsimp only
  repeat' split
  all_goals simp [BuildAcc.place, dequeue, modQueue]

/-- It is placed in the next position, or takes none. -/
theorem considerItem_placed (it : QItem) (acc : BuildAcc) : (considerItem it acc).placed = acc.placed ∨
    ∃ p : Placed, p.item = it ∧ (considerItem it acc).placed = acc.placed ++ [p] := by
  unfold considerItem
  dsimp only
  repeat' split
  any_goals exact .inl rfl
  all_goals exact .inr ⟨_, rfl, rfl⟩

/-- What always passes its check: what is placeable, and the LEAVE. -/
def Passes (s : State) (it : QItem) : Prop := Placeable s it ∨ it = .leave

theorem relayQueued_iff (s : State) (h q : Nat) : relayQueued s h q = true ↔
    ∃ r : Relay, s.relay h = some r ∧ r.reqNo = q ∧ r.phase = .queued := by
  unfold relayQueued
  cases s.relay h with
  | none => simp
  | some r => simp

theorem runOwned_iff (s : State) (tag : Nat) (r : Run) : runOwned s tag r = true ↔
    ∀ k ∈ runSlots r.first r.count, ∃ h p, (s.slot k).use = .owned h tag p := by
  unfold runOwned
  rw [List.all_eq_true]
  refine forall₂_congr (fun k _ => ?_)
  cases (s.slot k).use <;> simp

/-- An item is placeable by what its sources are but for their queued items, the slots and the relays. -/
theorem placeable_of_same {s t : State} {it : QItem} (requeues : OnlyRequeues s t) (alloc : t.alloc = s.alloc)
    (req : t.req = s.req) (placeable : Placeable s it) : Placeable t it := by
  cases it with
  | answer => trivial
  | claim | leave => exact placeable
  | offer n o =>
    obtain ⟨c, r, here, owned, run⟩ := placeable
    obtain ⟨q, there⟩ := of_sourceAt ((requeues n).trans (sourceAt_some here))
    exact ⟨_, r, there, owned, run⟩
  | release n tag r stale =>
    unfold Placeable State.slot at placeable ⊢
    rw [alloc]
    exact placeable
  | probe h q | command h q =>
    unfold Placeable State.relay at placeable ⊢
    rw [req]
    exact placeable

/-- An item that passes is placed. -/
theorem considerItem_passes {it : QItem} {acc : BuildAcc} (passes : Passes acc.st it) :
    (∃ p : Placed, p.item = it ∧ (considerItem it acc).placed = acc.placed ++ [p]) ∧
    OnlyRequeues acc.st (considerItem it acc).st := by
  rcases passes with placeable | rfl
  case inr => exact ⟨⟨_, rfl, rfl⟩, .refl _⟩
  cases it with
  | answer => exact ⟨⟨_, rfl, rfl⟩, .refl _⟩
  | claim | leave => exact absurd placeable id
  | offer n o =>
    obtain ⟨c, r, here, owned, run⟩ := placeable
    have is : considerItem (.offer n o) acc = acc.place (.offer n o) (some r)
        (Item.offer c.cfg.tag r.first r.count c.cfg.priority o).bits (dequeue (.offer n o) acc.st) := by
      have here' : (dequeue (.offer n o) acc.st).sources[n]? = some c := here
      unfold considerItem
      dsimp only
      rw [here']
      dsimp only
      rw [run]
      exact if_pos owned
    rw [is]
    exact ⟨⟨_, rfl, rfl⟩, .refl _⟩
  | release n tag r stale =>
    have owned : runOwned (dequeue (.release n tag r stale) acc.st) tag r = true := (runOwned_iff acc.st tag r).mpr placeable
    unfold considerItem
    dsimp only
    rw [if_pos owned]
    refine ⟨⟨_, rfl, rfl⟩, ?_⟩
    show OnlyRequeues acc.st (if stale then _ else _)
    split
    · exact .refl _
    · exact setQueued_requeues n .nothing (dequeue _ acc.st)
  | probe h q x sub i =>
    have queued : relayQueued (dequeue (.probe h q x sub i) acc.st) h q = true := (relayQueued_iff acc.st h q).mpr placeable
    unfold considerItem
    dsimp only
    rw [if_pos queued]
    exact ⟨⟨_, rfl, rfl⟩, .refl _⟩
  | command h q x a i =>
    have queued : relayQueued (dequeue (.command h q x a i) acc.st) h q = true := (relayQueued_iff acc.st h q).mpr placeable
    unfold considerItem
    dsimp only
    rw [if_pos queued]
    exact ⟨⟨_, rfl, rfl⟩, .refl _⟩

/-- An item that fails its check takes no position. -/
theorem considerItem_fails {it : QItem} {acc : BuildAcc} (fails : ¬Placeable acc.st it) (notClaim : ∀ n, it ≠ .claim n)
    (notLeave : it ≠ .leave) : (considerItem it acc).placed = acc.placed := by
  cases it with
  | answer => exact absurd trivial fails
  | claim n => exact absurd rfl (notClaim n)
  | leave => exact absurd rfl notLeave
  | offer n o =>
    unfold considerItem
    dsimp only
    split
    case h_1 c here =>
      split
      case h_1 r run =>
        split
        case isTrue owned => exact absurd ⟨c, r, here, owned, run⟩ fails
        case isFalse => rfl
      case h_2 => rfl
    case h_2 => rfl
  | release n tag r stale =>
    have not : ¬runOwned (dequeue (.release n tag r stale) acc.st) tag r = true :=
      fun owned => fails ((runOwned_iff acc.st tag r).mp owned)
    unfold considerItem
    dsimp only
    rw [if_neg not]
  | probe h q x sub i =>
    have not : ¬relayQueued (dequeue (.probe h q x sub i) acc.st) h q = true :=
      fun queued => fails ((relayQueued_iff acc.st h q).mp queued)
    unfold considerItem
    dsimp only
    rw [if_neg not]
  | command h q x a i =>
    have not : ¬relayQueued (dequeue (.command h q x a i) acc.st) h q = true :=
      fun queued => fails ((relayQueued_iff acc.st h q).mp queued)
    unfold considerItem
    dsimp only
    rw [if_neg not]

/-! ### The items in order (R54) -/

/-- What a build has considered when it ends: the items up to the third placed. -/
theorem buildLoop_considers (items : List QItem) (acc : BuildAcc) : ∃ front back, items = front ++ back ∧
    (buildLoop items acc).st.tx = { acc.st.tx with queue := acc.st.tx.queue.diff front } ∧
    (back = [] ∨ 3 ≤ (buildLoop items acc).placed.length) := by
  induction items generalizing acc with
  | nil => exact ⟨[], [], rfl, rfl, .inl rfl⟩
  | cons it rest ih =>
    unfold buildLoop
    split
    case isTrue full => exact ⟨[], it :: rest, rfl, rfl, .inr full⟩
    case isFalse =>
      obtain ⟨front, back, parts, tx, ends⟩ := ih (considerItem it acc)
      refine ⟨it :: front, back, by rw [parts]; rfl, ?_, ends⟩
      rw [tx, considerItem_tx, List.diff_cons]

theorem buildLoop_placed (items : List QItem) (acc : BuildAcc) : ∃ l, l.Sublist items ∧
    (buildLoop items acc).placed.map Placed.item = acc.placed.map Placed.item ++ l := by
  induction items generalizing acc with
  | nil => exact ⟨[], .refl _, (List.append_nil _).symm⟩
  | cons it rest ih =>
    unfold buildLoop
    split
    case isTrue => exact ⟨[], List.nil_sublist _, (List.append_nil _).symm⟩
    case isFalse =>
      obtain ⟨l, sub, placed⟩ := ih (considerItem it acc)
      obtain same | ⟨p, rfl, more⟩ := considerItem_placed it acc
      · exact ⟨l, sub.cons it, by rw [placed, same]⟩
      · refine ⟨p.item :: l, sub.cons_cons p.item, ?_⟩
        rw [placed, more, List.map_append, List.append_assoc]
        rfl

theorem buildLoop_atMost (items : List QItem) {acc : BuildAcc} (few : acc.placed.length ≤ 3) :
    (buildLoop items acc).placed.length ≤ 3 := by
  induction items generalizing acc with
  | nil => exact few
  | cons it rest ih =>
    unfold buildLoop
    split
    case isTrue => exact few
    case isFalse room =>
      refine ih ?_
      obtain same | ⟨p, -, more⟩ := considerItem_placed it acc
      · rw [same]; exact few
      · rw [more, List.length_append, List.length_singleton]; omega

/-- Items that all pass are placed until three are. -/
theorem buildLoop_passes {items : List QItem} {acc : BuildAcc} (few : acc.placed.length ≤ 3)
    (passes : ∀ it ∈ items, Passes acc.st it) :
    (buildLoop items acc).placed.map Placed.item = acc.placed.map Placed.item ++ items.take (3 - acc.placed.length) ∧
    (buildLoop items acc).st.tx.queue = acc.st.tx.queue.diff (items.take (3 - acc.placed.length)) := by
  induction items generalizing acc with
  | nil => simp [buildLoop]
  | cons it rest ih =>
    unfold buildLoop
    split
    case isTrue full =>
      have none : 3 - acc.placed.length = 0 := by omega
      simp [none]
    case isFalse room =>
      obtain ⟨⟨p, is, more⟩, requeues⟩ := considerItem_passes (passes it List.mem_cons_self)
      have frame := considerItem_frame it acc
      have length : (considerItem it acc).placed.length = acc.placed.length + 1 := by
        rw [more, List.length_append, List.length_singleton]
      obtain ⟨placed, queue⟩ := ih (by omega) (fun x mem => (passes x (List.mem_cons_of_mem _ mem)).imp_left
        (placeable_of_same requeues frame.2.2.2.2.2.2.2.1 frame.2.2.2.2.2.2.2.2.2.2))
      obtain ⟨left, count⟩ : ∃ m, 3 - acc.placed.length = m + 1 := ⟨2 - acc.placed.length, by omega⟩
      rw [length, show 3 - (acc.placed.length + 1) = left by omega] at placed queue
      rw [placed, queue, more, considerItem_tx, count, List.take_succ_cons, List.diff_cons, List.map_append,
        List.append_assoc, ← is]
      exact ⟨rfl, rfl⟩

/-! ### The classes (R48, R54) -/

theorem itemClass_lt (it : QItem) : itemClass it < 6 := by
  cases it with
  | offer n o => cases o <;> exact of_decide_eq_true rfl
  | claim | release | leave | probe | command | answer => exact of_decide_eq_true rfl

/-- The members of a list class by class are the list's. -/
theorem classes_perm {α : Type} (f : α → Nat) (l : List α) (n : Nat) :
    ((List.range n).flatMap (fun c => l.filter (fun x => f x == c))).Perm (l.filter (fun x => decide (f x < n))) := by
  induction n with
  | zero => simp
  | succ n ih =>
    rw [List.range_succ, List.flatMap_append, List.flatMap_singleton]
    have parts := List.filter_append_perm (fun x => decide (f x < n)) (l.filter (fun x => decide (f x < n + 1)))
    rw [List.filter_filter, List.filter_filter] at parts
    refine (ih.append_right _).trans (List.Perm.trans (List.Perm.of_eq ?_) parts)
    refine congrArg₂ (· ++ ·) (List.filter_congr (fun x _ => ?_)) (List.filter_congr (fun x _ => ?_))
    · rw [← Bool.decide_and, decide_eq_decide]; omega
    · rw [Bool.eq_iff_iff]; simp; omega

theorem byClass_perm (q : List QItem) : (byClass q).Perm q := by
  refine (classes_perm itemClass q 6).trans (List.Perm.of_eq ?_)
  exact List.filter_eq_self.mpr (fun x _ => decide_eq_true (itemClass_lt x))

theorem diff_perm {α : Type} [DecidableEq α] {q front back : List α} (whole : q.Perm (front ++ back)) :
    (q.diff front).Perm back := by
  rw [← Multiset.coe_eq_coe, ← Multiset.coe_sub, Multiset.coe_eq_coe.mpr whole, ← Multiset.coe_add,
    add_tsub_cancel_left]

/-! ### The cell built -/

/-- The items a build has placed at its end. -/
def built (s : State) : BuildAcc := buildLoop (buildOrder s) ⟨atTick 32 s, []⟩

section
variable {s : State}

theorem exec_buildOwnCell (high : s.resetLow = false) (drives : s.sync.state.drives = true) (own : s.sync.frameIndex = s.id) :
    exec .buildOwnCell s = .next (buildCell s) := by
  refine (underReset_high _ high).trans (congrArg _ (whenDue_of _ ?_))
  simp [drivesOwnCell, drives, own]

theorem buildCell_built (s : State) : (buildCell s).tx.built =
    some ⟨s.sync.superframe, s.sync.freshPending, (built s).placed⟩ := rfl

theorem buildCell_tx (s : State) : ∃ front back, buildOrder s = front ++ back ∧
    (buildCell s).tx = { s.tx with
      queue := s.tx.queue.diff front, built := some ⟨s.sync.superframe, s.sync.freshPending, (built s).placed⟩ } ∧
    (back = [] ∨ 3 ≤ (built s).placed.length) := by
  obtain ⟨front, back, parts, tx, ends⟩ := buildLoop_considers (buildOrder s) ⟨atTick 32 s, []⟩
  refine ⟨front, back, parts, ?_, ends⟩
  have whole : (buildCell s).tx = { (built s).st.tx with
      built := some ⟨s.sync.superframe, s.sync.freshPending, (built s).placed⟩ } := rfl
  rw [whole, built, tx]
  rfl

theorem buildOrder_byClass (none : .leave ∉ s.tx.queue) : buildOrder s = byClass s.tx.queue :=
  if_neg (fun both => none both.2)

theorem buildOrder_mem {it : QItem} (mem : it ∈ buildOrder s) : it ∈ s.tx.queue := by
  unfold buildOrder at mem
  split at mem
  case isTrue leaves =>
    rcases List.mem_append.mp mem with answer | leave
    · exact (List.mem_filter.mp (List.mem_of_mem_take answer)).1
    · rw [List.mem_singleton.mp leave]; exact leaves.2
  case isFalse => exact (byClass_perm _).mem_iff.mp mem

/-- An item alone in the queue is the one considered. -/
theorem buildOrder_single {it : QItem} (alone : s.tx.queue = [it]) (notLeave : it ≠ .leave) : buildOrder s = [it] := by
  rw [buildOrder_byClass (by rw [alone]; simpa using Ne.symm notLeave), alone]
  exact List.perm_singleton.mp (byClass_perm [it])

theorem built_single {it : QItem} (alone : s.tx.queue = [it]) (notLeave : it ≠ .leave) :
    built s = considerItem it ⟨atTick 32 s, []⟩ := by
  unfold built
  rw [buildOrder_single alone notLeave]
  rfl

end

/-- Settles O44: the queue class by class, and what passes of it. -/
theorem buildsConsiderTheClassesInOrder : Obligations.BuildsConsiderTheClassesInOrder := by
  refine ⟨fun n h q x i tag st code v run stale sub a => ⟨rfl, rfl, rfl, rfl, rfl, rfl, rfl, rfl⟩, ?_⟩
  intro s high drives own order
  refine ⟨buildCell s, _, exec_buildOwnCell high drives own, buildCell_built s,
    fun none => ⟨?sublist, fun few => ?emptied, fun all => ?all, fun it alone fails notClaim => ?fails⟩,
    fun leaving there => ?leaving⟩
  case sublist =>
    obtain ⟨l, sub, placed⟩ := buildLoop_placed (buildOrder s) ⟨atTick 32 s, []⟩
    rw [buildOrder_byClass none] at sub
    show ((built s).placed.map Placed.item).Sublist order
    rw [show (built s).placed.map Placed.item = [] ++ l from placed]
    exact sub
  case emptied =>
    obtain ⟨front, back, parts, tx, ends⟩ := buildCell_tx s
    have few' : (built s).placed.length < 3 := few
    rw [buildOrder_byClass none, ends.resolve_right (by omega)] at parts
    rw [tx]
    exact List.perm_nil.mp (diff_perm ((byClass_perm _).symm.trans (List.Perm.of_eq parts)))
  case all =>
    have passes : ∀ it ∈ buildOrder s, Passes (atTick 32 s) it := fun it mem =>
      .inl (placeable_of_same (.refl s) rfl rfl (all it (buildOrder_mem mem)))
    obtain ⟨placed, queue⟩ := buildLoop_passes (acc := ⟨atTick 32 s, []⟩) (Nat.zero_le 3) passes
    rw [buildOrder_byClass none] at placed queue
    refine ⟨?_, ?_⟩
    · show (built s).placed.map Placed.item = _
      rw [built, buildOrder_byClass none]
      exact placed
    · show ((built s).st.tx.queue).Perm _
      rw [built, buildOrder_byClass none, queue]
      exact diff_perm ((byClass_perm _).symm.trans (List.Perm.of_eq (List.take_append_drop 3 _).symm))
  case fails =>
    have notLeave : it ≠ .leave := fun is => none (by rw [alone, is]; exact List.mem_singleton.mpr rfl)
    have single := built_single alone notLeave
    have fails' : ¬Placeable (atTick 32 s) it := fun placeable => fails (placeable_of_same (.refl s) rfl rfl placeable)
    refine ⟨?_, ?_⟩
    · show (built s).placed = []
      rw [single]
      exact considerItem_fails fails' notClaim notLeave
    · show (built s).st.tx.queue = []
      rw [single, considerItem_tx]
      show s.tx.queue.erase it = []
      rw [alone, List.erase_cons_head]
  case leaving =>
    have considered : buildOrder s = (s.tx.queue.filter QItem.isAnswer).take 2 ++ [.leave] := if_pos ⟨leaving, there⟩
    have passes : ∀ it ∈ buildOrder s, Passes (atTick 32 s) it := by
      rw [considered]
      intro it mem
      rcases List.mem_append.mp mem with answer | leave
      · have is := (List.mem_filter.mp (List.mem_of_mem_take answer)).2
        cases it with
        | answer => exact .inl trivial
        | claim | offer | release | leave | probe | command => cases is
      · exact .inr (List.mem_singleton.mp leave)
    obtain ⟨placed, -⟩ := buildLoop_passes (acc := ⟨atTick 32 s, []⟩) (Nat.zero_le 3) passes
    show (built s).placed.map Placed.item = _
    rw [← considered]
    refine placed.trans (List.take_of_length_le ?_)
    rw [considered]
    simp

end Sys2Proof.Proofs
end

section
/-! The own cell that a build hands to the line, and a CLAIM alone in the queue. -/

namespace Sys2Proof.Proofs
open Sys2Proof.Machine

/-! ### The lowest FREE run (R55) -/

/-- The first of a stretch of slots that satisfies a predicate. -/
theorem find_runSlots_eq_some {P : Nat → Bool} {a m f : Nat} (low : a ≤ f) (high : f < a + m) (is : P f = true)
    (first : ∀ g, a ≤ g → g < f → P g = false) : (runSlots a m).find? P = some f := by
  induction m generalizing a with
  | zero => omega
  | succ m ih =>
    have stretch : runSlots a (m + 1) = a :: runSlots (a + 1) m := by
      unfold runSlots
      rw [List.range_succ_eq_map, List.map_cons, List.map_map]
      refine congrArg (a :: ·) (List.map_congr_left (fun i _ => ?_))
      simp only [Function.comp_apply, Nat.succ_eq_add_one]
      omega
    rw [stretch]
    by_cases here : a = f
    · rw [here]
      exact List.find?_cons_of_pos is
    · rw [List.find?_cons_of_neg (by simp [first a (Nat.le_refl a) (by omega)])]
      exact ih (by omega) (by omega) (fun g after before => first g (by omega) before)

theorem find_runSlots_eq_none {P : Nat → Bool} {a m : Nat} (no : ∀ f, a ≤ f → f < a + m → P f = false) :
    (runSlots a m).find? P = none :=
  List.find?_eq_none.mpr (fun f mem => by
    obtain ⟨low, high⟩ := mem_runSlots.mp mem
    simp [no f low high])

theorem runFree_iff (s : State) (first count : Nat) : runFree s first count = true ↔
    ∀ k ∈ runSlots first count, (s.slot k).use = .free := by
  simp [runFree, List.all_eq_true]

/-- With no run assigned yet the lowest run is the lowest FREE one. -/
theorem lowestRun_eq_some {s : State} {count f : Nat} (low : 8 ≤ f) (high : f + count ≤ 64)
    (free : ∀ k ∈ runSlots f count, (s.slot k).use = .free)
    (lowest : ∀ g, 8 ≤ g → g < f → ¬∀ k ∈ runSlots g count, (s.slot k).use = .free) : lowestRun s count [] = some f := by
  refine find_runSlots_eq_some low (by omega) ?_ (fun g above below => ?_)
  · simpa using (runFree_iff s f count).mpr free
  · simpa using (mt (runFree_iff s g count).mp (lowest g above below))

theorem lowestRun_eq_none {s : State} {count : Nat} (small : count ≤ 8)
    (no : ∀ f, 8 ≤ f → f + count ≤ 64 → ¬∀ k ∈ runSlots f count, (s.slot k).use = .free) : lowestRun s count [] = none := by
  refine find_runSlots_eq_none (fun f low high => ?_)
  simpa using (mt (runFree_iff s f count).mp (no f low (by omega)))

/-! ### A CLAIM alone -/

section
variable {n : Nat} {c : Source} {s : State}

theorem considerItem_claim_fits {acc : BuildAcc} {f : Nat} (here : acc.st.sources[n]? = some c)
    (fits : lowestRun (dequeue (.claim n) acc.st) c.cfg.channels (assignedRuns acc.placed) = some f) :
    considerItem (.claim n) acc = acc.place (.claim n) (some ⟨f, c.cfg.channels⟩)
      (Item.claim c.cfg.tag f c.cfg.channels c.cfg.priority).bits (setQueued n .nothing (dequeue (.claim n) acc.st)) := by
  have here' : (dequeue (.claim n) acc.st).sources[n]? = some c := here
  unfold considerItem
  dsimp only
  rw [here']
  dsimp only
  rw [fits]

theorem considerItem_claim_blocked {acc : BuildAcc} (here : acc.st.sources[n]? = some c)
    (none : lowestRun (dequeue (.claim n) acc.st) c.cfg.channels (assignedRuns acc.placed) = none) :
    considerItem (.claim n) acc = { acc with st := enterBlocked n (dequeue (.claim n) acc.st) } := by
  have here' : (dequeue (.claim n) acc.st).sources[n]? = some c := here
  unfold considerItem
  dsimp only
  rw [here']
  dsimp only
  rw [none]

end

/-- The queue of a built state is the one the build leaves. -/
theorem buildCell_queue_single {it : QItem} {s : State} (alone : s.tx.queue = [it]) (notLeave : it ≠ .leave) :
    (buildCell s).tx.queue = [] := by
  show (built s).st.tx.queue = []
  rw [built_single alone notLeave, considerItem_tx]
  show s.tx.queue.erase it = []
  rw [alone, List.erase_cons_head]

/-- Settles O43: the header is the position, the items those placed, and the lowest run the first FREE one. -/
theorem buildOwnCellPlacesFromTheQueue : Obligations.BuildOwnCellPlacesFromTheQueue := by
  intro s high drives own
  obtain ⟨pending, resetLow, loader, sync, line, rx, peers, alloc, sinks, ports, req⟩ :=
    buildLoop_frame (buildOrder s) ⟨atTick 32 s, []⟩
  obtain ⟨front, back, parts, tx, -⟩ := buildCell_tx s
  refine ⟨buildCell s, _, ownCellOf s (built s).placed, exec_buildOwnCell high drives own, buildCell_built s, rfl, rfl,
    buildLoop_atMost (buildOrder s) (acc := ⟨atTick 32 s, []⟩) (Nat.zero_le 3), rfl, rfl, rfl, rfl, rfl, fun i low => ?_,
    ?_, fun p mem => ?_, ?_, ?_, sync, alloc, sinks, req, peers,
    fun n c alone here small => ⟨fun f low top free lowest => ?_, fun none => ?_⟩⟩
  · obtain rfl | rfl | rfl : i = 0 ∨ i = 1 ∨ i = 2 := by omega
    all_goals rfl
  · show Line.begin 32 _ { (built s).st.line with ownCell := some (ownCellOf s (built s).placed) } = _
    rw [show (built s).st.line = s.line from line]
    rfl
  · obtain ⟨l, sub, placed⟩ := buildLoop_placed (buildOrder s) ⟨atTick 32 s, []⟩
    have items : (built s).placed.map Placed.item = l := placed
    exact buildOrder_mem (sub.subset (items ▸ List.mem_map_of_mem mem))
  · rw [tx]
    exact List.diff_sublist _ _
  · rw [tx]
  · have fits : lowestRun (dequeue (.claim n) (atTick 32 s)) c.cfg.channels (assignedRuns []) = some f :=
      lowestRun_eq_some (s := dequeue (.claim n) (atTick 32 s)) low top free lowest
    have is : built s = _ := (built_single alone nofun).trans
      (considerItem_claim_fits (acc := ⟨atTick 32 s, []⟩) here fits)
    refine ⟨?_, buildCell_queue_single alone nofun, ?_⟩
    · show (built s).placed = _
      rw [is]
      rfl
    · show (built s).st.sources = _
      rw [is]
      exact modify_of_getElem? _ here
  · have blocked : lowestRun (dequeue (.claim n) (atTick 32 s)) c.cfg.channels (assignedRuns []) = Option.none :=
      lowestRun_eq_none (s := dequeue (.claim n) (atTick 32 s)) small none
    have is : built s = _ := (built_single alone nofun).trans
      (considerItem_claim_blocked (acc := ⟨atTick 32 s, []⟩) here blocked)
    have entered : (built s).st = notify (.source n c.cfg.tag .blocked) ((dequeue (.claim n) (atTick 32 s)).modSource n
        (fun c => { c with state := .blocked, queuedItem := .nothing })) := by
      rw [is]
      exact notifySource_eq (c := { c with state := .blocked, queuedItem := .nothing }) (modify_getElem?_self _ here) _
    refine ⟨?_, buildCell_queue_single alone nofun, ?_, fun empty => ?_⟩
    · show (built s).placed = []
      rw [is]
    · show (built s).st.sources = _
      rw [entered]
      exact modify_of_getElem? _ here
    · show (built s).st.mgmt.notices = _
      rw [entered, notify_notices]
      show (if s.mgmt.notices.length < 16 then s.mgmt.notices ++ _ else s.mgmt.notices) = _
      rw [empty]
      rfl

end Sys2Proof.Proofs
end

section
/-! Entry to MUTE, the readback of the own cell, and the cells received by sync state. -/

namespace Sys2Proof.Proofs
open Sys2Proof.Machine

/-! ### Entry to MUTE (R34) -/

/-- The station at entry to MUTE but for its relays and its runs. -/
def muting (s : State) : State :=
  notify (.fault .duplicateId)
    (((s.modSync Sync.toMute).modSources (fun l => l.map Source.atMute)).modTx (fun t => { t with queue := [] }))

theorem enterMute_eq (s : State) : enterMute s = action removeOwnRuns (abortRelays (muting s)) := rfl

theorem enterMute_grows (s : State) : PostsOnly (muting s) (enterMute s) := by
  rw [enterMute_eq]
  have aborted : PostsOnly (muting s) (abortRelays (muting s)) := completeWhere_grows _ _ _
  refine aborted.trans (action_grows (.of_same ?_ ?_))
  · simp [removeOwnRuns]
  · simp [removeOwnRuns]

/-- With single tags the own runs leave the directory, and nothing else does. -/
theorem enterMute_muted {s : State} (single : DirOk s) : Muted s (enterMute s) := by
  have sync : (enterMute s).sync = s.sync.toMute := by simp [enterMute, abortRelays]
  have state : (enterMute s).sync.state = .mute := by rw [sync]; rfl
  have sources : (enterMute s).sources = s.sources.map Source.atMute := by simp [enterMute, abortRelays]
  have req : (enterMute s).req = (abortRelays (muting s)).req := by simp [enterMute_eq, removeOwnRuns]
  have dir : (enterMute s).alloc.dir = s.alloc.dir.filter (fun e => e.station != s.id) := by
    have before : (abortRelays (muting s)).alloc = s.alloc := by simp [abortRelays, muting]
    have own : (abortRelays (muting s)).id = s.id := by
      unfold State.id
      rw [show (abortRelays (muting s)).loader = s.loader by simp [abortRelays, muting]]
    have removed := removed_foldl_dir (removesRun_removeRun .free) (fun e => e.station == s.id)
      (s := abortRelays (muting s)) (by rw [DirOk, before]; exact single)
    rw [before] at removed
    rw [enterMute_eq, (action_frame _ _).2.2.2.2.2.2.2.2.1, removeOwnRuns, removeWhere, own, before]
    exact removed
  refine ⟨state, by rw [sync]; rfl, by rw [sync]; rfl, by rw [sync]; rfl, by rw [sync]; rfl, by rw [sync]; rfl,
    by simp [State.lockHigh, state], (faultHigh_iff _).mpr (.inr (.inl state)), by rw [sync]; rfl, by rw [sync]; rfl,
    by simp [enterMute, abortRelays], fun n c here => ⟨c.atMute, ?_, rfl, rfl, rfl⟩, fun h r low here => ?_, dir, by simp,
    by simp, by simp, by simp⟩
  · rw [sources, List.getElem?_map, here]
    rfl
  · have after : (enterMute s).relay h = (abortRelays (muting s)).relay h := by
      unfold State.relay
      rw [req]
    have here' : (muting s).relay h = some r := here
    rw [after, abortRelays, completeWhere_relay _ _ _ low, here', Option.map_some]
    simp [relayCompleted]

/-- FAULT DUPLICATE_ID comes first. -/
theorem enterMute_head {s : State} (empty : s.mgmt.notices = []) :
    (enterMute s).mgmt.notices.head? = some (.fault .duplicateId) := by
  refine (enterMute_grows s).head (notify_head ?_)
  exact empty

/-! ### The readback of the own cell (R11, R31) -/

/-- A readback differs where it is not the cell built, as far as its item count goes. -/
theorem readbackMatches_eq_false_iff {own : Cell} {w : CellWindow} (few : own.count ≤ 3) :
    readbackMatches own w = false ↔ ∀ c, classifyCell w = .good c → c.sender ≠ own.sender ∨ c.superframe ≠ own.superframe ∨
      c.count ≠ own.count ∨ c.fresh ≠ own.fresh ∨ ∃ i, i < own.count ∧ c.item i ≠ own.item i := by
  unfold readbackMatches
  cases read : classifyCell w with
  | silent | damaged => simp
  | good c =>
    have items : (List.range (min own.count 3)).all (fun i => c.item i == own.item i) = false ↔
        ∃ i, i < own.count ∧ c.item i ≠ own.item i := by
      rw [Nat.min_eq_left few, List.all_eq_false]
      simp
    simp only [Bool.and_eq_false_iff, items, beq_eq_false_iff_ne]
    constructor
    · rintro ((((sender | superframe) | count) | fresh) | item) d is
      all_goals cases is
      · exact .inl sender
      · exact .inr (.inl superframe)
      · exact .inr (.inr (.inl count))
      · exact .inr (.inr (.inr (.inl fresh)))
      · exact .inr (.inr (.inr (.inr item)))
    · intro differs
      have := differs c rfl
      tauto

/-- Settles O47: the window read back, compared and counted by sync state. -/
theorem readbackMismatchesEndInMute : Obligations.ReadbackMismatchesEndInMute := by
  intro line own s high built few w differs read
  have same : readbackMatches own w = false ↔ differs := readbackMatches_eq_false_iff few
  have event : readbackEvent line s = cellReadback own w (atTick 255 s) := by
    unfold readbackEvent
    rw [built]
  have ran : exec (.ownCellReadback line) s = .next (cellReadback own w (atTick 255 s)) :=
    (underReset_high _ high).trans (congrArg _ event)
  refine ⟨fun state => ⟨fun match' => ?_, fun differ first => ?_, fun differ second single => ?_⟩, fun leaving => ?_,
    fun others window sound drive => ?_, fun heard failed => ?_⟩
  · have counts : countsMismatch (atTick 255 s) = true := by
      rcases state with is | is <;> simp [countsMismatch, atTick, is]
    have matches' : readbackMatches own w = true := by
      rw [← Bool.not_eq_false, same]
      exact match'
    rw [ran, cellReadback, if_pos counts, if_pos matches']
    rfl
  · have counts : countsMismatch (atTick 255 s) = true := by
      rcases state with is | is <;> simp [countsMismatch, atTick, is]
    have low : (atTick 255 s).sync.mismatch + 1 < 2 := by
      show s.sync.mismatch + 1 < 2
      omega
    rw [ran, cellReadback, if_pos counts, if_neg (by simp [same.mpr differ]), if_pos low]
    show Host.Outcome.next { s with
      sync := { s.sync with tick := 255, mismatch := s.sync.mismatch + 1 }
      line := { s.line with drive := .nothing, ownCell := none } } = _
    rw [first]
  · have counts : countsMismatch (atTick 255 s) = true := by
      rcases state with is | is <;> simp [countsMismatch, atTick, is]
    have high' : ¬(atTick 255 s).sync.mismatch + 1 < 2 := by
      show ¬s.sync.mismatch + 1 < 2
      omega
    have due : mismatchesTwice line s = true := by
      have unequal : readbackMatches own (receivedCell line s) = false := same.mpr differ
      have counts' : countsMismatch s = true := counts
      simp [mismatchesTwice, counts', second, built, unequal]
    have muted : exec (.duplicateIdMismatch line) s =
        .next (enterMute ((atTick 255 s).modLine (fun l => { l with ownCell := none, drive := .nothing }))) := by
      refine (underReset_high _ high).trans (congrArg _ ?_)
      rw [whenDue_of _ due, event, cellReadback, if_pos counts, if_neg (by simp [same.mpr differ]), if_neg high']
    refine ⟨_, muted, ?_, fun empty => enterMute_head empty⟩
    have is := enterMute_muted (s := (atTick 255 s).modLine (fun l => { l with ownCell := none, drive := .nothing })) single
    exact is
  · have counts : ¬countsMismatch (atTick 255 s) = true := by simp [countsMismatch, atTick, leaving]
    rw [ran, cellReadback, if_neg counts]
    rfl
  · show receivedCell line s = _
    rw [sound, receivedCell, drive]
    rfl
  · show receivedCell line s = _
    rw [failed]
    rfl

end Sys2Proof.Proofs
end

section
/-! A received cell by sync state, agreement and correction. -/

namespace Sys2Proof.Proofs
open Sys2Proof.Machine

/-! ### The cell receiver in each state (R23, R41 to R44) -/

/-- The state in which the end of slot 7 hands the cell on. -/
def cellHeard (s : State) : State :=
  { s with sync := { s.sync with tick := 255 }, line := { s.line with drive := .nothing } }

theorem exec_cellReceived {line : OnLine CellWindow} {s : State} (high : s.resetLow = false)
    (runs : s.sync.state.timerRuns = true) (other : drivesOwnCell s = false) :
    exec (.cellReceived line) s = .next (takeCell (classifyCell (receivedCell line s)) (cellHeard s)) := by
  refine (underReset_high _ high).trans (congrArg _ (if_pos ?_))
  simp [runs, other]

theorem drivesOwnCell_of_state {s : State} (quiet : s.sync.state.drives = false) : drivesOwnCell s = false := by
  simp [drivesOwnCell, quiet]

theorem timerRuns_of_takesCells {st : SyncState} (takes : st.takesCells = true) : st.timerRuns = true := by
  cases st with
  | learn | founding | locked | leaving | mute => rfl
  | configLoad | configWait | configFault | listen | acquire => cases takes

section
variable {c : Cell} {s : State}

theorem takeCell_acquire (acquire : s.sync.state = .acquire) :
    takeCell (.good c) s = if c.count ≤ 3 then enterLearn c s else s := if_pos acquire

theorem takeCell_valid (takes : s.sync.state.takesCells = true) (few : c.count ≤ 3) :
    takeCell (.good c) s = validCell c s := by
  have notAcquire : s.sync.state ≠ .acquire := fun is => by rw [is] at takes; cases takes
  rw [takeCell, if_neg notAcquire, if_pos takes]
  exact if_pos few

theorem validCell_agrees (other : c.sender ≠ s.id) (index : c.sender = s.sync.frameIndex)
    (superframe : c.superframe = s.sync.superframe) :
    validCell c s = acceptCell c (s.modRx (fun r => { r with disagreement := none })) := by
  rw [validCell, if_neg other, if_pos (by simp [agrees, index, superframe])]

theorem agrees_eq_false (differs : c.sender ≠ s.sync.frameIndex ∨ c.superframe ≠ s.sync.superframe) : agrees c s = false := by
  simpa [agrees, not_and_or] using not_and_or.mpr differs

theorem validCell_confirms (other : c.sender ≠ s.id)
    (differs : c.sender ≠ s.sync.frameIndex ∨ c.superframe ≠ s.sync.superframe) (confirmed : confirms c s = true) :
    validCell c s = acceptCell c (adopt c s) := by
  rw [validCell, if_neg other, if_neg (by simp [agrees_eq_false differs]), if_pos confirmed]

theorem validCell_discards (other : c.sender ≠ s.id)
    (differs : c.sender ≠ s.sync.frameIndex ∨ c.superframe ≠ s.sync.superframe) (unconfirmed : confirms c s = false) :
    validCell c s = discardCell c s := by
  rw [validCell, if_neg other, if_neg (by simp [agrees_eq_false differs]), if_neg (by simp [unconfirmed])]

/-- A cell of no items is its sender's report alone. -/
theorem acceptCell_empty (none : c.count = 0) : acceptCell c s = peerHeard c.sender c.superframe c.fresh s := by
  rw [acceptCell, none]
  rfl

theorem peer_eq {p : Peer} {x : Nat} (here : s.peers[x]? = some p) : s.peer x = p := by
  rw [State.peer, List.getD_eq_getElem?_getD, here]
  rfl

/-- A join (R63). -/
theorem peerHeard_joins {p : Peer} {x : Nat} {sf : Superframe} {fresh : Bool} (here : s.peers[x]? = some p)
    (gone : p.presence = .absent ∨ p.presence = .departed) :
    peerHeard x sf fresh s = notify (.peer .joined x sf 0) (s.modPeer x (Peer.heard sf)) := by
  unfold peerHeard
  rw [peer_eq here]
  rcases gone with is | is <;> rw [is]

/-- Without the fresh flag the report changes no more than the entry of its sender, and posts no more than its join. -/
theorem peerHeard_plain {x : Nat} {sf : Superframe} :
    PostsOnly s (peerHeard x sf false s) := by
  unfold peerHeard
  dsimp only
  split
  · exact notify_grows _ (s.modPeer x (Peer.heard sf))
  · exact notify_grows _ (s.modPeer x (Peer.heard sf))
  · exact .of_same rfl rfl
  · exact .refl s

theorem reportMissed_frame (cause : MissCause) (s : State) :
    (reportMissed cause s).sync = s.sync ∧ (reportMissed cause s).rx = s.rx := by
  unfold reportMissed
  split <;> simp

end

/-! ### The correction (R32) -/

theorem position_lt {sf : Superframe} {index : Nat} (low : index < 32) : position sf index < 2097152 := by
  have := sf.isLt
  unfold position
  omega

theorem position_inj {sf sf' : Superframe} {index index' : Nat} (low : index < 32) (low' : index' < 32) :
    position sf index = position sf' index' ↔ index = index' ∧ sf = sf' := by
  constructor
  · intro same
    unfold position at same
    exact ⟨by omega, BitVec.eq_of_toNat_eq (by omega)⟩
  · rintro ⟨rfl, rfl⟩
    rfl

/-- Settles O48: the rows by sync state, and the arithmetic of the correction. -/
theorem cellsAreTakenByState : Obligations.CellsAreTakenByState := by
  refine ⟨fun line s high => ⟨fun listen => ?listen, fun c acquire good => ⟨fun few => ?learns, fun many => ?tooMany⟩,
    fun acquire bad => ?bad, fun c takes other good few => ⟨fun own learn single => ?ownLearn, fun own notLearn => ?own,
      fun p foreign index superframe none here gone => ?joins, fun foreign differs unconfirmed => ?discarded,
      fun d p foreign differs record sender correction none here stale => ?adopted⟩⟩, fun c s low low' => ?correction⟩
  case listen =>
    rw [exec_cellReceived high (by rw [listen]; rfl) (drivesOwnCell_of_state (by rw [listen]; rfl))]
    have notAcquire : (cellHeard s).sync.state ≠ .acquire := by show s.sync.state ≠ .acquire; rw [listen]; nofun
    have takesNone : ¬(cellHeard s).sync.state.takesCells = true := by
      show ¬s.sync.state.takesCells = true
      rw [listen]
      nofun
    exact congrArg _ ((if_neg notAcquire).trans (if_neg takesNone))
  case learns =>
    rw [exec_cellReceived high (by rw [acquire]; rfl) (drivesOwnCell_of_state (by rw [acquire]; rfl)), good,
      takeCell_acquire (s := cellHeard s) acquire]
    exact congrArg _ (if_pos few)
  case tooMany =>
    rw [exec_cellReceived high (by rw [acquire]; rfl) (drivesOwnCell_of_state (by rw [acquire]; rfl)), good,
      takeCell_acquire (s := cellHeard s) acquire]
    exact congrArg _ (if_neg (Nat.not_le.mpr many))
  case bad =>
    rw [exec_cellReceived high (by rw [acquire]; rfl) (drivesOwnCell_of_state (by rw [acquire]; rfl))]
    refine congrArg _ ((if_pos (show (cellHeard s).sync.state = .acquire from acquire)).trans ?_)
    cases read : classifyCell (receivedCell line s) with
    | good c => exact absurd read (bad c)
    | silent | damaged => rfl
  case ownLearn =>
    refine ⟨_, exec_cellReceived high (timerRuns_of_takesCells takes) other, ?_⟩
    have muted := enterMute_muted (s := cellHeard s) single
    rw [good, takeCell_valid (s := cellHeard s) takes few, validCell, if_pos (show c.sender = (cellHeard s).id from own),
      if_pos (show (cellHeard s).sync.state = .learn from learn)]
    exact muted
  case own =>
    rw [exec_cellReceived high (timerRuns_of_takesCells takes) other, good, takeCell_valid (s := cellHeard s) takes few, validCell,
      if_pos (show c.sender = (cellHeard s).id from own), if_neg (show (cellHeard s).sync.state ≠ .learn from notLearn)]
    rfl
  case joins =>
    refine ⟨_, exec_cellReceived high (timerRuns_of_takesCells takes) other, ?_⟩
    rw [good, takeCell_valid (s := cellHeard s) takes few, validCell_agrees (s := cellHeard s) foreign index superframe, acceptCell_empty none,
      peerHeard_joins (p := p) (s := (cellHeard s).modRx (fun r => { r with disagreement := Option.none })) here gone]
    refine ⟨by simp [cellHeard], ?_, fun empty => ?_, by simp [cellHeard], by simp [cellHeard]⟩
    · rw [(notify_frame _ _).2.2.2.2.2.2.2.1]
      exact modify_of_getElem? _ here
    · rw [notify_notices]
      show (if s.mgmt.notices.length < 16 then s.mgmt.notices ++ _ else s.mgmt.notices) = _
      rw [empty]
      rfl
  case discarded =>
    refine ⟨_, exec_cellReceived high (timerRuns_of_takesCells takes) other, ?_⟩
    have unconfirmed' : confirms c (cellHeard s) = false := by
      unfold confirms
      rw [show (cellHeard s).rx.disagreement = s.rx.disagreement from rfl]
      cases record : s.rx.disagreement with
      | none => rfl
      | some d =>
        show (d.sender != c.sender && d.correction == correctionOf c s) = false
        rcases unconfirmed d record with same | not
        · simp [same]
        · simp [not]
    rw [good, takeCell_valid (s := cellHeard s) takes few, validCell_discards (s := cellHeard s) foreign differs unconfirmed']
    obtain ⟨sync, rx⟩ := reportMissed_frame .discarded ((countSync (fun k => { k with disagreeing := bump k.disagreeing })
      (cellHeard s)).modRx (fun r => { r with disagreement := some ⟨c.sender, correctionOf c (cellHeard s)⟩ }))
    exact ⟨rx, sync⟩
  case adopted =>
    refine ⟨_, exec_cellReceived high (timerRuns_of_takesCells takes) other, ?_⟩
    have confirmed : confirms c (cellHeard s) = true := by
      unfold confirms
      rw [show (cellHeard s).rx.disagreement = some d from record]
      show (d.sender != c.sender && d.correction == correctionOf c s) = true
      simp [sender, correction]
    rw [good, takeCell_valid (s := cellHeard s) takes few, validCell_confirms (s := cellHeard s) foreign differs confirmed, acceptCell_empty none, stale]
    refine ⟨?_, ?_, fun empty => ?_⟩
    · rw [(peerHeard_frame _ _ _ _).2.2.2.1]
      simp [adopt, notifySync, cellHeard]
    · rw [(peerHeard_frame _ _ _ _).2.2.2.2.2.1]
      simp [adopt, notifySync, cellHeard]
    · exact peerHeard_plain.head (notify_head empty)
  case correction =>
    have cell := position_lt (sf := c.superframe) low
    have own := position_lt (sf := s.sync.superframe) low'
    have inj := position_inj (sf := c.superframe) (sf' := s.sync.superframe) low low'
    have zero : correctionOf c s = 0 ↔ position c.superframe c.sender = position s.sync.superframe s.sync.frameIndex := by
      unfold correctionOf
      omega
    refine ⟨Nat.mod_lt _ (by decide), ?_, zero.trans inj⟩
    show (position s.sync.superframe s.sync.frameIndex + correctionOf c s) % 2097152 = position c.superframe c.sender
    unfold correctionOf
    omega

end Sys2Proof.Proofs
end

section
/-! Purges of one holder, missed turns and departures (chapter 4). -/

namespace Sys2Proof.Proofs
open Sys2Proof.Machine

/-! ### What a removal of runs leaves in the slots -/

/-- The slots of a run removed. -/
theorem Removed.gone {p : DirEntry → Bool} {use : SlotUse} {s t : State} (removed : Removed p use s t) (ok : MapOk s)
    {e : DirEntry} (mem : e ∈ s.alloc.dir) (goes : p e = true) {k : Nat} (inside : k ∈ runSlots e.first e.count) :
    (t.slot k).use = use := by
  have inside' := mem_runSlots_iff_inRun.mp inside
  obtain ⟨low, high⟩ := MapOk.slot_range ok mem inside'
  have hit : s.alloc.dir.any (fun e => p e && inRun e.first e.count k) = true :=
    List.any_eq_true.mpr ⟨e, mem, by simp [goes, inside']⟩
  rw [removed.slot k low high, if_pos hit]

/-- The slots of a run that stays. -/
theorem Removed.kept {p : DirEntry → Bool} {use : SlotUse} {s t : State} (removed : Removed p use s t) (ok : MapOk s)
    {e : DirEntry} (mem : e ∈ s.alloc.dir) (stays : p e = false) {k : Nat} (inside : k ∈ runSlots e.first e.count) :
    t.slot k = s.slot k := by
  have inside' := mem_runSlots_iff_inRun.mp inside
  obtain ⟨low, high⟩ := MapOk.slot_range ok mem inside'
  have miss : s.alloc.dir.any (fun e => p e && inRun e.first e.count k) = false := by
    rw [List.any_eq_false]
    intro d hd both
    rw [Bool.and_eq_true] at both
    rw [MapOk.sameEntry ok hd mem both.2 inside', stays] at both
    exact Bool.false_ne_true both.1
  rw [removed.slot k low high, miss]
  rfl

theorem Removed.of_alloc {p : DirEntry → Bool} {use : SlotUse} {s t u : State} (removed : Removed p use s t)
    (same : u.alloc = t.alloc) : Removed p use s u :=
  ⟨by rw [same]; exact removed.dir, by rw [same]; exact removed.length,
    fun k low high => by rw [← removed.slot k low high, State.slot, State.slot, same]⟩

/-- Every run of a holder in the given use, out of the directory, and every other run as it was (R91). -/
def Purged (use : SlotUse) (x : Nat) (s t : State) : Prop :=
  t.alloc.dir = s.alloc.dir.filter (fun e => e.station != x) ∧
  (∀ e ∈ s.alloc.dir, e.station = x → ∀ k ∈ runSlots e.first e.count, (t.slot k).use = use) ∧
  (∀ e ∈ s.alloc.dir, e.station ≠ x → ∀ k ∈ runSlots e.first e.count, t.slot k = s.slot k)

theorem purgeHolder_purged (use : SlotUse) (x : Nat) {s t : State} (ok : MapOk s)
    (same : t.alloc = (purgeHolder use x s).alloc) : Purged use x s t := by
  have removed := (purgeHolder_removed use x ok.1 ok.2.1).of_alloc same
  exact ⟨removed.dir, fun e mem own k inside => removed.gone ok mem (beq_iff_eq.mpr own) inside,
    fun e mem other k inside => removed.kept ok mem (beq_eq_false_iff_ne.mpr other) inside⟩

/-! ### A peer that leaves or departs (R67, R69, R91) -/

/-- A peer's entry set, its runs purged with the notice, its relays at their end. -/
def peerGone (use : SlotUse) (cause : PeerCause) (x : Nat) (g : Peer → Peer) (s : State) : State :=
  action (fun t => loseTarget x (notify (.peer cause x t.sync.superframe (runsOf x t)) (purgeHolder use x t)))
    (s.modPeer x g)

theorem departPeer_eq (x : Nat) (s : State) :
    departPeer x s = peerGone .stray .departed x (fun p => { p with presence := .departed, missed := 4 }) s := rfl

theorem peerLeft_eq (x : Nat) (s : State) :
    peerLeft x s = peerGone .free .left x (fun p => { p with presence := .departed, missed := 0 }) s := rfl

section
variable {use : SlotUse} {cause : PeerCause} {x : Nat} {g : Peer → Peer} {s : State}

theorem peerGone_sync : (peerGone use cause x g s).sync = s.sync := by simp [peerGone, loseTarget]

theorem peerGone_rx : (peerGone use cause x g s).rx = s.rx := by simp [peerGone, loseTarget]

theorem peerGone_sources : (peerGone use cause x g s).sources = s.sources := by simp [peerGone, loseTarget]

theorem peerGone_peers {p : Peer} (here : s.peers[x]? = some p) : (peerGone use cause x g s).peers = s.peers.set x (g p) := by
  have peers : (peerGone use cause x g s).peers = s.peers.modify x g := by simp [peerGone, loseTarget]
  rw [peers, modify_of_getElem? _ here]

theorem peerGone_purged (ok : MapOk s) : Purged use x s (peerGone use cause x g s) := by
  have ok' : MapOk (s.modPeer x g) := ok
  have purged : Purged use x (s.modPeer x g) (peerGone use cause x g s) :=
    purgeHolder_purged use x ok' (by simp [peerGone, loseTarget])
  exact purged

theorem peerGone_relay {h : Nat} {r : Relay} (low : h < 4) (here : s.relay h = some r) :
    (peerGone use cause x g s).relay h =
      some (if r.isOpen = true ∧ r.target = x then { r with phase := .done r.sent .noPeer } else r) := by
  have before : (notify (.peer cause x s.sync.superframe (runsOf x s)) (purgeHolder use x (s.modPeer x g))).relay h = some r := by
    rw [← here]
    simp [State.relay]
  have after : (peerGone use cause x g s).relay h =
      (loseTarget x (notify (.peer cause x s.sync.superframe (runsOf x s)) (purgeHolder use x (s.modPeer x g)))).relay h := by
    unfold State.relay peerGone
    rw [(action_frame _ _).2.2.2.2.2.2.2.2.2.2.2]
    rfl
  rw [after, loseTarget, completeWhere_relay _ _ _ low, before]
  simp [relayCompleted, and_comm]

theorem peerGone_head (empty : s.mgmt.notices = []) : (peerGone use cause x g s).mgmt.notices.head? =
    some (.peer cause x s.sync.superframe (runsOf x s)) := by
  have posts : PostsOnly (notify (.peer cause x s.sync.superframe (runsOf x s)) (purgeHolder use x (s.modPeer x g)))
      (peerGone use cause x g s) :=
    (completeWhere_grows _ _ _).trans (deliverSignals_grows _ _ _)
  refine posts.head (notify_head ?_)
  simpa using empty

end

/-! ### Missed turns (R44, R66) -/

/-- The peer's entry with a damaged turn counted. -/
def turnCounted (cause : MissCause) (p : Peer) : Peer :=
  if cause = .damaged then { p with damagedCells := bump p.damagedCells } else p

section
variable {cause : MissCause} {x : Nat} {p : Peer} {s : State}

theorem countDamagedTurn_eq (here : s.peers[x]? = some p) :
    countDamagedTurn x cause s = { s with peers := s.peers.set x (turnCounted cause p) } := by
  unfold countDamagedTurn turnCounted
  split
  · exact congrArg (fun l => { s with peers := l }) (modify_of_getElem? _ here)
  · rw [set_same here]

theorem peerMissed_below (here : s.peers[x]? = some p) (present : p.presence = .present) (few : p.missed < 3) :
    peerMissed x cause s = { s with peers := s.peers.set x { turnCounted cause p with missed := p.missed + 1 } } := by
  have missed : (turnCounted cause p).missed = p.missed := by unfold turnCounted; split <;> rfl
  have counted : ({ s with peers := s.peers.set x (turnCounted cause p) } : State).peers[x]? = some (turnCounted cause p) :=
    set_getElem?_self here
  unfold peerMissed
  rw [peer_eq here, present, countDamagedTurn_eq here]
  refine (if_neg (by omega)).trans (congrArg (fun l : List Peer => { s with peers := l }) ((modify_of_getElem? _ counted).trans ?_))
  rw [List.set_set, missed]

theorem peerMissed_away (here : s.peers[x]? = some p) (away : p.presence = .absent ∨ p.presence = .departed) :
    peerMissed x cause s = { s with peers := s.peers.set x (turnCounted cause p) } := by
  rw [← countDamagedTurn_eq here]
  unfold peerMissed
  rw [peer_eq here]
  rcases away with is | is <;> rw [is]

theorem peerMissed_departs (here : s.peers[x]? = some p) (present : p.presence = .present) (many : 3 ≤ p.missed) :
    peerMissed x cause s = departPeer x { s with peers := s.peers.set x (turnCounted cause p) } := by
  unfold peerMissed
  rw [peer_eq here, present, countDamagedTurn_eq here]
  exact if_pos (by omega)

end

/-! ### The turn reports of a received cell (R32, R42, R44) -/

section
variable {c : Cell} {w : CellWindow} {s : State}

theorem reportMissed_other {cause : MissCause} (other : s.sync.frameIndex ≠ s.id) :
    reportMissed cause s = peerMissed s.sync.frameIndex cause s := if_neg other

theorem notAcquire_of_takesCells (takes : s.sync.state.takesCells = true) : s.sync.state ≠ .acquire :=
  fun is => by rw [is] at takes; cases takes

theorem takeCell_silent (takes : s.sync.state.takesCells = true) : takeCell (classifyCell 0) s = reportMissed .silent s := by
  have read : classifyCell 0 = .silent := if_pos rfl
  rw [read]
  exact (if_neg (notAcquire_of_takesCells takes)).trans (if_pos takes)

theorem takeCell_damaged (takes : s.sync.state.takesCells = true) (sound : w ≠ 0)
    (bad : ∀ c, classifyCell w = .good c → 4 ≤ c.count) : takeCell (classifyCell w) s = damagedCell s := by
  have notSilent : classifyCell w ≠ .silent := by
    unfold classifyCell
    rw [if_neg sound]
    cases decodeCell w <;> nofun
  refine (if_neg (notAcquire_of_takesCells takes)).trans ((if_pos takes).trans ?_)
  cases read : classifyCell w with
  | silent => exact absurd read notSilent
  | damaged => rfl
  | good c => exact if_neg (by have := bad c read; omega)

theorem confirms_eq_false
    (unconfirmed : ∀ d, s.rx.disagreement = some d → d.sender = c.sender ∨ d.correction ≠ correctionOf c s) :
    confirms c s = false := by
  unfold confirms
  cases record : s.rx.disagreement with
  | none => rfl
  | some d =>
    show (d.sender != c.sender && d.correction == correctionOf c s) = false
    rcases unconfirmed d record with same | differs
    · simp [same]
    · simp [differs]

end

/-- What a missed turn's report is made of: its cause, and the state it is made in. -/
def MissesTurn (w : CellWindow) (p p' : Peer) (s missed : State) : Prop :=
  ∃ cause, takeCell (classifyCell w) (cellHeard s) = peerMissed s.sync.frameIndex cause missed ∧
    turnCounted cause p = p' ∧ missed.peers = s.peers ∧ missed.alloc = s.alloc ∧ missed.req = s.req ∧
    missed.mgmt = s.mgmt ∧ missed.sync.superframe = s.sync.superframe ∧ missedTurn w s = true

section
variable {line : OnLine CellWindow} {w : CellWindow} {p p' : Peer} {s missed : State}

theorem missesTurn_silent (takes : s.sync.state.takesCells = true) (other : s.sync.frameIndex ≠ s.id) :
    MissesTurn 0 p p s (cellHeard s) :=
  ⟨.silent, (takeCell_silent (s := cellHeard s) takes).trans (reportMissed_other (s := cellHeard s) other), rfl, rfl, rfl,
    rfl, rfl, rfl, rfl⟩

theorem missesTurn_damaged (takes : s.sync.state.takesCells = true) (other : s.sync.frameIndex ≠ s.id) (sound : w ≠ 0)
    (bad : ∀ c, classifyCell w = .good c → 4 ≤ c.count) :
    MissesTurn w p { p with damagedCells := bump p.damagedCells } s
      ((cellHeard s).modRx (fun r => { r with damagedCells := bump r.damagedCells })) := by
  refine ⟨.damaged, (takeCell_damaged (s := cellHeard s) takes sound bad).trans
    (reportMissed_other (s := (cellHeard s).modRx (fun r => { r with damagedCells := bump r.damagedCells })) other),
    rfl, rfl, rfl, rfl, rfl, rfl, ?_⟩
  unfold missedTurn
  cases read : classifyCell w with
  | silent | damaged => rfl
  | good c => simp [Nat.lt_of_succ_le (bad c read)]

theorem missesTurn_discarded {c : Cell} (takes : s.sync.state.takesCells = true) (other : s.sync.frameIndex ≠ s.id)
    (good : classifyCell w = .good c) (few : c.count ≤ 3) (foreign : c.sender ≠ s.id)
    (differs : c.sender ≠ s.sync.frameIndex ∨ c.superframe ≠ s.sync.superframe)
    (unconfirmed : ∀ d, s.rx.disagreement = some d → d.sender = c.sender ∨ d.correction ≠ correctionOf c s) :
    MissesTurn w p p s
      ((countSync (fun k => { k with disagreeing := bump k.disagreeing }) (cellHeard s)).modRx
        (fun r => { r with disagreement := some ⟨c.sender, correctionOf c s⟩ })) := by
  have unconfirmed' : confirms c (cellHeard s) = false := confirms_eq_false (s := cellHeard s) unconfirmed
  refine ⟨.discarded, ?_, rfl, rfl, rfl, rfl, rfl, rfl, ?_⟩
  · rw [good, takeCell_valid (s := cellHeard s) takes few, validCell_discards (s := cellHeard s) foreign differs unconfirmed']
    exact reportMissed_other (s := (countSync (fun k => { k with disagreeing := bump k.disagreeing }) (cellHeard s)).modRx
      (fun r => { r with disagreement := some ⟨c.sender, correctionOf c s⟩ })) other
  · unfold missedTurn
    rw [good]
    simp [foreign, agrees_eq_false differs, confirms_eq_false unconfirmed]

theorem departs_of (misses : MissesTurn (receivedCell line s) p p' s missed) (takes : s.sync.state.takesCells = true)
    (other : s.sync.frameIndex ≠ s.id) (here : s.peers[s.sync.frameIndex]? = some p) (present : p.presence = .present)
    (many : 3 ≤ p.missed) : departs line s = true := by
  obtain ⟨cause, -, -, -, -, -, -, -, misses⟩ := misses
  simp [departs, departureDue, drivesOwnCell, takes, other, misses, peer_eq here, present, many]

end

/-- Settles O50: each cause hands the same report to the peer table, which counts it or lets the peer go. -/
theorem fourthMissedTurnDeparts : Obligations.FourthMissedTurnDeparts := by
  intro line p p' s missed high takes other here w heard causes
  have misses : MissesTurn w p p' s missed := by
    rcases causes with ⟨silent, rfl, rfl⟩ | ⟨sound, bad, rfl, rfl⟩ | ⟨c, good, few, foreign, differs, unconfirmed, rfl, rfl⟩
    · rw [silent]
      exact missesTurn_silent takes other
    · exact missesTurn_damaged takes other sound bad
    · exact missesTurn_discarded takes other good few foreign differs unconfirmed
  have quiet : drivesOwnCell s = false := by simp [drivesOwnCell, other]
  have runs := timerRuns_of_takesCells takes
  have departing := departs_of misses takes other here
  obtain ⟨cause, taken, rfl, peers, alloc, req, mgmt, superframe, -⟩ := misses
  have received : cellEvent line s = peerMissed s.sync.frameIndex cause missed :=
    (if_pos (by simp [runs, quiet])).trans taken
  have here' : missed.peers[s.sync.frameIndex]? = some p := by rw [peers]; exact here
  have exec_received : exec (.cellReceived line) s = .next (peerMissed s.sync.frameIndex cause missed) :=
    (exec_cellReceived high runs quiet).trans (congrArg _ taken)
  refine ⟨fun present few => ?below, fun away => ?away, fun present many ok => ?departs⟩
  case below => rw [exec_received, peerMissed_below here' present few, peers]
  case away => rw [exec_received, peerMissed_away here' away, peers]
  case departs =>
    have done : exec (.peerDeparture line) s = .next (cellEvent line s) :=
      (underReset_high _ high).trans (congrArg _ (whenDue_of _ (departing present many)))
    refine ⟨_, done, ?_⟩
    rw [received, peerMissed_departs here' present many, departPeer_eq, peers]
    obtain ⟨u, is⟩ : ∃ u : State, u = { missed with peers := s.peers.set s.sync.frameIndex (turnCounted cause p) } := ⟨_, rfl⟩
    have counted : u.peers = s.peers.set s.sync.frameIndex (turnCounted cause p) := by rw [is]
    have sync : u.sync = missed.sync := by rw [is]
    have rx : u.rx = missed.rx := by rw [is]
    have alloc' : u.alloc = s.alloc := by rw [is]; exact alloc
    have req' : u.req = s.req := by rw [is]; exact req
    have mgmt' : u.mgmt = s.mgmt := by rw [is]; exact mgmt
    have ok' : MapOk u := MapOk.of_same (congrArg Alloc.dir alloc') (congrArg Alloc.slots alloc') ok
    rw [← is]
    obtain ⟨dir, gone, kept⟩ := peerGone_purged (use := .stray) (cause := .departed) (x := s.sync.frameIndex)
      (g := fun p => { p with presence := .departed, missed := 4 }) ok'
    rw [alloc'] at dir gone kept
    refine ⟨peerGone_sync.trans sync, peerGone_rx.trans rx, ?_, dir, gone, fun e mem away k inside => ?_,
      fun h r low relay => ?_, fun empty => ?_⟩
    · rw [peerGone_peers (p := turnCounted cause p) (by rw [counted]; exact set_getElem?_self here), counted, List.set_set]
    · rw [kept e mem away k inside, State.slot, State.slot, alloc']
    · refine peerGone_relay low ?_
      rw [← relay, State.relay, State.relay, req']
    · rw [peerGone_head (by rw [mgmt']; exact empty), runsOf, alloc', sync, superframe]

end Sys2Proof.Proofs
end

section
/-! An accepted cell: its sender's turn, and its items in order (R44, R45). -/

namespace Sys2Proof.Proofs
open Sys2Proof.Machine

/-! ### What an item does to the sync state -/

theorem actionOf_restart {a : Nat} (is : actionOf a = some .restart) : a = 14 := by
  unfold actionOf at is
  split at is <;> simp_all

theorem doAction_state {a : Action} {n : Nat} {s : State} (notRestart : a ≠ .restart) :
    (doAction a n s).2.sync.state = s.sync.state := by
  cases a with
  | muteSource | unmuteSource | muteSink | unmuteSink => unfold doAction; dsimp only; split <;> rfl
  | reseekSource =>
    unfold doAction reseek
    dsimp only
    repeat' split
    all_goals simp
  | clearCounters => rfl
  | restart => exact absurd rfl notRestart

theorem serveCommand_sync {x q i : Nat} {a : Action} {s : State} (admitted : s.admits x = true) :
    (serveCommand x q a i s).sync = (doAction a i s).2.sync := by
  unfold serveCommand
  rw [if_pos admitted]
  simp

theorem serveCommand_refused_sync {x q i : Nat} {a : Action} {s : State} (refused : s.admits x = false) :
    (serveCommand x q a i s).sync = s.sync := by
  unfold serveCommand
  rw [if_neg (by simp [refused])]
  simp

/-- The RESTART of a COMMAND that the manager set admits is the only item to change the sync state. -/
theorem dispatchItem_state {x : Nat} {it : Item} {s : State}
    (notRestart : ∀ q i, it = .command s.id q 14 i → s.admits x = false) :
    (dispatchItem x it s).sync.state = s.sync.state := by
  cases it with
  | claim | offer | release | leave => simp [dispatchItem]
  | unknown => rfl
  | probe =>
    dsimp only [dispatchItem]
    repeat' split
    · simp [serveProbe]
    · rfl
    · rfl
  | command target q a i =>
    dsimp only [dispatchItem]
    split
    case isFalse => rfl
    case isTrue own =>
      cases named : actionOf a with
      | none => rfl
      | some act =>
        cases admitted : s.admits x with
        | false => exact congrArg Sync.state (serveCommand_refused_sync admitted)
        | true =>
          refine (congrArg Sync.state (serveCommand_sync admitted)).trans (doAction_state fun is => ?_)
          subst is
          rw [own, actionOf_restart named] at notRestart
          exact absurd (notRestart q i rfl) (by simp [admitted])
  | answer =>
    dsimp only [dispatchItem]
    repeat' split
    · unfold takeAnswer
      split <;> simp
    · rfl
    · rfl

/-- A COMMAND RESTART to this station that the manager set admits. -/
theorem dispatchItem_restart_sync {x y q i : Nat} {s : State} (own : y = s.id) (admitted : s.admits x = true) :
    (dispatchItem x (.command y q 14 i) s).sync = (restart s).2.sync :=
  (congrArg State.sync (if_pos own)).trans (serveCommand_sync (a := .restart) admitted)

theorem restart_of_states {s : State} (state : s.sync.state = .learn ∨ s.sync.state = .mute) :
    (restart s).2.sync.state = .listen := by
  have is : restart s = (.done, teardown (notifySync .restarted) s) := by
    unfold restart
    rcases state with state | state <;> rw [state]
  rw [is]
  exact congrArg Sync.state (teardown_blocks (notifySync_posts .restarted) s).1

theorem restart_goesOn {s : State} (takes : s.sync.state.takesCells = true)
    (other : s.sync.state ≠ .learn ∧ s.sync.state ≠ .mute) : (restart s).2.sync.state = .leaving := by
  unfold restart
  cases state : s.sync.state with
  | founding | locked => exact congrArg Sync.state (enterLeaving_sync s)
  | leaving => exact state
  | learn | mute => simp_all
  | configLoad | configWait | configFault | listen | acquire => rw [state] at takes; cases takes

/-! ### The items in order (R45, R46) -/

/-- One item of a cell of `x`, a malformed one only counted. -/
def itemTaken (own x : Nat) (t : State) (it : Item) : State :=
  if it.malformed own = true then { t with rx := { t.rx with malformedItems := bump t.rx.malformedItems } }
  else dispatchItem x it t

/-- The items that follow `it` are taken too: it is no LEAVE, nor a RESTART that tears the station down. -/
def GoesOn (x : Nat) (s : State) (it : Item) : Prop :=
  it ≠ .leave ∧ (s.sync.state = .learn ∨ s.sync.state = .mute → ∀ q i, it = .command s.id q 14 i → s.admits x = false)

/-- The configuration is the one before, and the station still takes the items of the cell: it is in LEARN or MUTE as
before, or in one of the other states that take cells. -/
structure StillTakes (s t : State) : Prop where
  loader : t.loader = s.loader
  takes : t.sync.state.takesCells = true
  tornDown : t.sync.state = .learn ∨ t.sync.state = .mute ↔ s.sync.state = .learn ∨ s.sync.state = .mute

section
variable {x : Nat} {it : Item} {s t : State}

theorem StillTakes.id (still : StillTakes s t) : t.id = s.id := by rw [State.id, State.id, still.loader]

theorem StillTakes.admits (still : StillTakes s t) : t.admits x = s.admits x := by
  rw [State.admits, State.admits, still.loader]

theorem StillTakes.item (still : StillTakes s t) (goes : GoesOn x s it) : StillTakes s (itemTaken s.id x t it) := by
  unfold itemTaken
  split
  · exact ⟨still.loader, still.takes, still.tornDown⟩
  · have loader := (dispatchItem_sameSetup x it t).loader.trans still.loader
    by_cases restarts : ∃ q i, it = .command t.id q 14 i ∧ t.admits x = true
    · obtain ⟨q, i, rfl, admitted⟩ := restarts
      have away : ¬(t.sync.state = .learn ∨ t.sync.state = .mute) := fun which => by
        have refused := goes.2 (still.tornDown.mp which) q i (by rw [still.id])
        rw [← still.admits, admitted] at refused
        cases refused
      have left : (dispatchItem x (.command t.id q 14 i) t).sync.state = .leaving :=
        (congrArg Sync.state (dispatchItem_restart_sync rfl admitted)).trans (restart_goesOn still.takes (not_or.mp away))
      refine ⟨loader, by rw [left]; rfl, ?_⟩
      rw [left, ← still.tornDown]
      simp [away]
    · have same : (dispatchItem x it t).sync.state = t.sync.state := dispatchItem_state fun q i is => by
        by_contra admitted
        exact restarts ⟨q, i, is, Bool.eq_true_of_not_eq_false admitted⟩
      exact ⟨loader, by rw [same]; exact still.takes, by rw [same]; exact still.tornDown⟩

theorem StillTakes.items (still : StillTakes s t) {items : List Item} (go : ∀ it ∈ items, GoesOn x s it) :
    StillTakes s (items.foldl (itemTaken s.id x) t) := by
  induction items generalizing t with
  | nil => exact still
  | cons it rest ih =>
    exact ih (still.item (go it (List.mem_cons_self ..))) (fun it mem => go it (List.mem_cons_of_mem _ mem))

/-- Items after which the station still takes items are taken in order, and the rest after them. -/
theorem dispatchItems_append (still : StillTakes s t) {front : List Item} (go : ∀ it ∈ front, GoesOn x s it)
    (back : List Item) :
    dispatchItems x (front ++ back) t = dispatchItems x back (front.foldl (itemTaken s.id x) t) := by
  induction front generalizing t with
  | nil => rfl
  | cons it rest ih =>
    have goes := go it (List.mem_cons_self ..)
    refine Eq.trans ?_ (ih (still.item goes) (fun it mem => go it (List.mem_cons_of_mem _ mem)))
    rw [List.cons_append, dispatchItems, if_pos still.takes, if_neg goes.1, itemTaken, ← still.id]
    split <;> rfl

theorem dispatchItems_leave (takes : t.sync.state.takesCells = true) (back : List Item) :
    dispatchItems x (.leave :: back) t = dispatchItem x .leave t := by
  rw [dispatchItems, if_pos takes]
  rfl

/-- After an item that leaves a state which takes no cells nothing of the cell is taken. -/
theorem dispatchItems_stops (takes : t.sync.state.takesCells = true) (sound : it.malformed t.id = false)
    (notLeave : it ≠ .leave) (stops : (dispatchItem x it t).sync.state.takesCells = false) (back : List Item) :
    dispatchItems x (it :: back) t = dispatchItem x it t := by
  rw [dispatchItems, if_pos takes, if_neg (by simp [sound]), if_neg notLeave]
  cases back with
  | nil => rfl
  | cons => rw [dispatchItems, if_neg (by simp [stops])]

end

/-! ### The blocks that own an item's matter -/

theorem action_eq (f : State → State) (u : State) :
    action f u = { f u with sinks := (action f u).sinks, mgmt := (action f u).mgmt } := by
  obtain ⟨pending, resetLow, loader, sync, line, rx, tx, peers, alloc, sources, ports, req⟩ := action_frame f u
  cases after : action f u
  rw [after] at pending resetLow loader sync line rx tx peers alloc sources ports req
  dsimp only at pending resetLow loader sync line rx tx peers alloc sources ports req
  subst pending resetLow loader sync line rx tx peers alloc sources ports req
  rfl

/-! ### The turn of the sender (R64, R65) -/

section
variable {x : Nat} {sf : Superframe} {p : Peer} {s : State}

theorem peerHeard_turn (here : s.peers[x]? = some p) (present : p.presence = .present) :
    peerHeard x sf false s = s.modPeer x (Peer.heard sf) := by
  unfold peerHeard
  rw [peer_eq here, present]
  rfl

theorem peerHeard_rejoins (here : s.peers[x]? = some p) (present : p.presence = .present) :
    peerHeard x sf true s = action (fun t => notify (.peer .rejoined x sf (runsOf x t)) (purgeHolder .free x t))
      (s.modPeer x (Peer.heard sf)) := by
  unfold peerHeard
  rw [peer_eq here, present]
  rfl

theorem peerHeard_peers {fresh : Bool} (here : s.peers[x]? = some p) (present : p.presence = .present) :
    (peerHeard x sf fresh s).peers = s.peers.set x ⟨.present, 0, some sf, p.damagedCells⟩ := by
  have peers : (peerHeard x sf fresh s).peers = s.peers.modify x (Peer.heard sf) := by
    cases fresh with
    | false => rw [peerHeard_turn here present]; rfl
    | true => rw [peerHeard_rejoins here present]; simp
  rw [peers, modify_of_getElem? _ here]
  rfl

theorem peerHeard_purged (here : s.peers[x]? = some p) (present : p.presence = .present) (ok : MapOk s) :
    Purged .free x s (peerHeard x sf true s) := by
  have ok' : MapOk (s.modPeer x (Peer.heard sf)) := ok
  have purged : Purged .free x (s.modPeer x (Peer.heard sf)) (peerHeard x sf true s) :=
    purgeHolder_purged .free x ok' (by rw [peerHeard_rejoins here present]; simp)
  exact purged

theorem peerHeard_rejoined (here : s.peers[x]? = some p) (present : p.presence = .present) (empty : s.mgmt.notices = []) :
    (peerHeard x sf true s).mgmt.notices.head? = some (.peer .rejoined x sf (runsOf x s)) := by
  rw [peerHeard_rejoins here present]
  have posts := deliverSignals_grows (s.modPeer x (Peer.heard sf)).alloc.dir
    (notify (.peer .rejoined x sf (runsOf x s)) (purgeHolder .free x (s.modPeer x (Peer.heard sf)))).alloc.dir
    (notify (.peer .rejoined x sf (runsOf x s)) (purgeHolder .free x (s.modPeer x (Peer.heard sf))))
  refine posts.head (notify_head ?_)
  simpa using empty

end

/-- The state in which an agreeing cell's report is made. -/
def cellAgreed (s : State) : State := (cellHeard s).modRx (fun r => { r with disagreement := none })

theorem exec_cellReceived_agreeing {line : OnLine CellWindow} {c : Cell} {s : State} (high : s.resetLow = false)
    (takes : s.sync.state.takesCells = true) (good : classifyCell (receivedCell line s) = .good c) (few : c.count ≤ 3)
    (foreign : c.sender ≠ s.id) (index : c.sender = s.sync.frameIndex) (superframe : c.superframe = s.sync.superframe) :
    exec (.cellReceived line) s = .next (acceptCell c (cellAgreed s)) := by
  have quiet : drivesOwnCell s = false := by simp [drivesOwnCell, ← index, foreign]
  rw [exec_cellReceived high (timerRuns_of_takesCells takes) quiet, good, takeCell_valid (s := cellHeard s) takes few,
    validCell_agrees (s := cellHeard s) foreign index superframe]
  rfl

theorem stillTakes_turn {c : Cell} {s : State} (takes : s.sync.state.takesCells = true) :
    StillTakes s (peerHeard c.sender c.superframe c.fresh (cellAgreed s)) := by
  have sync : (peerHeard c.sender c.superframe c.fresh (cellAgreed s)).sync = (cellAgreed s).sync :=
    (peerHeard_frame _ _ _ _).2.2.2.1
  exact ⟨(peerHeard_frame _ _ _ _).2.2.1, by rw [sync]; exact takes, by rw [sync]; exact Iff.rfl⟩

/-- Settles O49: the turn first, then the items while the station takes them. -/
theorem agreeingCellsAreHeardAndDispatched : Obligations.AgreeingCellsAreHeardAndDispatched := by
  intro line c s high takes good few foreign index superframe heard turn items take goesOn
  have accepted : exec (.cellReceived line) s = .next (dispatchItems c.sender items turn) :=
    exec_cellReceived_agreeing high takes good few foreign index superframe
  have still : StillTakes s turn := stillTakes_turn takes
  refine ⟨fun go => ?all, fun front back is go => ?left, fun front back q i is go state admitted => ?restarted,
    fun _ _ _ _ _ _ _ => ⟨rfl, rfl, rfl⟩, fun f u => ⟨_, _, action_eq f u⟩, fun x y q a i st v u other =>
    ⟨if_neg other, if_neg other, if_neg other⟩, fun x p u other here ok => ?gone, fun p here present => ?turned⟩
  case all =>
    have whole := dispatchItems_append still (x := c.sender) go []
    rw [List.append_nil] at whole
    exact accepted.trans (congrArg _ whole)
  case left =>
    refine accepted.trans (congrArg _ ?_)
    rw [is, dispatchItems_append still (x := c.sender) go, dispatchItems_leave (still.items go).takes]
    rfl
  case restarted =>
    have after := still.items (x := c.sender) go
    have named : (front.foldl (itemTaken s.id c.sender) turn).id = s.id := after.id
    have listens : (dispatchItem c.sender (.command s.id q 14 i) (front.foldl (itemTaken s.id c.sender) turn)).sync.state
        = .listen := by
      rw [dispatchItem_restart_sync named.symm (after.admits.trans admitted)]
      exact restart_of_states (after.tornDown.mpr state)
    have sound : Item.malformed (front.foldl (itemTaken s.id c.sender) turn).id (.command s.id q 14 i) = false := by
      simp [Item.malformed, actionOf]
    refine ⟨_, accepted.trans (congrArg _ ?_), rfl, listens⟩
    rw [is, dispatchItems_append still (x := c.sender) go,
      dispatchItems_stops after.takes sound nofun (by rw [listens]; rfl)]
    rfl
  case gone =>
    obtain ⟨dir, gone, kept⟩ := peerGone_purged (use := .free) (cause := .left) (x := x)
      (g := fun p => { p with presence := .departed, missed := 0 }) ok
    exact ⟨peerGone_peers here, dir, gone, kept, fun h r low relay => peerGone_relay low relay, peerGone_sync, peerGone_rx,
      peerGone_sources, peerGone_head⟩
  case turned =>
    have here' : (cellAgreed s).peers[c.sender]? = some p := here
    refine ⟨peerHeard_peers here' present, fun stale => ?_, fun fresh ok => ?_⟩
    · have plain : turn = (cellAgreed s).modPeer c.sender (Peer.heard c.superframe) :=
        (congrArg (fun b => peerHeard c.sender c.superframe b (cellAgreed s)) stale).trans (peerHeard_turn here' present)
      rw [plain]
      exact ⟨rfl, rfl⟩
    · have joined : turn = peerHeard c.sender c.superframe true (cellAgreed s) :=
        congrArg (fun b => peerHeard c.sender c.superframe b (cellAgreed s)) fresh
      have ok' : MapOk (cellAgreed s) := ok
      obtain ⟨dir, gone, kept⟩ := peerHeard_purged (sf := c.superframe) here' present ok'
      rw [joined]
      exact ⟨dir, gone, kept, peerHeard_rejoined here' present⟩

end Sys2Proof.Proofs
end

section
/-! Requests to this station served, and ANSWERs matched (chapter 10). -/

namespace Sys2Proof.Proofs
open Sys2Proof.Machine

/-! ### The codes of requests and ANSWERs (R190) -/

theorem subjectOf_code (sub : Subject) : subjectOf sub.code = some sub := by cases sub <;> rfl

theorem actionOf_code (a : Action) : actionOf a.code = some a := by cases a <;> rfl

theorem answerStatusOf_code (st : AnswerStatus) : answerStatusOf st.code = some st := by cases st <;> rfl

theorem codeOf_code (c : Code) : codeOf c.code = some c := by
  cases c with
  | subject sub => cases sub <;> rfl
  | action a => cases a <;> rfl

/-! ### Serving (R165 to R168) -/

section
variable {x q i : Nat} {s : State}

theorem dispatchItem_probe (sub : Subject) :
    dispatchItem x (.probe s.id q sub.code i) s = serveProbe x q sub i s := by
  refine (if_pos rfl).trans ?_
  rw [subjectOf_code]

theorem dispatchItem_command (a : Action) :
    dispatchItem x (.command s.id q a.code i) s = serveCommand x q a i s := by
  refine (if_pos rfl).trans ?_
  rw [actionOf_code]

theorem dispatchItem_answer (st : AnswerStatus) (c : Code) (payload : Payload) :
    dispatchItem x (.answer s.id q st.code c.code payload) s = takeAnswer x q st c payload s := by
  refine (if_pos rfl).trans ?_
  rw [answerStatusOf_code, codeOf_code]

/-- An ANSWER in a state that takes items, with room. -/
theorem post_answer {st : AnswerStatus} {c : Code} {payload : Payload}
    (state : s.sync.state = .locked ∨ s.sync.state = .leaving) (room : s.tx.queue.length < 16) :
    post (.answer x q st c payload) s = modQueue (· ++ [.answer x q st c payload]) s := by
  rw [post_room (by rcases state with is | is <;> rw [is] <;> rfl) (by simp) room]
  rfl

/-- An admitted COMMAND is answered with the outcome of its action, in the state the action leaves. -/
theorem serveCommand_admitted {a : Action} {r : AnswerStatus × State} (admitted : s.admits x = true)
    (outcome : doAction a i s = r) (state : r.2.sync.state = .locked ∨ r.2.sync.state = .leaving)
    (room : r.2.tx.queue.length < 16) :
    serveCommand x q a i s = modQueue (· ++ [.answer x q r.1 (.action a) 0])
      (countReq (fun c => { c with commandsExecuted := bump c.commandsExecuted }) r.2) := by
  subst outcome
  exact (if_pos admitted).trans (post_answer (s := countReq _ (doAction a i s).2) state room)

theorem admits_of {im : Image} (loaded : s.loader.image = some im) (member : im.managers = [] ∨ x ∈ im.managers) :
    s.admits x = true := by
  rw [State.admits, loaded]
  rcases member with empty | mem
  · simp [empty]
  · simp [mem]

theorem admits_eq_false {im : Image} (loaded : s.loader.image = some im) (managed : im.managers ≠ [])
    (other : x ∉ im.managers) : s.admits x = false := by
  rw [State.admits, loaded]
  simp [managed, other]

end

/-! ### The outcomes of the actions (R132, R150, R167) -/

section
variable {i : Nat} {s : State}

/-- An action that changes one entry of a list, or names none. -/
theorem doneIf_eq {α : Type} (l : List α) (f : α → α) (put : List α → State) (same : put l = s) :
    (if i < l.length then (AnswerStatus.done, put (l.modify i f)) else (.noSuch, s)) =
      (if i < l.length then .done else .noSuch, put (l.modify i f)) := by
  split
  · rfl
  · rw [modify_of_none f (List.getElem?_eq_none_iff.mpr (by omega)), same]

theorem doAction_muteSource {a : Action} {b : Bool} (mem : (a, b) ∈ [(Action.muteSource, true), (.unmuteSource, false)]) :
    doAction a i s = (if i < s.sources.length then .done else .noSuch, s.modSource i (fun c => { c with muted := b })) := by
  have either : (a = .muteSource ∧ b = true) ∨ (a = .unmuteSource ∧ b = false) := by simpa using mem
  rcases either with ⟨rfl, rfl⟩ | ⟨rfl, rfl⟩ <;>
    exact doneIf_eq s.sources _ (fun l => { s with sources := l }) rfl

theorem doAction_muteSink {a : Action} {b : Bool} (mem : (a, b) ∈ [(Action.muteSink, true), (.unmuteSink, false)]) :
    doAction a i s = (if i < s.sinks.length then .done else .noSuch, s.modSink i (fun c => { c with muted := b })) := by
  have either : (a = .muteSink ∧ b = true) ∨ (a = .unmuteSink ∧ b = false) := by simpa using mem
  rcases either with ⟨rfl, rfl⟩ | ⟨rfl, rfl⟩ <;>
    exact doneIf_eq s.sinks _ (fun l => { s with sinks := l }) rfl

theorem doAction_reseek {c : Source} (here : s.sources[i]? = some c) :
    doAction .reseekSource i s = if c.state = .owned then (.done, enterReleasing i s) else (.notNow, s) := by
  have inRange : i < s.sources.length := (List.getElem?_eq_some_iff.mp here).1
  simp [doAction, inRange, reseek, sourceIs_of here]

end

/-! ### Entry to LEAVING: the queue's length and the request counters -/

theorem completeRelay_counters (h : Nat) (result : RelayOutcome) (s : State) :
    (completeRelay h result s).req.counters = s.req.counters := by
  unfold completeRelay
  repeat' split
  all_goals simp

theorem dropRelay_counters (h q : Nat) (s : State) : (dropRelay h q s).req.counters = s.req.counters := by
  unfold dropRelay
  repeat' split
  · exact completeRelay_counters h _ s
  · rfl
  · rfl

theorem returnItem_counters (it : QItem) (s : State) : (returnItem it s).req.counters = s.req.counters := by
  cases it with
  | probe h q | command h q => exact dropRelay_counters h q s
  | release n tag run stale => cases stale <;> rfl
  | claim | offer | answer | leave => rfl

theorem purgeQueue_counters (s : State) : (purgeQueue s).req.counters = s.req.counters := by
  unfold purgeQueue
  dsimp only
  refine forEach_inv (fun t => t.req.counters = s.req.counters) _ _ _ ?_ (fun h t same => ?_)
  · exact foldl_inv (fun t => t.req.counters = s.req.counters) _ _ _ rfl
      (fun t it same => (returnItem_counters it t).trans same)
  · refine foldl_inv (fun t => t.req.counters = s.req.counters) _ _ _ same (fun u it same => ?_)
    repeat' split
    all_goals simpa [dropRelay_counters] using same

theorem enterLeaving_counters (s : State) : (enterLeaving s).req.counters = s.req.counters := by
  have req : (enterLeaving s).req = (purgeQueue (s.modSync (fun y => { y with state := .leaving }))).req := by
    simp [enterLeaving]
  rw [req]
  exact purgeQueue_counters _

theorem enterLeaving_length {s : State} (room : s.tx.queue.length < 15) : (enterLeaving s).tx.queue.length < 16 := by
  have purged := purgeQueue_queue (s.modSync (fun y => { y with state := .leaving }))
  have shorter : (purgeQueue (s.modSync (fun y => { y with state := .leaving }))).tx.queue.length ≤ s.tx.queue.length := by
    rw [purged]
    exact List.length_filter_le _ _
  have left : (enterLeaving s).tx.queue =
      (purgeQueue (s.modSync (fun y => { y with state := .leaving }))).tx.queue ++ [.leave] :=
    congrArg (fun t : State => t.tx.queue) (if_pos (by omega))
  rw [left, List.length_append]
  simp only [List.length_singleton]
  omega

/-! ### The counters cleared (R184) -/

theorem clearCounters_tx (s : State) : (clearCounters s).tx = ⟨s.tx.queue, s.tx.built, 0, 0, 0⟩ := rfl

theorem clearCounters_sync (s : State) : (clearCounters s).sync = { s.sync with counters := ⟨0, 0, 0, 0, 0⟩ } := rfl

theorem clearCounters_counters (s : State) : (clearCounters s).req.counters = ⟨0, 0, 0, 0, 0, 0⟩ := rfl

/-! ### ANSWERs (R174) -/

/-- Two open entries of one number are one. -/
theorem open_unique {table : List (Option Relay)} (single : (openNumbers table).Nodup) {g h : Nat} {r r' : Relay}
    (here : table[h]? = some (some r)) (there : table[g]? = some (some r')) (isOpen : r.isOpen = true)
    (isOpen' : r'.isOpen = true) (same : r'.reqNo = r.reqNo) : g = h := by
  rw [openNumbers_eq, List.Nodup, List.pairwise_filterMap, List.pairwise_iff_getElem] at single
  obtain ⟨inH, atH⟩ := List.getElem?_eq_some_iff.mp here
  obtain ⟨inG, atG⟩ := List.getElem?_eq_some_iff.mp there
  have number : openNumber table[h] = some r.reqNo := by simp [atH, openNumber, isOpen]
  have number' : openNumber table[g] = some r.reqNo := by simp [atG, openNumber, isOpen', same]
  rcases Nat.lt_trichotomy g h with less | equal | more
  · exact absurd rfl (single g h inG inH less r.reqNo number' r.reqNo number)
  · exact equal
  · exact absurd rfl (single h g inH inG more r.reqNo number r.reqNo number')

theorem awaits_iff {x q : Nat} {r : Relay} :
    r.awaits x q = true ↔ ∃ sent, r.phase = .awaiting sent ∧ r.target = x ∧ r.reqNo = q := by
  unfold Relay.awaits
  cases r.phase <;> simp

theorem isOpen_of_awaiting {r : Relay} {sent : Superframe} (phase : r.phase = .awaiting sent) : r.isOpen = true := by
  rw [Relay.isOpen, phase]

theorem matchingHandle_eq_some {x q h : Nat} {r : Relay} {sent : Superframe} {s : State} (ok : RelaysOk s)
    (here : s.relay h = some r) (phase : r.phase = .awaiting sent) (target : r.target = x) (number : r.reqNo = q) :
    matchingHandle x q s = some h := by
  obtain ⟨inRange, atH⟩ := List.getElem?_eq_some_iff.mp (relay_eq_some_iff.mp here)
  refine List.findIdx?_eq_some_iff_getElem.mpr ⟨inRange, ?_, fun g less => ?_⟩
  · rw [atH]
    exact awaits_iff.mpr ⟨sent, phase, target, number⟩
  · intro also
    cases atG : s.req.table[g] with
    | none => simp [atG] at also
    | some r' =>
      rw [atG] at also
      obtain ⟨sent', phase', -, number'⟩ := awaits_iff.mp also
      have there : s.req.table[g]? = some (some r') := List.getElem?_eq_some_iff.mpr ⟨by omega, atG⟩
      have := open_unique ok.2.1 (relay_eq_some_iff.mp here) there (isOpen_of_awaiting phase) (isOpen_of_awaiting phase')
        (number'.trans number.symm)
      omega

theorem matchingHandle_eq_none {x q : Nat} {s : State} (unmatched : ∀ (h : Nat) (r : Relay) (sent : Superframe),
    s.relay h = some r → r.phase = .awaiting sent → r.target = x → r.reqNo ≠ q) : matchingHandle x q s = none := by
  rw [matchingHandle, List.findIdx?_eq_none_iff]
  intro e mem
  cases e with
  | none => rfl
  | some r =>
    obtain ⟨h, here⟩ := List.mem_iff_getElem?.mp mem
    rw [← Bool.not_eq_true, awaits_iff]
    rintro ⟨sent, phase, target, number⟩
    exact unmatched h r sent (relay_eq_some_iff.mpr here) phase target number

/-- Settles O54: what each request does, and the ANSWER it posts. -/
theorem requestsAreServedAndAnswersMatched : Obligations.RequestsAreServedAndAnswersMatched := by
  intro x q i s locked room queued
  refine ⟨fun sub st payload answer => ?probed, fun im loaded member => ?commanded,
    fun a im loaded managed other => ?refused, fun st c payload => ⟨fun h r sent ok low here phase target number => ?matched,
      fun unmatched => ?late⟩⟩
  case probed =>
    have is : probeAnswer sub i s = (st, payload) := by rw [answer]; cases sub <;> rfl
    rw [dispatchItem_probe, serveProbe, is]
    exact post_answer (s := countReq _ s) (.inl locked) room
  case commanded =>
    intro counted
    have admitted := admits_of loaded member
    have served {a : Action} {r : AnswerStatus × State} (outcome : doAction a i s = r)
        (state : r.2.sync.state = .locked ∨ r.2.sync.state = .leaving) (fits : r.2.tx.queue.length < 16) :
        dispatchItem x (.command s.id q a.code i) s = _ :=
      (dispatchItem_command a).trans (serveCommand_admitted admitted outcome state fits)
    refine ⟨fun ⟨a, b⟩ mem => ?_, fun ⟨a, b⟩ mem => ?_, fun none => ?_, fun c here other => ?_,
      fun c r here owned run room => ?_, fun room => ?_, ?_⟩
    · exact served (doAction_muteSource mem) (.inl locked) room
    · exact served (doAction_muteSink mem) (.inl locked) room
    · exact served (r := (.noSuch, s)) (if_neg (by omega)) (.inl locked) room
    · exact served (r := (.notNow, s)) ((doAction_reseek here).trans (if_neg other)) (.inl locked) room
    · have releases := enterReleasing_room here run (.inl locked) (Nat.lt_succ_of_lt room)
      have outcome : doAction .reseekSource i s = (.done, _) :=
        ((doAction_reseek here).trans (if_pos owned)).trans (congrArg _ releases)
      refine ⟨_, sourceReleasing .release c, served outcome (.inl locked) ?_, modify_getElem?_self _ here, rfl, run, rfl,
        rfl, ?_⟩
      · show (s.tx.queue ++ [_]).length < 16
        rw [List.length_append]
        exact Nat.succ_lt_succ room
      · show (s.tx.queue ++ [_]) ++ [_] = _
        rw [List.append_assoc]
        rfl
    · have outcome : doAction .restart i s = (.done, enterLeaving s) := by
        simp only [doAction, restart, locked]
      have left : (enterLeaving s).sync.state = .leaving := congrArg Sync.state (enterLeaving_sync s)
      refine ⟨_, served outcome (.inr left) (enterLeaving_length room), left, ?_, ?_, ?_⟩
      · exact List.mem_append_left _ (enterLeaving_queue s).1
      · exact List.mem_append_right _ (List.mem_singleton_self _)
      · show { (enterLeaving s).req.counters with
            commandsExecuted := bump (enterLeaving s).req.counters.commandsExecuted } = counted.counters
        rw [enterLeaving_counters]
    · have state : (clearCounters s).sync.state = .locked := by rw [clearCounters_sync]; exact locked
      have fits : (clearCounters s).tx.queue.length < 16 := by rw [clearCounters_tx]; exact room
      refine ⟨_, served (r := (.done, clearCounters s)) rfl (.inl state) fits, ?_, clearCounters_sync s, ?_,
        (clearCounters_frame s).2.2.2.2⟩
      · rw [modQueue_tx, countReq_tx, clearCounters_tx]
      · show { (clearCounters s).req.counters with
            commandsExecuted := bump (clearCounters s).req.counters.commandsExecuted } = _
        rw [clearCounters_counters]
        rfl
  case refused =>
    have refuses := admits_eq_false loaded managed other
    rw [dispatchItem_command, serveCommand, if_neg (by simp [refuses])]
    exact post_answer (s := countReq _ s) (.inl locked) room
  case matched =>
    have isOpen := isOpen_of_awaiting phase
    have sentIs : r.sent = some sent := by rw [Relay.sent, phase]
    refine ⟨_, dispatchItem_answer st c payload, ?_⟩
    rw [takeAnswer, matchingHandle_eq_some ok here phase target number]
    refine ⟨?_, completeRelay_counters _ _ _, fun empty => ?_, by simp, by simp⟩
    · show (completeRelay h (.answered st c payload) s).relay h = _
      rw [completeRelay_relay, if_pos rfl, here]
      simp [relayCompleted, isOpen, sentIs]
    · show (completeRelay h (.answered st c payload) s).mgmt.notices = _
      rw [completeRelay_open _ here isOpen, notify_notices, setRelay_mgmt, empty, number, target]
      rfl
  case late =>
    rw [dispatchItem_answer, takeAnswer, matchingHandle_eq_none unmatched]
    rfl

end Sys2Proof.Proofs
end

section
/-! What the allocator tells its owners: losses told, and objections (R74, R87, R105, R123 to R125, R134). -/

namespace Sys2Proof.Proofs
open Sys2Proof.Machine

/-! ### Loops of which at most one round acts -/

theorem forEach_none {f : Nat → State → State} {s : State} (stays : ∀ i, f i s = s) (k : Nat) : forEach k f s = s :=
  forEach_inv (fun t => t = s) k f s rfl (fun i t same => by rw [same, stays])

/-- Where every other round leaves the states that satisfy `P`, the loop is its one round. -/
theorem forEach_only (P : State → Prop) {f : Nat → State → State} {n k : Nat} {s : State} (start : P s) (ends : P (f n s))
    (others : ∀ i t, i ≠ n → P t → f i t = t) (inside : n < k) : forEach k f s = f n s := by
  obtain ⟨before, after⟩ := forEach_through (R := fun t u => P t → u = t) (fun _ _ => rfl)
    (fun {s t u} h k start => by have same := h start; rw [same] at k; exact k start)
    (fun i other t => others i t other) inside s
  rw [before start] at after
  exact after ends

/-! ### This station's entries (R74) -/

theorem ownEntry_eq_some {own tag : Nat} {dir : List DirEntry} (single : (dir.map DirEntry.tag).Nodup) {e : DirEntry} :
    ownEntry own tag dir = some e ↔ e ∈ dir ∧ e.tag = tag ∧ e.station = own := by
  rw [ownEntry, Option.filter_eq_some_iff, findTag_eq_some single, beq_iff_eq, and_assoc]

theorem ownEntry_isSome_iff {own tag : Nat} {dir : List DirEntry} (single : (dir.map DirEntry.tag).Nodup) :
    (ownEntry own tag dir).isSome = true ↔ ∃ e ∈ dir, e.tag = tag ∧ e.station = own := by
  rw [Option.isSome_iff_exists]
  exact exists_congr fun e => ownEntry_eq_some single

theorem losesRun_iff {own tag : Nat} {before after : List DirEntry} (single : (before.map DirEntry.tag).Nodup)
    (single' : (after.map DirEntry.tag).Nodup) : losesRun own tag before after = true ↔
      (∃ e ∈ before, e.tag = tag ∧ e.station = own) ∧ ∀ e ∈ after, e.tag = tag → e.station ≠ own := by
  rw [losesRun, Bool.and_eq_true, ownEntry_isSome_iff single, Option.isNone_iff_eq_none, ← Option.not_isSome_iff_eq_none,
    ownEntry_isSome_iff single']
  simp

/-- An item that leaves the own entries of the directory tells no source. -/
theorem losesRun_eq_false {own tag : Nat} {before after : List DirEntry} (single : (before.map DirEntry.tag).Nodup)
    (single' : (after.map DirEntry.tag).Nodup) (stay : ∀ e ∈ before, e.station = own → e ∈ after) :
    losesRun own tag before after = false := by
  rw [← Bool.not_eq_true, losesRun_iff single single']
  rintro ⟨⟨e, mem, carries, mine⟩, gone⟩
  exact gone e (stay e mem mine) carries mine

/-! ### DEFEATED and CLASHED at the source -/

section
variable {n x : Nat} {c : Source} {s : State}

/-- What being told DEFEATED leaves of a source of the station `own` (R124; log entry 30). -/
def defeatedFrom (own : Nat) (c : Source) : Source :=
  { c with
    state := .backoff, run := none, queue := [], queuedItem := .nothing, backoff := 1 + own % 4, refresh := 0, tally := 0,
    counters := { c.counters with defeats := bump c.counters.defeats } }

theorem tellDefeated_eq (here : s.sources[n]? = some c)
    (holds : c.state = .claiming ∨ c.state = .owned ∨ c.state = .releasing) : tellDefeated n x s =
      enterBackoff n (notify (.source n c.cfg.tag (.defeated (c.run.getD ⟨0, 0⟩) x))
        (countSource n (fun k => { k with defeats := bump k.defeats }) s)) := by
  have counted : (countSource n (fun k => { k with defeats := bump k.defeats }) s).sources[n]? = some
      { c with counters := { c.counters with defeats := bump c.counters.defeats } } := modify_getElem?_self _ here
  have told := notifySource_eq counted (.defeated (c.run.getD ⟨0, 0⟩) x)
  unfold tellDefeated
  rw [here]
  refine (if_pos holds).trans ?_
  rw [told]

theorem tellDefeated_sources (here : s.sources[n]? = some c)
    (holds : c.state = .claiming ∨ c.state = .owned ∨ c.state = .releasing) :
    (tellDefeated n x s).sources = s.sources.set n (defeatedFrom s.id c) := by
  have own : backoffCount (notify (.source n c.cfg.tag (.defeated (c.run.getD ⟨0, 0⟩) x))
      (countSource n (fun k => { k with defeats := bump k.defeats }) s)) = 1 + s.id % 4 := rfl
  rw [tellDefeated_eq here holds, enterBackoff, own]
  have sources : (markStale n ((notify (.source n c.cfg.tag (.defeated (c.run.getD ⟨0, 0⟩) x))
      (countSource n (fun k => { k with defeats := bump k.defeats }) s)).modSource n
        (Source.leaveFor .backoff (1 + s.id % 4)))).sources =
      (s.sources.modify n (fun c => { c with counters := { c.counters with defeats := bump c.counters.defeats } })).modify n
        (Source.leaveFor .backoff (1 + s.id % 4)) := rfl
  rw [sources, List.modify_modify_eq, modify_of_getElem? _ here]
  rfl

theorem tellDefeated_notices (here : s.sources[n]? = some c)
    (holds : c.state = .claiming ∨ c.state = .owned ∨ c.state = .releasing) (room : s.mgmt.notices.length < 16) :
    (tellDefeated n x s).mgmt.notices =
      s.mgmt.notices ++ [.source n c.cfg.tag (.defeated (c.run.getD ⟨0, 0⟩) x)] := by
  rw [tellDefeated_eq here holds, (enterBackoff_frame n _).2.2.2.2.2.2.2.2.2.2.2, notify_notices]
  exact if_pos room

theorem tellClashed_eq (here : s.sources[n]? = some c)
    (holds : c.state = .seeking ∨ c.state = .claiming ∨ c.state = .owned ∨ c.state = .releasing) : tellClashed n x s =
      markStale n ((notify (.source n c.cfg.tag (.clashed c.run x))
        (countAlloc (fun k => { k with localClashes := bump k.localClashes }) s)).modSource n (Source.leaveFor .clashed 0)) := by
  have told := notifySource_eq
    (s := countAlloc (fun k => { k with localClashes := bump k.localClashes }) s) here (.clashed c.run x)
  unfold tellClashed
  rw [here]
  refine (if_pos holds).trans ?_
  rw [told]

theorem tellClashed_sources (here : s.sources[n]? = some c)
    (holds : c.state = .seeking ∨ c.state = .claiming ∨ c.state = .owned ∨ c.state = .releasing) :
    (tellClashed n x s).sources = s.sources.set n (ClashedFrom c) := by
  rw [tellClashed_eq here holds, (markStale_frame n _).2.2.2.2.2.2.2.2.1]
  exact modify_of_getElem? _ here

theorem tellClashed_alloc (here : s.sources[n]? = some c)
    (holds : c.state = .seeking ∨ c.state = .claiming ∨ c.state = .owned ∨ c.state = .releasing) :
    (tellClashed n x s).alloc = (countAlloc (fun k => { k with localClashes := bump k.localClashes }) s).alloc := by
  rw [tellClashed_eq here holds, (markStale_frame n _).2.2.2.2.2.2.2.1]
  rfl

theorem tellClashed_notices (here : s.sources[n]? = some c)
    (holds : c.state = .seeking ∨ c.state = .claiming ∨ c.state = .owned ∨ c.state = .releasing)
    (room : s.mgmt.notices.length < 16) :
    (tellClashed n x s).mgmt.notices = s.mgmt.notices ++ [.source n c.cfg.tag (.clashed c.run x)] := by
  have mgmt : (tellClashed n x s).mgmt = (notify (.source n c.cfg.tag (.clashed c.run x))
      (countAlloc (fun k => { k with localClashes := bump k.localClashes }) s)).mgmt := by
    rw [tellClashed_eq here holds]
    rfl
  rw [mgmt, notify_notices]
  exact if_pos room

/-- A CLASHED source raises FAULT (R187). -/
theorem tellClashed_faultHigh (here : s.sources[n]? = some c)
    (holds : c.state = .seeking ∨ c.state = .claiming ∨ c.state = .owned ∨ c.state = .releasing) :
    (tellClashed n x s).faultHigh = true := by
  refine (faultHigh_iff _).mpr (.inr (.inr (.inl ⟨ClashedFrom c, ?_, rfl⟩)))
  rw [tellClashed_sources here holds]
  exact List.mem_of_getElem? (set_getElem?_self here)

end

/-! ### Losses told (R134) -/

section
variable {x tag : Nat} {before : List DirEntry} {s u : State}

/-- One source told, if an item has removed its run. -/
def lossTold (x tag : Nat) (before : List DirEntry) (n : Nat) (t : State) : State :=
  match t.sources[n]? with
  | some c =>
    if losesRun t.id c.cfg.tag before t.alloc.dir then
      (if c.cfg.tag = tag then tellClashed n x t else tellDefeated n x t)
    else t
  | none => t

theorem tellLosses_eq : tellLosses x tag before s = forEach s.sources.length (lossTold x tag before) s := rfl

theorem lossTold_none {n : Nat} (here : s.sources[n]? = none) : lossTold x tag before n s = s := by
  rw [lossTold, here]

theorem lossTold_keeps {n : Nat} {c : Source} (here : s.sources[n]? = some c)
    (keeps : losesRun s.id c.cfg.tag before s.alloc.dir = false) : lossTold x tag before n s = s := by
  rw [lossTold, here]
  exact if_neg (by simp [keeps])

theorem lossTold_defeats {n : Nat} {c : Source} (here : s.sources[n]? = some c)
    (loses : losesRun s.id c.cfg.tag before s.alloc.dir = true) (other : c.cfg.tag ≠ tag) :
    lossTold x tag before n s = tellDefeated n x s := by
  rw [lossTold, here]
  exact (if_pos loses).trans (if_neg other)

theorem lossTold_clashes {n : Nat} {c : Source} (here : s.sources[n]? = some c)
    (loses : losesRun s.id c.cfg.tag before s.alloc.dir = true) (same : c.cfg.tag = tag) :
    lossTold x tag before n s = tellClashed n x s := by
  rw [lossTold, here]
  exact (if_pos loses).trans (if_pos same)

/-- With every own run kept no source is told. -/
theorem tellLosses_none (keep : ∀ t, losesRun s.id t before s.alloc.dir = false) : tellLosses x tag before s = s := by
  refine forEach_none (fun n => ?_) _
  show lossTold x tag before n s = s
  cases here : s.sources[n]? with
  | none => exact lossTold_none here
  | some c => exact lossTold_keeps here (keep c.cfg.tag)

theorem tellLosses_same (single : DirOk s) (same : s.alloc.dir = before) : tellLosses x tag before s = s := by
  subst same
  exact tellLosses_none fun t => losesRun_eq_false single single (fun _ mem _ => mem)

/-- The one source whose run under the item's own tag is gone is told CLASHED. -/
theorem tellLosses_clashes {n : Nat} {c : Source} (here : s.sources[n]? = some c) (same : c.cfg.tag = tag)
    (loses : losesRun s.id c.cfg.tag before s.alloc.dir = true)
    (holds : c.state = .seeking ∨ c.state = .claiming ∨ c.state = .owned ∨ c.state = .releasing)
    (others : ∀ (m : Nat) (d : Source), m ≠ n → s.sources[m]? = some d →
      losesRun s.id d.cfg.tag before s.alloc.dir = false) : tellLosses x tag before s = tellClashed n x s := by
  have first := lossTold_clashes (x := x) here loses same
  rw [tellLosses_eq, ← first]
  refine forEach_only (fun t => t.id = s.id ∧ t.alloc.dir = s.alloc.dir ∧ ∀ m, m ≠ n → t.sources[m]? = s.sources[m]?)
    ⟨rfl, rfl, fun _ _ => rfl⟩ ?_ (fun m t other ⟨own, dir, rest⟩ => ?_) (List.getElem?_eq_some_iff.mp here).1
  · rw [first]
    refine ⟨?_, ?_, fun m other => ?_⟩
    · rw [State.id, State.id, (tellClashed_frame n x s).2.2.1]
    · rw [tellClashed_alloc here holds]
      rfl
    · rw [tellClashed_sources here holds, List.getElem?_set_ne (Ne.symm other)]
  · cases there : t.sources[m]? with
    | none => exact lossTold_none there
    | some d =>
      refine lossTold_keeps there ?_
      rw [own, dir]
      exact others m d other ((rest m other).symm.trans there)

/-- The entries an item has removed, as the sources see it: a source's run is lost exactly if it is among them. -/
theorem losesRun_eq_any {own t : Nat} {before after gone : List DirEntry} (single : (before.map DirEntry.tag).Nodup)
    (single' : (after.map DirEntry.tag).Nodup) (sub : ∀ e ∈ gone, e ∈ before)
    (left : ∀ e, e.station = own → (e ∈ after ↔ e ∈ before ∧ e ∉ gone)) :
    losesRun own t before after = gone.any (fun e => e.station == own && e.tag == t) := by
  rw [Bool.eq_iff_iff, losesRun_iff single single', List.any_eq_true]
  simp only [Bool.and_eq_true, beq_iff_eq]
  constructor
  · rintro ⟨⟨e, mem, carries, mine⟩, none⟩
    refine ⟨e, ?_, mine, carries⟩
    by_contra stays
    exact none e ((left e mine).mpr ⟨mem, stays⟩) carries mine
  · rintro ⟨e, goes, mine, carries⟩
    refine ⟨⟨e, sub e goes, carries, mine⟩, fun d there carries' mine' => ?_⟩
    obtain ⟨mem, stays⟩ := (left d mine').mp there
    rw [entry_unique single mem (sub e goes) (carries'.trans carries.symm)] at stays
    exact stays goes

/-- The notice of a source whose run an item of `x` has removed. -/
def defeatNotice (x : Nat) (lost : Source → Bool) (s : State) (n : Nat) : Option Notice :=
  match s.sources[n]? with
  | some c => if lost c then some (.source n c.cfg.tag (.defeated (c.run.getD ⟨0, 0⟩) x)) else none
  | none => none

/-- The sources whose runs are lost under other tags than the item's are DEFEATED, with their notices in order. -/
theorem tellLosses_defeated (lost : Source → Bool)
    (loses : ∀ c ∈ s.sources, losesRun s.id c.cfg.tag before s.alloc.dir = lost c)
    (foreign : ∀ c ∈ s.sources, lost c = true → c.cfg.tag ≠ tag)
    (hold : ∀ c ∈ s.sources, lost c = true → c.state = .claiming ∨ c.state = .owned ∨ c.state = .releasing) :
    (tellLosses x tag before s).sources = s.sources.map (fun c => if lost c then defeatedFrom s.id c else c) ∧
    (s.mgmt.notices = [] → s.sources.length ≤ 8 → (tellLosses x tag before s).mgmt.notices =
      (List.range s.sources.length).filterMap (defeatNotice x lost s)) := by
  have loop := forEach_ind (fun k t => t.id = s.id ∧ t.alloc.dir = s.alloc.dir ∧
    (∀ m, t.sources[m]? = if m < k then (s.sources[m]?).map (fun c => if lost c then defeatedFrom s.id c else c)
      else s.sources[m]?) ∧
    (s.mgmt.notices = [] → k ≤ 8 → t.mgmt.notices = (List.range k).filterMap (defeatNotice x lost s)))
    (f := lossTold x tag before) (s := s) ⟨rfl, rfl, fun m => by simp, fun empty _ => empty⟩ ?round s.sources.length
  case round =>
    intro k t ⟨own, dir, sources, notices⟩
    have here : t.sources[k]? = s.sources[k]? := by rw [sources k, if_neg (Nat.lt_irrefl k)]
    have step (m : Nat) : (m < k + 1 ∧ m ≠ k) ∨ m = k ∨ (k < m) := by omega
    cases at' : s.sources[k]? with
    | none =>
      rw [lossTold_none (here.trans at')]
      refine ⟨own, dir, fun m => ?_, fun empty low => ?_⟩
      · rw [sources m]
        by_cases same : m = k
        · subst same; simp [at']
        · simp only [show m < k + 1 ↔ m < k by omega]
      · rw [List.range_succ, List.filterMap_append, notices empty (by omega)]
        simp [defeatNotice, at']
    | some c =>
      have mem := List.mem_of_getElem? at'
      have isLost : losesRun t.id c.cfg.tag before t.alloc.dir = lost c := by rw [own, dir]; exact loses c mem
      cases which : lost c with
      | false =>
        rw [lossTold_keeps (here.trans at') (isLost.trans which)]
        refine ⟨own, dir, fun m => ?_, fun empty low => ?_⟩
        · rw [sources m]
          by_cases same : m = k
          · subst same; simp [at', which]
          · simp only [show m < k + 1 ↔ m < k by omega]
        · rw [List.range_succ, List.filterMap_append, notices empty (by omega)]
          simp [defeatNotice, at', which]
      | true =>
        rw [lossTold_defeats (here.trans at') (isLost.trans which) (foreign c mem which)]
        refine ⟨?_, ?_, fun m => ?_, fun empty low => ?_⟩
        · rw [← own, State.id, State.id, (tellDefeated_frame k x t).2.2.1]
        · rw [(tellDefeated_frame k x t).2.2.2.2.2.2.2.1, dir]
        · rw [tellDefeated_sources (here.trans at') (hold c mem which), own]
          by_cases same : m = k
          · subst same
            rw [set_getElem?_self (here.trans at'), if_pos (Nat.lt_succ_self m), at']
            simp [which]
          · rw [List.getElem?_set_ne (Ne.symm same), sources m]
            simp only [show m < k + 1 ↔ m < k by omega]
        · have short : t.mgmt.notices.length ≤ k := by
            rw [notices empty (by omega)]
            exact (List.length_filterMap_le _ _).trans (List.length_range ..).le
          rw [tellDefeated_notices (here.trans at') (hold c mem which) (by omega), List.range_succ, List.filterMap_append,
            notices empty (by omega)]
          simp [defeatNotice, at', which]
  obtain ⟨-, -, sources, notices⟩ := loop
  refine ⟨List.ext_getElem? fun m => ?_, fun empty few => notices empty few⟩
  show (forEach s.sources.length (lossTold x tag before) s).sources[m]? = _
  rw [sources m, List.getElem?_map]
  split
  · rfl
  · rw [List.getElem?_eq_none_iff.mpr (by omega)]
    rfl

/-- The losses told after an item that has removed the runs `gone`, none of its own tag. -/
theorem tellLosses_defeatsOwners {gone : List DirEntry} (single : DirOk s) (single' : DirOk u)
    (sub : ∀ e ∈ gone, e ∈ s.alloc.dir) (left : ∀ e, e.station = s.id → (e ∈ u.alloc.dir ↔ e ∈ s.alloc.dir ∧ e ∉ gone))
    (foreign : ∀ e ∈ gone, e.tag ≠ tag) (sources : u.sources = s.sources) (mgmt : u.mgmt = s.mgmt)
    (loader : u.loader = s.loader) : DefeatsOwners x gone s (tellLosses x tag s.alloc.dir u) := by
  intro _ hold defeated
  have own : u.id = s.id := by rw [State.id, State.id, loader]
  have among {c : Source} (lost : defeated c = true) : ∃ e ∈ gone, e.station = s.id ∧ e.tag = c.cfg.tag := by
    simpa only [defeated, List.any_eq_true, Bool.and_eq_true, beq_iff_eq] using lost
  have told := tellLosses_defeated (x := x) (tag := tag) (before := s.alloc.dir) (s := u) defeated
    (fun c _ => by rw [own]; exact losesRun_eq_any single single' sub left)
    (fun c _ lost same => by
      obtain ⟨e, mem, -, carries⟩ := among lost
      exact foreign e mem (carries.trans same))
    (fun c there lost => by
      rw [sources] at there
      obtain ⟨n, here⟩ := List.mem_iff_getElem?.mp there
      obtain ⟨e, mem, mine, carries⟩ := among lost
      exact hold n c e here mem mine carries)
  obtain ⟨after, notices⟩ := told
  rw [own, sources] at after
  refine ⟨fun n c here => ⟨fun keeps => ?_, fun lost => ?_⟩, fun empty few => ?_⟩
  · rw [after, List.getElem?_map, here]
    simp [keeps]
  · rw [after, List.getElem?_map, here]
    simp [lost, defeatedFrom]
  · rw [notices (by rw [mgmt]; exact empty) (by rw [sources]; exact few), sources]
    refine List.filterMap_congr fun n _ => ?_
    have same : defeatNotice x defeated u n = defeatNotice x defeated s n := by rw [defeatNotice, defeatNotice, sources]
    exact same.trans rfl

end

/-! ### Objections (R80, R84, R87) -/

section
variable {n first count : Nat} {c : Source} {s u : State}

theorem object_other (other : s.sourceIs n .owned = false) : object n s = s := if_neg (by simp [other])

theorem object_refused (refuses : queueAccepts s.sync.state (.offer n true) = false) : object n s = s := by
  unfold object
  split
  · rw [if_neg (by simp [refuses]), post, if_neg (by simp [refuses])]
    rfl
  · rfl

theorem object_posts (owned : s.sourceIs n .owned = true) (accepts : queueAccepts s.sync.state (.offer n true) = true) :
    object n s = post (.offer n true) (countAlloc (fun k => { k with objectionsPosted := bump k.objectionsPosted }) s) := by
  unfold object
  rw [if_pos owned, if_pos accepts]

/-- A state the objection is raised in, as the sources, the queue and the notices stand. -/
structure SameOwners (s u : State) : Prop where
  sources : u.sources = s.sources
  tx : u.tx = s.tx
  mgmt : u.mgmt = s.mgmt
  sync : u.sync = s.sync
  loader : u.loader = s.loader
  posted : u.alloc.counters.objectionsPosted = s.alloc.counters.objectionsPosted

theorem post_alloc (it : QItem) (s : State) : (post it s).alloc = s.alloc := (post_frame it s).2.2.2.2.2.2.2.1

/-- A source's objection, in a state that differs from `s` in the tables and the other counters alone. -/
theorem object_objects (same : SameOwners s u) (here : s.sources[n]? = some c) : Objects n c s (object n u) := by
  have is : u.sourceIs n .owned = (c.state == .owned) := sourceIs_of (by rw [same.sources]; exact here) .owned
  refine ⟨fun owned state => ?_, fun silent => ?_⟩
  · have accepts : queueAccepts u.sync.state (.offer n true) = true := by
      rw [same.sync]
      rcases state with state | state <;> rw [state] <;> rfl
    rw [object_posts (by rw [is, owned]; rfl) accepts]
    refine ⟨?_, fun front back old queue only => ?_, fun none room => ?_⟩
    · rw [post_alloc]
      exact congrArg bump same.posted
    · have any : u.tx.queue.any (isOfferOf n) = true := by
        rw [same.tx, queue, List.any_append, List.any_cons]
        simp [isOfferOf]
      have posted : post (.offer n true) (countAlloc (fun k => { k with objectionsPosted := bump k.objectionsPosted }) u) =
          modQueue (replaceOffer n true) (countAlloc (fun k => { k with objectionsPosted := bump k.objectionsPosted }) u) := (if_pos accepts).trans (if_pos any)
      rw [posted]
      refine ⟨?_, same.sources, same.mgmt⟩
      show { u.tx with queue := replaceOffer n true u.tx.queue } = _
      rw [same.tx, queue, replaceOffer_eq only, Bool.or_true]
    · have free : ∀ p, .offer n p ∉ u.tx.queue := by rw [same.tx]; exact none
      have posted := post_enqueues (it := .offer n true)
        (s := countAlloc (fun k => { k with objectionsPosted := bump k.objectionsPosted }) u)
        (by show u.sync.state = .founding ∨ u.sync.state = .locked; rw [same.sync]; exact state)
        (fun m p is' => by cases is'; exact free)
      rw [posted, enqueue, if_pos (by show u.tx.queue.length < 16; rw [same.tx]; exact room)]
      refine ⟨?_, same.sources, same.mgmt⟩
      show { u.tx with queue := u.tx.queue ++ [QItem.offer n true] } = _
      rw [same.tx]
  · have stays : object n u = u := by
      rcases silent with other | state | state
      · exact object_other (by rw [is]; simpa using other)
      · exact object_refused (by rw [same.sync, state]; rfl)
      · exact object_refused (by rw [same.sync, state]; rfl)
    rw [stays]
    exact ⟨same.posted, same.tx, same.sources, same.mgmt⟩

theorem object_requeues (n : Nat) (s : State) : OnlyRequeues s (object n s) := by
  unfold object
  split
  · split
    · exact post_requeues _ (countAlloc (fun k => { k with objectionsPosted := bump k.objectionsPosted }) s)
    · exact post_requeues _ s
  · exact .refl s

/-- The own entry of a source that objects for a run. -/
def objector (first count n : Nat) (t : State) : Bool :=
  match (t.sources[n]?).bind (fun c => ownEntry t.id c.cfg.tag t.alloc.dir) with
  | some e => e.active && e.meets first count
  | none => false

theorem objectRuns_eq : objectRuns first count s =
    forEach s.sources.length (fun n t => if objector first count n t then object n t else t) s := by
  refine congrArg (fun f => forEach s.sources.length f s) (funext fun n => funext fun t => ?_)
  unfold objector
  cases (t.sources[n]?).bind (fun c => ownEntry t.id c.cfg.tag t.alloc.dir) <;> rfl

theorem objectRuns_none (none : ∀ n, objector first count n s = false) : objectRuns first count s = s := by
  rw [objectRuns_eq]
  refine forEach_none (f := fun n t => if objector first count n t then object n t else t) (fun n => ?_) _
  exact if_neg (by simp [none n])

/-- Who objects depends on the identity, the tags of the sources and the directory. -/
theorem objector_of_requeued {t : State} {m : Nat} (requeued : OnlyRequeues s t) (own : t.id = s.id)
    (dir : t.alloc.dir = s.alloc.dir) : objector first count m t = objector first count m s := by
  have tags : (t.sources[m]?).map (fun c => c.cfg.tag) = (s.sources[m]?).map (fun c => c.cfg.tag) := by
    have same := congrArg (Option.map (fun c : Source => c.cfg.tag)) (requeued m)
    simpa [sourceAt, Option.map_map, Function.comp_def, unqueued] using same
  have bound {v : State} : (v.sources[m]?).bind (fun c => ownEntry v.id c.cfg.tag v.alloc.dir) =
      ((v.sources[m]?).map (fun c => c.cfg.tag)).bind (fun g => ownEntry v.id g v.alloc.dir) := by
    cases v.sources[m]? <;> rfl
  unfold objector
  rw [bound, bound, tags, own, dir]

/-- The one source with a run in the way objects. -/
theorem objectRuns_only (inside : n < s.sources.length) (objects : objector first count n s = true)
    (others : ∀ m, m ≠ n → objector first count m s = false) : objectRuns first count s = object n s := by
  have first' : (if objector first count n s then object n s else s) = object n s := if_pos objects
  rw [objectRuns_eq, ← first']
  refine forEach_only (f := fun n t => if objector first count n t then object n t else t)
    (fun t => OnlyRequeues s t ∧ t.id = s.id ∧ t.alloc.dir = s.alloc.dir) ⟨.refl s, rfl, rfl⟩
    ?_ (fun m t other ⟨requeued, own, dir⟩ => ?_) inside
  · rw [first']
    exact ⟨object_requeues n s, by rw [State.id, State.id, (object_frame n s).2.2.1], (object_tables n s).1⟩
  · exact if_neg (by simp [objector_of_requeued requeued own dir, others m other])

end

end Sys2Proof.Proofs
end

section
/-! Heard CLAIMs: the tag rule, the bars, the precedence (R78 to R82). -/

namespace Sys2Proof.Proofs
open Sys2Proof.Machine

/-! ### Runs and slots -/

/-- Two runs that meet share a slot (R79, R81, R84). -/
theorem exists_of_meets {e : DirEntry} {first count : Nat} (meets : e.meets first count = true) (some : 0 < e.count)
    (some' : 0 < count) : ∃ k, inRun e.first e.count k = true ∧ inRun first count k = true := by
  simp only [DirEntry.meets, runsOverlap, Bool.and_eq_true, decide_eq_true_eq] at meets
  exact ⟨max e.first first, inRun_iff.mpr (by omega), inRun_iff.mpr (by omega)⟩

theorem meets_eq_false {e : DirEntry} {first count k : Nat} (apart : e.meets first count = false)
    (inside : inRun e.first e.count k = true) : k ∉ runSlots first count := fun there =>
  Bool.false_ne_true (apart.symm.trans (meets_of_inRun inside (mem_runSlots_iff_inRun.mp there)))

/-- The slots of a run just installed, and the others. -/
theorem installRun_use {use : SlotUse} {e : DirEntry} {s : State} (length : s.alloc.slots.length = 56)
    (bounds : 8 ≤ e.first ∧ e.first + e.count ≤ 64) {k : Nat} (inside : k ∈ runSlots e.first e.count) :
    ((installRun use e s).slot k).use = use := by
  have range := mem_runSlots.mp inside
  rw [installRun_slot use e s k (by omega) (by omega), if_pos (mem_runSlots_iff_inRun.mp inside)]

theorem installRun_outside {use : SlotUse} {e : DirEntry} {s : State} (length : s.alloc.slots.length = 56) {k : Nat}
    (low : 8 ≤ k) (high : k < 64) (outside : k ∉ runSlots e.first e.count) : (installRun use e s).slot k = s.slot k := by
  rw [installRun_slot use e s k low (by omega), if_neg (fun inside => outside (mem_runSlots_iff_inRun.mpr inside))]

theorem installRun_dirOk {use : SlotUse} {e : DirEntry} {s : State} (single : DirOk s) : DirOk (installRun use e s) :=
  tags_withEntry_nodup e single

theorem Removed.dirOk {p : DirEntry → Bool} {use : SlotUse} {s t : State} (removed : Removed p use s t) (single : DirOk s) :
    DirOk t := by
  show (t.alloc.dir.map DirEntry.tag).Nodup
  rw [removed.dir]
  exact single.sublist (List.Sublist.map _ List.filter_sublist)

theorem removeWhere_none {p : DirEntry → Bool} {s : State} (none : ∀ e ∈ s.alloc.dir, p e = false) : removeWhere p s = s := by
  have empty : s.alloc.dir.filter p = [] := List.filter_eq_nil_iff.mpr fun e mem => by simp [none e mem]
  rw [removeWhere, empty]
  rfl

/-! ### Counters -/

theorem countedRemovals_counters (g : AllocCounters → AllocCounters) (l : List DirEntry) (s : State) :
    (l.foldl (fun t e => removeRun .free e (countAlloc g t)) s).alloc.counters = g^[l.length] s.alloc.counters := by
  induction l generalizing s with
  | nil => rfl
  | cons e rest ih => exact ih (removeRun .free e (countAlloc g s))

theorem iterate_bump {g : AllocCounters → AllocCounters} {f : AllocCounters → Nat} (counts : ∀ k, f (g k) = bump (f k))
    {n : Nat} {k : AllocCounters} (fits : f k + n ≤ 65535) : f (g^[n] k) = f k + n := by
  induction n generalizing k with
  | zero => rfl
  | succ n ih =>
    have bumped : f (g k) = f k + 1 := by rw [counts, bump]; omega
    rw [Function.iterate_succ_apply, ih (by omega), bumped]
    omega

theorem iterate_keeps {β : Type} {g : AllocCounters → AllocCounters} {f : AllocCounters → β} (keeps : ∀ k, f (g k) = f k)
    (n : Nat) (k : AllocCounters) : f (g^[n] k) = f k := by
  induction n generalizing k with
  | zero => rfl
  | succ n ih => rw [Function.iterate_succ_apply, ih, keeps]

/-- Telling the losses counts no more than local clashes. -/
theorem tellLosses_counters {β : Type} {f : AllocCounters → β}
    (keeps : ∀ k, f { k with localClashes := bump k.localClashes } = f k) (x tag : Nat) (before : List DirEntry) (s : State) :
    f (tellLosses x tag before s).alloc.counters = f s.alloc.counters := by
  refine forEach_inv (fun t => f t.alloc.counters = f s.alloc.counters) _ _ _ rfl (fun n t same => ?_)
  cases here : t.sources[n]? with
  | none => exact same
  | some c =>
    dsimp only
    split
    · split
      · refine Eq.trans ?_ same
        by_cases holds : c.state = .seeking ∨ c.state = .claiming ∨ c.state = .owned ∨ c.state = .releasing
        · rw [tellClashed_alloc here holds]
          exact keeps t.alloc.counters
        · have silent : tellClashed n x t = t := by
            unfold tellClashed
            rw [here]
            exact if_neg holds
          rw [silent]
      · rw [(tellDefeated_frame n x t).2.2.2.2.2.2.2.1]
        exact same
    · exact same

theorem object_counters {β : Type} {f : AllocCounters → β}
    (keeps : ∀ k, f { k with objectionsPosted := bump k.objectionsPosted } = f k) (n : Nat) (s : State) :
    f (object n s).alloc.counters = f s.alloc.counters := by
  unfold object
  split
  · rw [post_alloc]
    split
    · exact keeps s.alloc.counters
    · rfl
  · rfl

theorem objectRuns_counters {β : Type} {f : AllocCounters → β}
    (keeps : ∀ k, f { k with objectionsPosted := bump k.objectionsPosted } = f k) (first count : Nat) (s : State) :
    f (objectRuns first count s).alloc.counters = f s.alloc.counters := by
  rw [objectRuns_eq]
  refine forEach_inv (fun t => f t.alloc.counters = f s.alloc.counters) _ _ _ rfl (fun n t same => ?_)
  split
  · exact (object_counters keeps n t).trans same
  · exact same

/-! ### Who objects -/

theorem objector_iff {first count n : Nat} {s : State} (single : DirOk s) : objector first count n s = true ↔
    ∃ c e, s.sources[n]? = some c ∧ e ∈ s.alloc.dir ∧ e.tag = c.cfg.tag ∧ e.station = s.id ∧ e.active = true ∧
      e.meets first count = true := by
  unfold objector
  constructor
  · intro objects
    cases found : (s.sources[n]?).bind (fun c => ownEntry s.id c.cfg.tag s.alloc.dir) with
    | none => simp [found] at objects
    | some e =>
      rw [found] at objects
      obtain ⟨active, meets⟩ := Bool.and_eq_true_iff.mp objects
      obtain ⟨c, here, own⟩ := Option.bind_eq_some_iff.mp found
      obtain ⟨mem, carries, mine⟩ := (ownEntry_eq_some single).mp own
      exact ⟨c, e, here, mem, carries, mine, active, meets⟩
  · rintro ⟨c, e, here, mem, carries, mine, active, meets⟩
    rw [here, Option.bind_some, (ownEntry_eq_some single).mpr ⟨mem, carries, mine⟩]
    exact Bool.and_eq_true_iff.mpr ⟨active, meets⟩

theorem source_unique {l : List Source} (single : (l.map (fun c => c.cfg.tag)).Nodup) {m n : Nat} {c d : Source}
    (here : l[n]? = some c) (there : l[m]? = some d) (same : d.cfg.tag = c.cfg.tag) : m = n := by
  obtain ⟨inN, atN⟩ := List.getElem?_eq_some_iff.mp here
  obtain ⟨inM, atM⟩ := List.getElem?_eq_some_iff.mp there
  refine (single.getElem_inj_iff (i := m) (j := n) (hi := by simpa using inM) (hj := by simpa using inN)).mp ?_
  simp [atN, atM, same]

/-- The objection of the one source whose own run is in the way. -/
theorem objectRuns_owner {first count n : Nat} {c : Source} {e : DirEntry} {s : State} (single : DirOk s) (ok : SourcesOk s)
    (here : s.sources[n]? = some c) (mem : e ∈ s.alloc.dir) (mine : e.station = s.id) (active : e.active = true)
    (carries : e.tag = c.cfg.tag) (meets : e.meets first count = true)
    (only : ∀ d ∈ s.alloc.dir, d.station = s.id → d.active = true → d.meets first count = true → d = e) :
    objectRuns first count s = object n s := by
  refine objectRuns_only (List.getElem?_eq_some_iff.mp here).1
    ((objector_iff single).mpr ⟨c, e, here, mem, carries, mine, active, meets⟩) (fun m other => ?_)
  rw [← Bool.not_eq_true, objector_iff single]
  rintro ⟨c', d, there, memD, carriesD, mineD, activeD, meetsD⟩
  rw [only d memD mineD activeD meetsD, carries] at carriesD
  exact other (source_unique ok.2 here there carriesD.symm)

theorem objectRuns_absent {first count : Nat} {s : State} (single : DirOk s)
    (none : ∀ d ∈ s.alloc.dir, d.station = s.id → d.active = true → d.meets first count = false) :
    objectRuns first count s = s := by
  refine objectRuns_none fun n => ?_
  rw [← Bool.not_eq_true, objector_iff single]
  rintro ⟨c, d, -, mem, -, mine, active, meets⟩
  exact Bool.false_ne_true ((none d mem mine active).symm.trans meets)

/-! ### The steps of a heard CLAIM (R78 to R82) -/

section
variable {x tag first count priority : Nat} {s s2 : State}

theorem tagRule_free (free : ∀ e ∈ s.alloc.dir, e.tag ≠ tag) : tagRule x tag s = (true, s) := by
  rw [tagRule, findTag_eq_none.mpr free]

theorem heardClaim_goesOn {u : State} (goes : tagRule x tag s = (true, u)) : heardClaim x tag first count priority s =
    tellLosses x tag s.alloc.dir (claimSteps x tag first count priority u) := by
  rw [heardClaim, goes]

/-- The sender's entries that a CLAIM removes first (R79). -/
def replacedBy (x tag first count : Nat) (e : DirEntry) : Bool := e.station == x && (e.tag == tag || e.meets first count)

theorem claimSteps_barred (cleared : removeWhere (replacedBy x tag first count) s = s2)
    (bars : (runSlots first count).any (fun k => barsClaim x k s2) = true) :
    claimSteps x tag first count priority s = objectRuns first count (ignoreClaim s2) := by
  subst cleared
  exact if_pos bars

theorem claimSteps_yields (cleared : removeWhere (replacedBy x tag first count) s = s2)
    (bars : (runSlots first count).any (fun k => barsClaim x k s2) = false)
    (yields : (overlappedClaims x first count s2).all (precedes priority x) = false) :
    claimSteps x tag first count priority s = ignoreClaim s2 := by
  subst cleared
  exact (if_neg (Bool.eq_false_iff.mp bars)).trans (if_neg (Bool.eq_false_iff.mp yields))

theorem claimSteps_installs (cleared : removeWhere (replacedBy x tag first count) s = s2)
    (bars : (runSlots first count).any (fun k => barsClaim x k s2) = false)
    (precede : (overlappedClaims x first count s2).all (precedes priority x) = true) :
    claimSteps x tag first count priority s =
      installClaim s2.sync.superframe x tag first count priority (overrideClaims x first count s2) := by
  subst cleared
  exact (if_neg (Bool.eq_false_iff.mp bars)).trans (if_pos precede)

theorem precedes_iff {e : DirEntry} :
    precedes priority x e = true ↔ e.priority < priority ∨ (e.priority = priority ∧ x < e.station) := by
  simp [precedes]

/-- A slot that bars a claim: STRAY, OWNED, or HELD by another (R80). -/
theorem barsClaim_iff {k : Nat} : barsClaim x k s = true ↔ (s.slot k).use = .stray ∨
    (∃ h g p l, (s.slot k).use = .held h g p l ∧ h ≠ x) ∨ ∃ h g p, (s.slot k).use = .owned h g p := by
  unfold barsClaim
  cases (s.slot k).use <;> simp

/-- An ACTIVE run of another bars a claim over a slot of it. -/
theorem bars_of_active (ok : MapOk s) {e : DirEntry} (mem : e ∈ s.alloc.dir) (active : e.active = true)
    (foreign : e.station ≠ x) (meets : e.meets first count = true) (some : 0 < count) :
    (runSlots first count).any (fun k => barsClaim x k s) = true := by
  obtain ⟨-, count', -⟩ := MapOk.bounds ok mem
  obtain ⟨k, inE, inNew⟩ := exists_of_meets meets count' some
  by_contra clear
  have pending := inactive_of_no_bar ok (Bool.not_eq_true _ ▸ clear) mem foreign inE inNew
  exact Bool.false_ne_true (pending.symm.trans active)

/-- With no slot barred, the runs in the way are the claims of others. -/
theorem pending_of_meets (ok : MapOk s) (clear : (runSlots first count).any (fun k => barsClaim x k s) = false)
    (foreign : ∀ e ∈ s.alloc.dir, e.station = x → e.meets first count = false) (some : 0 < count) {e : DirEntry}
    (mem : e ∈ s.alloc.dir) : (!e.active && e.station != x && e.meets first count) = e.meets first count := by
  cases meets : e.meets first count with
  | false => simp
  | true =>
    have other : e.station ≠ x := fun is => Bool.false_ne_true ((foreign e mem is).symm.trans meets)
    have pending : e.active = false := by
      by_contra active
      have bars := bars_of_active ok mem (by simpa using active) other meets some
      exact Bool.false_ne_true (clear.symm.trans bars)
    simp [pending, other]

/-- A claim installed over the claims it precedes (R81, R82). -/
theorem claimInstalled {u : State} (ok : MapOk s) (low : 8 ≤ first) (high : first + count ≤ 64)
    (inTheWay : ∀ e ∈ s.alloc.dir, (!e.active && e.station != x && e.meets first count) = e.meets first count)
    (is : u = installClaim s.sync.superframe x tag first count priority (overrideClaims x first count s)) :
    (∀ k ∈ runSlots first count, (u.slot k).use = .pending x tag priority (s.sync.superframe + 2)) ∧
    u.alloc.dir = withEntry ⟨tag, x, first, count, priority, false, x == s.id⟩
      (s.alloc.dir.filter (fun e => !e.meets first count)) ∧
    u.alloc.counters = (fun k : AllocCounters => { k with claimsOverridden := bump k.claimsOverridden })^[
      (s.alloc.dir.filter (fun e => e.meets first count)).length] s.alloc.counters ∧
    (∀ e ∈ s.alloc.dir, e.meets first count = true → ∀ k ∈ runSlots e.first e.count, k ∉ runSlots first count →
      (u.slot k).use = .free) ∧ DirOk u := by
  have removed := overrideClaims_removed x first count ok.1 ok.2.1
  have length : (overrideClaims x first count s).alloc.slots.length = 56 := removed.length.trans ok.2.1
  have dir : (overrideClaims x first count s).alloc.dir = s.alloc.dir.filter (fun e => !e.meets first count) := by
    rw [removed.dir]
    exact List.filter_congr fun e mem => by rw [inTheWay e mem]
  have own : (overrideClaims x first count s).id = s.id := by
    rw [State.id, State.id, (overrideClaims_frame x first count s).2.2.1]
  have met : overlappedClaims x first count s = s.alloc.dir.filter (fun e => e.meets first count) :=
    List.filter_congr inTheWay
  subst is
  refine ⟨fun k inside => ?_, ?_, ?_, fun e mem meets k inside outside => ?_, installRun_dirOk (removed.dirOk ok.1)⟩
  · exact installRun_use length ⟨low, high⟩ inside
  · rw [installClaim, installRun_alloc, dir, own]
  · rw [installClaim, installRun_alloc, overrideClaims, ← met]
    exact countedRemovals_counters _ _ s
  · have range := MapOk.slot_range ok mem (mem_runSlots_iff_inRun.mp inside)
    rw [installClaim, installRun_outside length range.1 range.2 outside]
    exact removed.gone ok mem (by rw [inTheWay e mem]; exact meets) inside

end

/-- Settles O51: with none of the sender's runs in the way the steps run on the map as it stands. -/
theorem heardClaimsFollowThePrecedence : Obligations.HeardClaimsFollowThePrecedence := by
  intro x tag first count priority s ok foreign low some high free away t met entry
  have cleared : removeWhere (replacedBy x tag first count) s = s := removeWhere_none fun e mem => by
    unfold replacedBy
    cases is : e.station == x with
    | false => rfl
    | true => simp [free e mem, away e mem (beq_iff_eq.mp is)]
  have heard : t = tellLosses x tag s.alloc.dir (claimSteps x tag first count priority s) :=
    heardClaim_goesOn (tagRule_free free)
  refine ⟨fun barred => ?barred, fun n c e sources here mem mine active carries only => ?objects, fun vacant => ?vacant⟩
  case barred =>
    have bars : (runSlots first count).any (fun k => barsClaim x k s) = true := by
      obtain ⟨k, inside, use⟩ := barred
      refine List.any_eq_true.mpr ⟨k, inside, barsClaim_iff.mpr ?_⟩
      rcases use with stray | ⟨h, g, p, l, held⟩ | owned
      · exact .inl stray
      · refine .inr (.inl ⟨h, g, p, l, held, ?_⟩)
        rintro rfl
        have range := mem_runSlots.mp inside
        obtain ⟨e, mem, inE, accounted⟩ := MapOk.holder ok (k := k) (by omega) (by omega) (by rw [held]; nofun)
        have station := accountedBy_holder accounted
        rw [held] at station
        have apart := away e mem (Option.some.inj station).symm
        exact meets_eq_false apart inE inside
      · exact .inr (.inr owned)
    have steps := claimSteps_barred (priority := priority) cleared bars
    have tables := objectRuns_tables first count (ignoreClaim s)
    have told : t = objectRuns first count (ignoreClaim s) := by
      rw [heard, steps]
      have single : DirOk (objectRuns first count (ignoreClaim s)) := by rw [DirOk, tables.1]; exact ok.1
      exact tellLosses_same single tables.1
    rw [told]
    exact ⟨tables.2, tables.1, objectRuns_counters (f := AllocCounters.claimsIgnored) (fun _ => rfl) first count _⟩
  case objects =>
    obtain ⟨there, meets⟩ := List.mem_filter.mp mem
    have bars := bars_of_active (x := x) ok there active (by rw [mine]; exact Ne.symm foreign) meets some
    have steps := claimSteps_barred (priority := priority) cleared bars
    have single : DirOk (ignoreClaim s) := ok.1
    have sources' : SourcesOk (ignoreClaim s) := sources
    have objected : objectRuns first count (ignoreClaim s) = object n (ignoreClaim s) :=
      objectRuns_owner single sources' here there mine active carries meets
        (fun d memD mineD activeD meetsD => only d (List.mem_filter.mpr ⟨memD, meetsD⟩) mineD activeD)
    have told : t = object n (ignoreClaim s) := by
      rw [heard, steps, objected]
      have single' : DirOk (object n (ignoreClaim s)) := by rw [DirOk, (object_tables n _).1]; exact ok.1
      exact tellLosses_same single' (object_tables n _).1
    rw [told]
    exact object_objects ⟨rfl, rfl, rfl, rfl, rfl, rfl⟩ here
  case vacant =>
    have clear : (runSlots first count).any (fun k => barsClaim x k s) = false := by
      rw [List.any_eq_false]
      intro k inside bars
      rcases barsClaim_iff.mp bars with stray | ⟨h, g, p, l, held, -⟩ | ⟨h, g, p, owned⟩
      · rcases vacant k inside with is | ⟨_, _, _, _, is⟩ <;> simp [is] at stray
      · rcases vacant k inside with is | ⟨_, _, _, _, is⟩ <;> simp [is] at held
      · rcases vacant k inside with is | ⟨_, _, _, _, is⟩ <;> simp [is] at owned
    have inTheWay := fun e mem => pending_of_meets ok clear away some (e := e) mem
    have overlapped : overlappedClaims x first count s = met := List.filter_congr inTheWay
    refine ⟨fun precede => ?_, fun ⟨e, mem, yields⟩ => ?_⟩
    · have all : (overlappedClaims x first count s).all (precedes priority x) = true := by
        rw [overlapped, List.all_eq_true]
        exact fun e mem => precedes_iff.mpr (precede e mem)
      obtain ⟨u, is⟩ : ∃ u, u = installClaim s.sync.superframe x tag first count priority (overrideClaims x first count s) :=
        ⟨_, rfl⟩
      obtain ⟨slots, dir, counters, gone, single⟩ := claimInstalled ok low high inTheWay is
      have dir' : u.alloc.dir = s.alloc.dir.filter (fun e => !e.meets first count) ++ [entry] := by
        have kept : withoutTag tag (s.alloc.dir.filter (fun e => !e.meets first count)) =
            s.alloc.dir.filter (fun e => !e.meets first count) :=
          List.filter_eq_self.mpr fun e mem => bne_iff_ne.mpr (free e (List.mem_filter.mp mem).1)
        rw [dir, withEntry, kept, show (x == s.id) = false from beq_eq_false_iff_ne.mpr foreign]
      have told : t = tellLosses x tag s.alloc.dir u := by rw [heard, claimSteps_installs cleared clear all, is]
      obtain ⟨-, -, -, -, -, -, -, -, -, -, slotsTold, dirTold⟩ := tellLosses_frame x tag s.alloc.dir u
      have slot (k : Nat) : t.slot k = u.slot k := by rw [told, State.slot, State.slot, slotsTold]
      refine ⟨fun k inside => by rw [slot]; exact slots k inside, by rw [told, dirTold, dir'], fun fits => ?_,
        fun e mem k inside outside => ?_, ?_⟩
      · have overridden := tellLosses_counters (f := AllocCounters.claimsOverridden) (fun _ => rfl) x tag s.alloc.dir u
        rw [told, overridden, counters]
        exact iterate_bump (f := AllocCounters.claimsOverridden) (fun _ => rfl) fits
      · obtain ⟨there, meets⟩ := List.mem_filter.mp mem
        rw [slot]
        exact gone e there meets k inside outside
      · have left (e : DirEntry) (mine : e.station = s.id) : e ∈ u.alloc.dir ↔ e ∈ s.alloc.dir ∧ e ∉ met := by
          have notNew : e ≠ entry := fun same => foreign (by rw [← mine, same])
          rw [dir', List.mem_append, List.mem_singleton, or_iff_left notNew, List.mem_filter, List.mem_filter]
          simp +contextual
        rw [told]
        exact tellLosses_defeatsOwners ok.1 single (fun e mem => (List.mem_filter.mp mem).1) left
          (fun e mem => free e (List.mem_filter.mp mem).1) (by rw [is]; simp) (by rw [is]; simp) (by rw [is]; simp)
    · have none : (overlappedClaims x first count s).all (precedes priority x) = false := by
        rw [overlapped, List.all_eq_false]
        exact ⟨e, mem, fun is => yields (precedes_iff.mp is)⟩
      rw [heard, claimSteps_yields cleared clear none]
      have single : DirOk (ignoreClaim s) := ok.1
      exact tellLosses_same single rfl

end Sys2Proof.Proofs
end

section
/-! Heard OFFERs and RELEASEs, and the tag rule against other stations (R83 to R85, R89, R104 to R106). -/

namespace Sys2Proof.Proofs
open Sys2Proof.Machine

/-! ### Removals one after another -/

section
variable {p q : DirEntry → Bool} {use : SlotUse} {s t u : State}

theorem Removed.trans (first : Removed p use s t) (second : Removed q use t u) : Removed (fun e => p e || q e) use s u := by
  refine ⟨?_, second.length.trans first.length, fun k low high => ?_⟩
  · rw [second.dir, first.dir, List.filter_filter]
    exact List.filter_congr fun e _ => by cases p e <;> cases q e <;> rfl
  · have either : s.alloc.dir.any (fun e => (p e || q e) && inRun e.first e.count k) =
        (s.alloc.dir.any (fun e => p e && inRun e.first e.count k) ||
          t.alloc.dir.any (fun e => q e && inRun e.first e.count k)) := by
      rw [first.dir, List.any_filter, Bool.eq_iff_iff, Bool.or_eq_true, List.any_eq_true, List.any_eq_true, List.any_eq_true]
      constructor
      · rintro ⟨e, mem, goes⟩
        cases isP : p e with
        | true => exact .inl ⟨e, mem, by simp_all⟩
        | false => exact .inr ⟨e, mem, by simp_all⟩
      · rintro (⟨e, mem, goes⟩ | ⟨e, mem, goes⟩)
        · exact ⟨e, mem, by simp_all⟩
        · exact ⟨e, mem, by simp_all⟩
    rw [second.slot k low high, first.slot k low high, either]
    cases s.alloc.dir.any (fun e => p e && inRun e.first e.count k) <;>
      cases t.alloc.dir.any (fun e => q e && inRun e.first e.count k) <;> rfl

theorem Removed.congr (removed : Removed p use s t) (same : ∀ e ∈ s.alloc.dir, p e = q e) : Removed q use s t := by
  refine ⟨?_, removed.length, fun k low high => ?_⟩
  · rw [removed.dir]
    exact List.filter_congr fun e mem => by rw [same e mem]
  · have hits : s.alloc.dir.any (fun e => p e && inRun e.first e.count k) =
        s.alloc.dir.any (fun e => q e && inRun e.first e.count k) := by
      rw [Bool.eq_iff_iff, List.any_eq_true, List.any_eq_true]
      exact exists_congr fun e => and_congr_right fun mem => by rw [same e mem]
    rw [removed.slot k low high, hits]

theorem Removed.free_stays (removed : Removed p .free s t) {k : Nat} (low : 8 ≤ k) (high : k < 64)
    (free : (s.slot k).use = .free) : (t.slot k).use = .free := by
  rw [removed.slot k low high]
  split
  · rfl
  · exact free

theorem Removed.mem_iff (removed : Removed p use s t) {e : DirEntry} : e ∈ t.alloc.dir ↔ e ∈ s.alloc.dir ∧ p e = false := by
  rw [removed.dir, List.mem_filter, Bool.not_eq_true']

end

theorem removeWhere_counters (p : DirEntry → Bool) (s : State) :
    (removeWhere p s).alloc.counters = s.alloc.counters :=
  foldl_inv (fun t : State => t.alloc.counters = s.alloc.counters) _ _ _ rfl (fun _ _ same => same)

/-! ### The steps of a heard OFFER (R83 to R85) -/

/-- The sender's entries that an OFFER removes first (R83). -/
def offerReplaces (x tag first count : Nat) (e : DirEntry) : Bool :=
  e.station == x && (if e.tag == tag then !(e.first == first && e.count == count) else e.meets first count)

/-- The runs of others over a run. -/
def inTheWay (x first count : Nat) (e : DirEntry) : Bool := e.station != x && e.meets first count

section
variable {x tag first count priority : Nat} {s s2 u : State}

theorem offerSteps_installs (cleared : removeWhere (offerReplaces x tag first count) s = s2)
    (above : (overlappedHolders x first count s2).all (fun e => decide (x < e.station)) = true) :
    offerSteps x tag first count priority s = installOffer x tag first count priority (resolveOverlaps x first count s2) := by
  subst cleared
  exact if_pos above

theorem offerSteps_objects (cleared : removeWhere (offerReplaces x tag first count) s = s2)
    (below : (overlappedHolders x first count s2).all (fun e => decide (x < e.station)) = false) (lower : s2.id < x) :
    offerSteps x tag first count priority s = objectRuns first count s2 := by
  subst cleared
  exact (if_neg (Bool.eq_false_iff.mp below)).trans (if_pos lower)

theorem offerSteps_yields (cleared : removeWhere (offerReplaces x tag first count) s = s2)
    (below : (overlappedHolders x first count s2).all (fun e => decide (x < e.station)) = false) (higher : ¬s2.id < x) :
    offerSteps x tag first count priority s = s2 := by
  subst cleared
  exact (if_neg (Bool.eq_false_iff.mp below)).trans (if_neg higher)

/-- The holders and the claims in the way removed, one after the other (R84, R85). -/
theorem vacated_removed (single : DirOk s) (length : s.alloc.slots.length = 56) :
    Removed (inTheWay x first count) .free s (overrideClaims x first count (resolveOverlaps x first count s)) := by
  have resolved := resolveOverlaps_removed x first count single length
  have overridden := overrideClaims_removed x first count (resolved.dirOk single) (resolved.length.trans length)
  refine (resolved.trans overridden).congr fun e _ => ?_
  unfold inTheWay
  cases e.active <;> simp

theorem resolveOverlaps_counters (s : State) : (resolveOverlaps x first count s).alloc.counters =
    (fun k : AllocCounters => { k with overlapsResolved := bump k.overlapsResolved })^[
      (s.alloc.dir.filter (inTheWay x first count)).countP (fun e => e.active)] s.alloc.counters := by
  have number : (overlappedHolders x first count s).length =
      (s.alloc.dir.filter (inTheWay x first count)).countP (fun e => e.active) := by
    rw [List.countP_eq_length_filter, List.filter_filter]
    refine congrArg List.length (List.filter_congr fun e _ => ?_)
    rw [inTheWay, Bool.and_assoc]
  rw [← number]
  exact countedRemovals_counters _ _ s

theorem overrideClaims_counters (s : State) : (overrideClaims x first count s).alloc.counters =
    (fun k : AllocCounters => { k with claimsOverridden := bump k.claimsOverridden })^[
      (s.alloc.dir.filter (inTheWay x first count)).countP (fun e => !e.active)] s.alloc.counters := by
  have number : (overlappedClaims x first count s).length =
      (s.alloc.dir.filter (inTheWay x first count)).countP (fun e => !e.active) := by
    rw [List.countP_eq_length_filter, List.filter_filter]
    refine congrArg List.length (List.filter_congr fun e _ => ?_)
    rw [inTheWay, Bool.and_assoc]
  rw [← number]
  exact countedRemovals_counters _ _ s

/-- The claims in the way are the same after the holders have gone. -/
theorem resolved_claims (single : DirOk s) (length : s.alloc.slots.length = 56) :
    ((resolveOverlaps x first count s).alloc.dir.filter (inTheWay x first count)).countP (fun e => !e.active) =
      (s.alloc.dir.filter (inTheWay x first count)).countP (fun e => !e.active) := by
  rw [(resolveOverlaps_removed x first count single length).dir, List.filter_filter, List.countP_filter, List.countP_filter]
  refine List.countP_congr fun e _ => ?_
  rw [inTheWay]
  cases e.active <;> simp

/-- An OFFER's run installed over what is in its way (R84, R85). -/
theorem offerInstalled (ok : MapOk s) (low : 8 ≤ first) (high : first + count ≤ 64)
    (is : u = installOffer x tag first count priority (resolveOverlaps x first count s)) :
    (∀ k ∈ runSlots first count, (u.slot k).use = .held x tag priority 24) ∧
    u.alloc.dir = withEntry ⟨tag, x, first, count, priority, true, x == s.id⟩
      (s.alloc.dir.filter (fun e => !inTheWay x first count e)) ∧
    (∀ e ∈ s.alloc.dir, inTheWay x first count e = true → ∀ k ∈ runSlots e.first e.count, k ∉ runSlots first count →
      (u.slot k).use = .free) ∧
    (s.alloc.counters.overlapsResolved + (s.alloc.dir.filter (inTheWay x first count)).countP (fun e => e.active) ≤ 65535 →
      u.alloc.counters.overlapsResolved = s.alloc.counters.overlapsResolved +
        (s.alloc.dir.filter (inTheWay x first count)).countP (fun e => e.active)) ∧
    (s.alloc.counters.claimsOverridden + (s.alloc.dir.filter (inTheWay x first count)).countP (fun e => !e.active) ≤ 65535 →
      u.alloc.counters.claimsOverridden = s.alloc.counters.claimsOverridden +
        (s.alloc.dir.filter (inTheWay x first count)).countP (fun e => !e.active)) ∧ DirOk u := by
  have removed := vacated_removed (x := x) (first := first) (count := count) ok.1 ok.2.1
  have length := removed.length.trans ok.2.1
  have own : (resolveOverlaps x first count s).id = s.id := by
    rw [State.id, State.id, (resolveOverlaps_frame x first count s).2.2.1]
  have resolvedSame (n : Nat) (k : AllocCounters) := iterate_keeps (f := AllocCounters.overlapsResolved)
    (g := fun k => { k with claimsOverridden := bump k.claimsOverridden }) (fun _ => rfl) n k
  have overriddenSame (n : Nat) (k : AllocCounters) := iterate_keeps (f := AllocCounters.claimsOverridden)
    (g := fun k => { k with overlapsResolved := bump k.overlapsResolved }) (fun _ => rfl) n k
  subst is
  refine ⟨fun k inside => ?_, ?_, fun e mem goes k inside outside => ?_, fun fits => ?_, fun fits => ?_,
    installRun_dirOk (removed.dirOk ok.1)⟩
  · exact installRun_use length ⟨low, high⟩ inside
  · rw [installOffer, installRun_alloc, removed.dir, own]
  · have range := MapOk.slot_range ok mem (mem_runSlots_iff_inRun.mp inside)
    rw [installOffer, installRun_outside length range.1 range.2 outside]
    exact removed.gone ok mem goes inside
  · rw [installOffer, installRun_alloc, overrideClaims_counters, resolvedSame, resolveOverlaps_counters]
    exact iterate_bump (f := AllocCounters.overlapsResolved) (fun _ => rfl) fits
  · rw [installOffer, installRun_alloc, overrideClaims_counters, resolved_claims ok.1 ok.2.1, resolveOverlaps_counters]
    refine (iterate_bump (f := AllocCounters.claimsOverridden) (fun _ => rfl) ?_).trans ?_
    · rw [overriddenSame]
      exact fits
    · rw [overriddenSame]

/-- The runs of others in the way are not the sender's own, which an OFFER removes first. -/
theorem others_after_removal (removed : Removed (offerReplaces x tag first count) .free s s2) :
    s2.alloc.dir.filter (inTheWay x first count) = s.alloc.dir.filter (inTheWay x first count) := by
  rw [removed.dir, List.filter_filter]
  refine List.filter_congr fun e _ => ?_
  unfold inTheWay offerReplaces
  cases is : e.station == x with
  | false => simp
  | true => simp [beq_iff_eq.mp is]

end

/-! ### The tag rule (R104 to R106) -/

section
variable {x tag first count priority : Nat} {e : DirEntry} {s : State}

theorem tagRule_own (mine : ∀ e, findTag tag s.alloc.dir = some e → e.station = x) : tagRule x tag s = (true, s) := by
  unfold tagRule
  cases found : findTag tag s.alloc.dir with
  | none => rfl
  | some e => exact if_pos (mine e found)

theorem tagRule_ignores (found : findTag tag s.alloc.dir = some e) (lower : e.station < x) :
    tagRule x tag s = (false, tellOwner e object
      (countAlloc (fun k => { k with tagItemsIgnored := bump k.tagItemsIgnored }) s)) := by
  unfold tagRule
  rw [found]
  exact (if_neg (Nat.ne_of_lt lower)).trans (if_pos lower)

theorem tagRule_removes (found : findTag tag s.alloc.dir = some e) (higher : x < e.station) :
    tagRule x tag s = (true, removeRun .free e
      (countAlloc (fun k => { k with tagEntriesRemoved := bump k.tagEntriesRemoved }) s)) := by
  unfold tagRule
  rw [found]
  exact (if_neg (Nat.ne_of_gt higher)).trans (if_neg (Nat.not_lt_of_gt higher))

theorem heardOffer_goesOn {u : State} (goes : tagRule x tag s = (true, u)) : heardOffer x tag first count priority s =
    tellLosses x tag s.alloc.dir (offerSteps x tag first count priority u) := by
  rw [heardOffer, goes]

theorem heardClaim_ignored {u : State} (stops : tagRule x tag s = (false, u)) : heardClaim x tag first count priority s = u := by
  rw [heardClaim, stops]

theorem heardOffer_ignored {u : State} (stops : tagRule x tag s = (false, u)) : heardOffer x tag first count priority s = u := by
  rw [heardOffer, stops]

/-- The source of a tag is the one that carries it (R114). -/
theorem sourceOfTag_eq {n : Nat} {c : Source} (ok : SourcesOk s) (here : s.sources[n]? = some c) (carries : c.cfg.tag = tag) :
    s.sourceOfTag tag = some n := by
  obtain ⟨inN, atN⟩ := List.getElem?_eq_some_iff.mp here
  refine List.findIdx?_eq_some_iff_getElem.mpr ⟨inN, by simp [atN, carries], fun m less also => ?_⟩
  have there : s.sources[m]? = some s.sources[m] := List.getElem?_eq_getElem (Nat.lt_trans less inN)
  have := source_unique ok.2 here there ((beq_iff_eq.mp also).trans carries.symm)
  omega

theorem tellOwner_tables (s : State) :
    (tellOwner e object s).alloc.dir = s.alloc.dir ∧ (tellOwner e object s).alloc.slots = s.alloc.slots := by
  unfold tellOwner
  split
  · exact object_tables _ s
  · exact ⟨rfl, rfl⟩

theorem tellOwner_counters {β : Type} {f : AllocCounters → β}
    (keeps : ∀ k, f { k with objectionsPosted := bump k.objectionsPosted } = f k) (s : State) :
    f (tellOwner e object s).alloc.counters = f s.alloc.counters := by
  unfold tellOwner
  split
  · exact object_counters keeps _ s
  · rfl

theorem tellOwner_object {n : Nat} {c : Source} (ok : SourcesOk s) (here : s.sources[n]? = some c)
    (carries : c.cfg.tag = e.tag) (mine : e.station = s.id) : tellOwner e object s = object n s := by
  rw [tellOwner, localSource, if_pos mine, sourceOfTag_eq ok here carries]

end

/-! ### What the steps after the tag rule leave -/

/-- The steps of an item of `x` over a run, begun in `s` where no entry carries its tag: the entries of its tag are its
sender's, the FREE slots outside its run stay FREE, and own runs that are not in its way stay, their sources untold. -/
structure Stepped (x tag first count : Nat) (s v : State) : Prop where
  single : DirOk v
  length : v.alloc.slots.length = 56
  loader : v.loader = s.loader
  tagEntries : v.alloc.counters.tagEntriesRemoved = s.alloc.counters.tagEntriesRemoved
  clashes : v.alloc.counters.localClashes = s.alloc.counters.localClashes
  tagged : ∀ d ∈ v.alloc.dir, d.tag = tag → d.station = x
  free : ∀ k, 8 ≤ k → k < 64 → (s.slot k).use = .free → k ∉ runSlots first count → (v.slot k).use = .free
  spared : (∀ d ∈ s.alloc.dir, d.station = s.id → d.meets first count = false) →
    v.sources = s.sources ∧ v.mgmt = s.mgmt ∧ ∀ d ∈ s.alloc.dir, d.station = s.id → d ∈ v.alloc.dir

section
variable {x tag first count priority : Nat} {s v : State}

theorem Stepped.refl (ok : MapOk s) (absent : ∀ e ∈ s.alloc.dir, e.tag ≠ tag) : Stepped x tag first count s s :=
  ⟨ok.1, ok.2.1, rfl, rfl, rfl, fun d mem same => absurd same (absent d mem), fun _ _ _ free _ => free,
    fun _ => ⟨rfl, rfl, fun _ mem _ => mem⟩⟩

/-- Runs removed, no own run among them unless it is in the way. -/
theorem Stepped.removed {q : DirEntry → Bool} {w : State} (h : Stepped x tag first count s v) (removed : Removed q .free v w)
    (spares : ∀ d, d.station = s.id → d.meets first count = false → q d = false) (loader : w.loader = v.loader)
    (sources : w.sources = v.sources) (mgmt : w.mgmt = v.mgmt)
    (tagEntries : w.alloc.counters.tagEntriesRemoved = v.alloc.counters.tagEntriesRemoved)
    (clashes : w.alloc.counters.localClashes = v.alloc.counters.localClashes) : Stepped x tag first count s w := by
  refine ⟨removed.dirOk h.single, removed.length.trans h.length, loader.trans h.loader, tagEntries.trans h.tagEntries,
    clashes.trans h.clashes, fun d mem => h.tagged d (removed.mem_iff.mp mem).1,
    fun k low high free outside => removed.free_stays low high (h.free k low high free outside), fun apart => ?_⟩
  obtain ⟨sources', mgmt', stay⟩ := h.spared apart
  exact ⟨sources.trans sources', mgmt.trans mgmt', fun d mem mine =>
    removed.mem_iff.mpr ⟨stay d mem mine, spares d mine (apart d mem mine)⟩⟩

theorem Stepped.cleared {q : DirEntry → Bool} (h : Stepped x tag first count s v) (foreign : x ≠ s.id)
    (theirs : ∀ d, q d = true → d.station = x) : Stepped x tag first count s (removeWhere q v) := by
  refine h.removed (removeWhere_removed q h.single h.length) (fun d mine _ => ?_) (by simp) (by simp) (by simp)
    (by rw [removeWhere_counters]) (by rw [removeWhere_counters])
  by_contra goes
  exact foreign ((theirs d (by simpa using goes)).symm.trans mine)

theorem Stepped.overridden (h : Stepped x tag first count s v) : Stepped x tag first count s (overrideClaims x first count v) := by
  refine h.removed (overrideClaims_removed x first count h.single h.length) (fun d _ apart => by simp [apart]) (by simp)
    (by simp) (by simp) ?_ ?_
  · rw [overrideClaims_counters]
    exact iterate_keeps (f := AllocCounters.tagEntriesRemoved) (by intro k; rfl) _ _
  · rw [overrideClaims_counters]
    exact iterate_keeps (f := AllocCounters.localClashes) (by intro k; rfl) _ _

theorem Stepped.resolved (h : Stepped x tag first count s v) : Stepped x tag first count s (resolveOverlaps x first count v) := by
  refine h.removed (resolveOverlaps_removed x first count h.single h.length) (fun d _ apart => by simp [apart]) (by simp)
    (by simp) (by simp) ?_ ?_
  · rw [resolveOverlaps_counters]
    exact iterate_keeps (f := AllocCounters.tagEntriesRemoved) (by intro k; rfl) _ _
  · rw [resolveOverlaps_counters]
    exact iterate_keeps (f := AllocCounters.localClashes) (by intro k; rfl) _ _

theorem Stepped.installed (h : Stepped x tag first count s v) (foreign : x ≠ s.id) (use : SlotUse) (active isLocal : Bool) :
    Stepped x tag first count s (installRun use ⟨tag, x, first, count, priority, active, isLocal⟩ v) := by
  have mem_iff (d : DirEntry) : d ∈ (installRun use ⟨tag, x, first, count, priority, active, isLocal⟩ v).alloc.dir ↔
      (d ∈ v.alloc.dir ∧ d.tag ≠ tag) ∨ d = ⟨tag, x, first, count, priority, active, isLocal⟩ := by
    simp [withEntry, withoutTag]
  refine ⟨installRun_dirOk h.single, by simpa using h.length, h.loader, h.tagEntries, h.clashes, fun d mem same => ?_,
    fun k low high free outside => ?_, fun apart => ?_⟩
  · rcases (mem_iff d).mp mem with ⟨-, other⟩ | rfl
    · exact absurd same other
    · rfl
  · rw [installRun_outside h.length low high outside]
    exact h.free k low high free outside
  · obtain ⟨sources, mgmt, stay⟩ := h.spared apart
    refine ⟨sources, mgmt, fun d mem mine => (mem_iff d).mpr (.inl ⟨stay d mem mine, fun same => ?_⟩)⟩
    exact foreign ((h.tagged d (stay d mem mine) same).symm.trans mine)

theorem Stepped.ignored (h : Stepped x tag first count s v) : Stepped x tag first count s (ignoreClaim v) :=
  ⟨h.single, h.length, h.loader, h.tagEntries, h.clashes, h.tagged, h.free, h.spared⟩

theorem Stepped.objected (h : Stepped x tag first count s v) (sub : ∀ d ∈ v.alloc.dir, d ∈ s.alloc.dir) :
    Stepped x tag first count s (objectRuns first count v) := by
  obtain ⟨dir, slots⟩ := objectRuns_tables first count v
  have single : DirOk (objectRuns first count v) := by rw [DirOk, dir]; exact h.single
  refine ⟨single, by rw [slots]; exact h.length, (objectRuns_frame first count v).2.2.1.trans h.loader,
    (objectRuns_counters (f := AllocCounters.tagEntriesRemoved) (fun _ => rfl) first count v).trans h.tagEntries,
    (objectRuns_counters (f := AllocCounters.localClashes) (fun _ => rfl) first count v).trans h.clashes,
    by rw [dir]; exact h.tagged, fun k low high free outside => ?_, fun apart => ?_⟩
  · rw [State.slot, slots]
    exact h.free k low high free outside
  · have own : v.id = s.id := by rw [State.id, State.id, h.loader]
    rw [objectRuns_absent h.single (fun d mem mine _ => apart d (sub d mem) (mine.trans own))]
    exact h.spared apart

theorem claimSteps_stepped (ok : MapOk s) (foreign : x ≠ s.id) (absent : ∀ e ∈ s.alloc.dir, e.tag ≠ tag) :
    Stepped x tag first count s (claimSteps x tag first count priority s) := by
  have cleared := (Stepped.refl (x := x) (first := first) (count := count) ok absent).cleared foreign
    (q := replacedBy x tag first count) (fun d goes => by
      obtain ⟨is, -⟩ := Bool.and_eq_true_iff.mp goes
      exact beq_iff_eq.mp is)
  have sub : ∀ d ∈ (removeWhere (replacedBy x tag first count) s).alloc.dir, d ∈ s.alloc.dir := fun d mem =>
    ((removeWhere_removed (replacedBy x tag first count) ok.1 ok.2.1).mem_iff.mp mem).1
  cases bars : (runSlots first count).any
      (fun k => barsClaim x k (removeWhere (replacedBy x tag first count) s)) with
  | true =>
    rw [claimSteps_barred rfl bars]
    exact cleared.ignored.objected sub
  | false =>
    cases precede : (overlappedClaims x first count (removeWhere (replacedBy x tag first count) s)).all
        (precedes priority x) with
    | true =>
      rw [claimSteps_installs rfl bars precede]
      exact cleared.overridden.installed foreign _ _ _
    | false =>
      rw [claimSteps_yields rfl bars precede]
      exact cleared.ignored

theorem offerSteps_stepped (ok : MapOk s) (foreign : x ≠ s.id) (absent : ∀ e ∈ s.alloc.dir, e.tag ≠ tag) :
    Stepped x tag first count s (offerSteps x tag first count priority s) := by
  have cleared := (Stepped.refl (x := x) (first := first) (count := count) ok absent).cleared foreign
    (q := offerReplaces x tag first count) (fun d goes => by
      obtain ⟨is, -⟩ := Bool.and_eq_true_iff.mp goes
      exact beq_iff_eq.mp is)
  have sub : ∀ d ∈ (removeWhere (offerReplaces x tag first count) s).alloc.dir, d ∈ s.alloc.dir := fun d mem =>
    ((removeWhere_removed (offerReplaces x tag first count) ok.1 ok.2.1).mem_iff.mp mem).1
  cases above : (overlappedHolders x first count (removeWhere (offerReplaces x tag first count) s)).all
      (fun e => decide (x < e.station)) with
  | true =>
    rw [offerSteps_installs rfl above]
    exact cleared.resolved.overridden.installed foreign _ _ _
  | false =>
    by_cases lower : (removeWhere (offerReplaces x tag first count) s).id < x
    · rw [offerSteps_objects rfl above lower]
      exact cleared.objected sub
    · rw [offerSteps_yields rfl above lower]
      exact cleared

end

/-! ### An item whose tag another station holds (R104 to R106) -/

section
variable {x tag first count : Nat} {e : DirEntry} {s u v : State}

/-- Against a lower id the item is ignored, and the source of the tag objects. -/
theorem tagItem_ignored (found : findTag tag s.alloc.dir = some e)
    (is : u = tellOwner e object (countAlloc (fun k => { k with tagItemsIgnored := bump k.tagItemsIgnored }) s)) :
    u.alloc.slots = s.alloc.slots ∧ u.alloc.dir = s.alloc.dir ∧
    u.alloc.counters.tagItemsIgnored = bump s.alloc.counters.tagItemsIgnored ∧
    ∀ (n : Nat) (c : Source), SourcesOk s → e.station = s.id → s.sources[n]? = some c → c.cfg.tag = tag → Objects n c s u := by
  subst is
  obtain ⟨dir, slots⟩ := tellOwner_tables (e := e)
    (countAlloc (fun k => { k with tagItemsIgnored := bump k.tagItemsIgnored }) s)
  refine ⟨slots, dir, tellOwner_counters (f := AllocCounters.tagItemsIgnored) (fun _ => rfl) _, fun n c ok mine here carries => ?_⟩
  have ok' : SourcesOk (countAlloc (fun k => { k with tagItemsIgnored := bump k.tagItemsIgnored }) s) := ok
  rw [tellOwner_object ok' here (carries.trans (findTag_mem found).2.symm) mine]
  exact object_objects ⟨rfl, rfl, rfl, rfl, rfl, rfl⟩ here

/-- The state after the entry of a higher id has gone (R104). -/
def tagVacated (e : DirEntry) (s : State) : State :=
  removeRun .free e (countAlloc (fun k => { k with tagEntriesRemoved := bump k.tagEntriesRemoved }) s)

theorem tagVacated_mem (found : findTag tag s.alloc.dir = some e) {d : DirEntry} :
    d ∈ (tagVacated e s).alloc.dir ↔ d ∈ s.alloc.dir ∧ d.tag ≠ tag := by
  show d ∈ withoutTag e.tag s.alloc.dir ↔ _
  rw [(findTag_mem found).2]
  simp [withoutTag]

theorem tagVacated_mapOk (ok : MapOk s) (found : findTag tag s.alloc.dir = some e) : MapOk (tagVacated e s) :=
  removeRun_mapOk (s := countAlloc (fun k => { k with tagEntriesRemoved := bump k.tagEntriesRemoved }) s) ok (findTag_mem found).1

theorem tagVacated_slot (ok : MapOk s) (found : findTag tag s.alloc.dir = some e) {k : Nat}
    (inside : k ∈ runSlots e.first e.count) : ((tagVacated e s).slot k).use = .free := by
  have range := MapOk.slot_range ok (findTag_mem found).1 (mem_runSlots_iff_inRun.mp inside)
  rw [tagVacated, removeRun_slot .free e _ k range.1 (by show k - 8 < s.alloc.slots.length; rw [ok.2.1]; omega),
    if_pos (mem_runSlots_iff_inRun.mp inside)]

/-- What an item does that takes its tag from a higher id, once its steps are done and the losses told. -/
theorem tagItem_takes (ok : MapOk s) (foreign : x ≠ s.id) (found : findTag tag s.alloc.dir = some e)
    (steps : Stepped x tag first count (tagVacated e s) v) (is : u = tellLosses x tag s.alloc.dir v) :
    u.alloc.counters.tagEntriesRemoved = bump s.alloc.counters.tagEntriesRemoved ∧
    (∀ d ∈ u.alloc.dir, d.tag = tag → d.station = x) ∧
    (∀ k ∈ runSlots e.first e.count, k ∉ runSlots first count → (u.slot k).use = .free) ∧
    ∀ (n : Nat) (c : Source), SourcesOk s → e.station = s.id → s.sources[n]? = some c → c.cfg.tag = tag →
      c.state = .claiming ∨ c.state = .owned ∨ c.state = .releasing →
      (∀ d ∈ s.alloc.dir, d ≠ e → d.station = s.id → d.meets first count = false) →
      u.sources = s.sources.set n (ClashedFrom c) ∧ u.faultHigh = true ∧
      u.alloc.counters.localClashes = bump s.alloc.counters.localClashes ∧
      (s.mgmt.notices = [] → u.mgmt.notices = [.source n tag (.clashed c.run x)]) := by
  obtain ⟨mem, carriesE⟩ := findTag_mem found
  obtain ⟨-, -, -, -, -, -, -, -, -, -, slotsTold, dirTold⟩ := tellLosses_frame x tag s.alloc.dir v
  refine ⟨?_, fun d there => ?_, fun k inside outside => ?_, fun n c sourcesOk mine here carries holds apart => ?_⟩
  · rw [is, tellLosses_counters (f := AllocCounters.tagEntriesRemoved) (fun _ => rfl), steps.tagEntries]
    rfl
  · rw [is, dirTold] at there
    exact steps.tagged d there
  · have range := MapOk.slot_range ok mem (mem_runSlots_iff_inRun.mp inside)
    rw [is, State.slot, slotsTold]
    exact steps.free k range.1 range.2 (tagVacated_slot ok found inside) outside
  · obtain ⟨sources, mgmt, stay⟩ := steps.spared fun d there mine' => by
      obtain ⟨memD, other⟩ := (tagVacated_mem found).mp there
      exact apart d memD (fun same => other (by rw [same]; exact carriesE)) mine'
    have own : v.id = s.id := by rw [State.id, State.id, steps.loader]; rfl
    have hereV : v.sources[n]? = some c := by rw [sources]; exact here
    have loses : losesRun v.id c.cfg.tag s.alloc.dir v.alloc.dir = true := by
      rw [own, carries]
      refine (losesRun_iff ok.1 steps.single).mpr ⟨⟨e, mem, carriesE, mine⟩, fun d there same => ?_⟩
      rw [steps.tagged d there same]
      exact foreign
    have holds' : c.state = .seeking ∨ c.state = .claiming ∨ c.state = .owned ∨ c.state = .releasing := .inr holds
    have told : u = tellClashed n x v := by
      rw [is]
      refine tellLosses_clashes hereV carries loses holds' (fun m d other there => ?_)
      rw [own, ← Bool.not_eq_true, losesRun_iff ok.1 steps.single]
      rintro ⟨⟨b, memB, carriesB, mineB⟩, gone⟩
      have foreignTag : b.tag ≠ tag := fun same => other
        (source_unique sourcesOk.2 here (by rw [sources] at there; exact there) ((carriesB.symm.trans same).trans carries.symm))
      exact gone b (stay b ((tagVacated_mem found).mpr ⟨memB, foreignTag⟩) mineB) carriesB mineB
    rw [told]
    refine ⟨?_, tellClashed_faultHigh hereV holds', ?_, fun empty => ?_⟩
    · rw [tellClashed_sources hereV holds', sources]
      rfl
    · rw [tellClashed_alloc hereV holds']
      exact congrArg bump steps.clashes
    · have silent : v.mgmt.notices = [] := by rw [mgmt]; exact empty
      rw [tellClashed_notices hereV holds' (by rw [silent]; decide), silent, carries]
      rfl

end

/-- Settles O52: the rows of the tag rule, and the steps of an OFFER whose tag is free or its sender's. -/
theorem heardOffersAndReleasesUpdateTheMap : Obligations.HeardOffersAndReleasesUpdateTheMap := by
  intro x tag first count priority s ok foreign low some high others claimed offered held
  refine ⟨fun mine => ?sender, fun e found => ⟨fun is => ?released, fun is => ?otherRelease, fun lower u which => ?lower,
    fun higher u which => ?higher⟩⟩
  case released =>
    obtain ⟨mem, carries⟩ := findTag_mem found
    have done : heardRelease x tag s = removeRun .free e s := by
      rw [heardRelease, found]
      exact if_pos is
    rw [done]
    refine ⟨by rw [removeRun_alloc, carries]; rfl, fun k inside => ?_⟩
    have range := MapOk.slot_range ok mem (mem_runSlots_iff_inRun.mp inside)
    rw [removeRun_slot .free e s k range.1 (by rw [ok.2.1]; omega), if_pos (mem_runSlots_iff_inRun.mp inside)]
  case otherRelease =>
    rw [heardRelease, found]
    exact if_neg is
  case lower =>
    have stops := tagRule_ignores found lower
    have ignored : u = tellOwner e object (countAlloc (fun k => { k with tagItemsIgnored := bump k.tagItemsIgnored }) s) := by
      rcases which with rfl | rfl
      · exact heardClaim_ignored stops
      · exact heardOffer_ignored stops
    obtain ⟨slots, dir, counted, objects⟩ := tagItem_ignored found ignored
    exact ⟨slots, dir, counted, fun n c sourcesOk mine here carries _ => objects n c sourcesOk mine here carries⟩
  case higher =>
    have goes : tagRule x tag s = (true, tagVacated e s) := tagRule_removes found higher
    have okV := tagVacated_mapOk ok found
    have absent : ∀ d ∈ (tagVacated e s).alloc.dir, d.tag ≠ tag := fun d there => ((tagVacated_mem found).mp there).2
    rcases which with rfl | rfl
    · exact tagItem_takes ok foreign found (claimSteps_stepped okV foreign absent) (heardClaim_goesOn goes)
    · exact tagItem_takes ok foreign found (offerSteps_stepped okV foreign absent) (heardOffer_goesOn goes)
  case sender =>
    have goes := tagRule_own mine
    have heard : offered = tellLosses x tag s.alloc.dir (offerSteps x tag first count priority s) := heardOffer_goesOn goes
    have removed := removeWhere_removed (offerReplaces x tag first count) ok.1 ok.2.1
    obtain ⟨s2, cleared⟩ : ∃ s2, removeWhere (offerReplaces x tag first count) s = s2 := ⟨_, rfl⟩
    have frame := removeWhere_frame (offerReplaces x tag first count) s
    have counters := removeWhere_counters (offerReplaces x tag first count) s
    rw [cleared] at removed frame counters
    obtain ⟨-, -, loader, sync, -, -, tx, -, sources, -, -, -, mgmt⟩ := frame
    have ok2 := removed.mapOk rfl ok
    have own : s2.id = s.id := by rw [State.id, State.id, loader]
    have theirs : s2.alloc.dir.filter (inTheWay x first count) = others := others_after_removal removed
    have stays {e : DirEntry} (mem : e ∈ s.alloc.dir) (other : e.station ≠ x) : e ∈ s2.alloc.dir :=
      removed.mem_iff.mpr ⟨mem, by simp [offerReplaces, other]⟩
    refine ⟨fun above => ?installs, fun away below => ?yields,
      fun n c e sourcesOk lower here mem mine' active carries only => ?objects⟩
    case installs =>
      intro resolved overridden
      have all : (overlappedHolders x first count s2).all (fun e => decide (x < e.station)) = true := by
        rw [List.all_eq_true]
        intro e mem
        obtain ⟨there, is⟩ := List.mem_filter.mp mem
        rw [Bool.and_assoc, Bool.and_eq_true] at is
        have among : e ∈ others := by rw [← theirs]; exact List.mem_filter.mpr ⟨there, is.2⟩
        exact decide_eq_true (above e among is.1)
      obtain ⟨u, is⟩ : ∃ u, u = installOffer x tag first count priority (resolveOverlaps x first count s2) := ⟨_, rfl⟩
      obtain ⟨slots, dir, gone, resolves, overrides, single⟩ := offerInstalled ok2 low high is
      rw [theirs, counters] at resolves overrides
      have told : offered = tellLosses x tag s.alloc.dir u := by rw [heard, offerSteps_installs cleared all, is]
      obtain ⟨-, -, -, -, -, -, -, -, -, -, slotsTold, dirTold⟩ := tellLosses_frame x tag s.alloc.dir u
      have slot (k : Nat) : offered.slot k = u.slot k := by rw [told, State.slot, State.slot, slotsTold]
      have dir' : offered.alloc.dir = u.alloc.dir := by rw [told, dirTold]
      have mem_iff (d : DirEntry) : d ∈ u.alloc.dir ↔
          ((d ∈ s2.alloc.dir ∧ inTheWay x first count d = false) ∧ d.tag ≠ tag) ∨
            d = ⟨tag, x, first, count, priority, true, x == s2.id⟩ := by
        rw [dir]
        simp [withEntry, withoutTag, and_assoc, and_comm (a := ¬d.tag = tag)]
      have foreignTag {e : DirEntry} (mem : e ∈ others) : e.tag ≠ tag := fun same => by
        obtain ⟨there, is⟩ := List.mem_filter.mp mem
        have station := mine e ((findTag_eq_some ok.1).mpr ⟨there, same⟩)
        simp [station] at is
      refine ⟨⟨fun k inside => by rw [slot]; exact slots k inside, ?_⟩, fun e mem => ⟨?_, fun k inside outside => ?_⟩,
        fun fits => ?_, fun fits => ?_, ?_⟩
      · rw [dir', findTag_eq_some single]
        refine ⟨(mem_iff _).mpr (.inr ?_), rfl⟩
        rw [own, show (x == s.id) = false from beq_eq_false_iff_ne.mpr foreign]
      · rw [dir', findTag_eq_none]
        intro d there same
        obtain ⟨memE, isE⟩ := List.mem_filter.mp mem
        rcases (mem_iff d).mp there with ⟨⟨memD, clear⟩, -⟩ | rfl
        · rw [entry_unique ok.1 (removed.mem_iff.mp memD).1 memE same] at clear
          exact Bool.false_ne_true (clear.symm.trans isE)
        · exact foreignTag mem same.symm
      · obtain ⟨memE, isE⟩ := List.mem_filter.mp mem
        have other : e.station ≠ x := by
          obtain ⟨ne, -⟩ := Bool.and_eq_true_iff.mp isE
          exact bne_iff_ne.mp ne
        rw [slot]
        exact gone e (stays memE other) isE k inside outside
      · rw [told, tellLosses_counters (f := AllocCounters.overlapsResolved) (fun _ => rfl)]
        exact resolves fits
      · rw [told, tellLosses_counters (f := AllocCounters.claimsOverridden) (fun _ => rfl)]
        exact overrides fits
      · have left (e : DirEntry) (isOwn : e.station = s.id) : e ∈ u.alloc.dir ↔ e ∈ s.alloc.dir ∧ e ∉ others := by
          have other : e.station ≠ x := by rw [isOwn]; exact Ne.symm foreign
          have notNew : e ≠ ⟨tag, x, first, count, priority, true, x == s2.id⟩ := fun same => other (by rw [same])
          rw [mem_iff, or_iff_left notNew]
          constructor
          · rintro ⟨⟨memE, clear⟩, -⟩
            refine ⟨(removed.mem_iff.mp memE).1, fun among => ?_⟩
            exact Bool.false_ne_true (clear.symm.trans (List.mem_filter.mp among).2)
          · rintro ⟨memE, apart⟩
            refine ⟨⟨stays memE other, ?_⟩, fun same => other (mine e ((findTag_eq_some ok.1).mpr ⟨memE, same⟩))⟩
            by_contra inIt
            exact apart (List.mem_filter.mpr ⟨memE, by simpa [inTheWay] using inIt⟩)
        rw [told]
        exact tellLosses_defeatsOwners ok.1 single (fun e mem => (List.mem_filter.mp mem).1) left (fun e mem => foreignTag mem)
          (by rw [is]; simp [sources]) (by rw [is]; simp [mgmt]) (by rw [is]; simp [loader])
    case yields =>
      have same : s2 = s := by
        rw [← cleared]
        refine removeWhere_none fun e mem => ?_
        by_cases isX : e.station = x
        · obtain ⟨other, apart⟩ := away e mem isX
          simp [offerReplaces, other, apart]
        · simp [offerReplaces, isX]
      have none : (overlappedHolders x first count s2).all (fun e => decide (x < e.station)) = false := by
        obtain ⟨e, mem, meets, active, lower⟩ := below
        rw [List.all_eq_false]
        refine ⟨e, List.mem_filter.mpr ⟨by rw [same]; exact mem, ?_⟩, by simp; omega⟩
        simp [meets, active, Nat.ne_of_lt lower]
      rw [heard]
      by_cases lower : s2.id < x
      · obtain ⟨dir, slots⟩ := objectRuns_tables first count s2
        rw [offerSteps_objects cleared none lower]
        rw [same] at dir slots ⊢
        have single : DirOk (objectRuns first count s) := by rw [DirOk, dir]; exact ok.1
        rw [tellLosses_same single dir]
        exact ⟨slots, dir⟩
      · rw [offerSteps_yields cleared none lower, same, tellLosses_same ok.1 rfl]
        exact ⟨rfl, rfl⟩
    case objects =>
      obtain ⟨there, isE⟩ := List.mem_filter.mp mem
      obtain ⟨-, meets⟩ := Bool.and_eq_true_iff.mp isE
      have other : e.station ≠ x := by rw [mine']; exact Ne.symm foreign
      have none : (overlappedHolders x first count s2).all (fun e => decide (x < e.station)) = false := by
        rw [List.all_eq_false]
        refine ⟨e, List.mem_filter.mpr ⟨stays there other, ?_⟩, by simp; omega⟩
        simp [meets, active, other]
      have sourcesOk2 : SourcesOk s2 := by rw [SourcesOk, sources]; exact sourcesOk
      have objected : objectRuns first count s2 = object n s2 := by
        refine objectRuns_owner ok2.1 sourcesOk2 (by rw [sources]; exact here) (stays there other) (by rw [own]; exact mine')
          active carries meets (fun d memD mineD activeD meetsD => only d ?_ (mineD.trans own) activeD)
        rw [← theirs]
        refine List.mem_filter.mpr ⟨memD, ?_⟩
        have otherD : d.station ≠ x := by rw [mineD, own]; exact Ne.symm foreign
        simp [inTheWay, meetsD, otherD]
      have told : offered = object n s2 := by
        rw [heard, offerSteps_objects cleared none (by rw [own]; exact lower), objected]
        obtain ⟨dir, -⟩ := object_tables n s2
        have single : DirOk (object n s2) := by rw [DirOk, dir]; exact ok2.1
        have own' : (object n s2).id = s.id := by rw [State.id, (object_frame n s2).2.2.1]; exact own
        refine tellLosses_none fun g => losesRun_eq_false ok.1 single (fun d memD mineD => ?_)
        rw [dir]
        exact stays memD (by rw [mineD, own']; exact Ne.symm foreign)
      rw [told]
      exact object_objects ⟨sources, tx, mgmt, sync, loader, by rw [counters]⟩ here

end Sys2Proof.Proofs
end

section
/-! The sent event of the own cell: CLAIMs recorded or clashing, RELEASEs, relays, the LEAVE (R58, R76, R90, R172). -/

namespace Sys2Proof.Proofs
open Sys2Proof.Machine

/-! ### Actions that no sink answers -/

theorem changeOf_self (e : Option DirEntry) : changeOf e e = none := by
  cases e <;> simp [changeOf]

/-- With every tag's entry unchanged, or none of it ACTIVE before or after, no sink and no notice changes (R108, R138). -/
theorem action_silent {f : State → State} {s : State} (quiet : ∀ t,
    changeOf (findTag t s.alloc.dir) (findTag t (f s).alloc.dir) = none ∨ ∃ e, e.active = false ∧
      changeOf (findTag t s.alloc.dir) (findTag t (f s).alloc.dir) = some (.created e)) : action f s = f s := by
  refine forEach_none (fun n => ?_) _
  cases (f s).sinks[n]? with
  | none => rfl
  | some c =>
    dsimp only
    rcases quiet c.cfg.tag with none | ⟨e, pending, created⟩
    · rw [none]
    · rw [created]
      have evaluated : evaluateSink n c e (f s) = f s := if_neg (by simp [pending])
      dsimp only [signalSink]
      rw [evaluated, ite_self]

theorem action_same {f : State → State} {s : State} (same : (f s).alloc.dir = s.alloc.dir) : action f s = f s :=
  action_silent fun t => .inl (by rw [same]; exact changeOf_self _)

theorem findTag_append_of_ne {t : Nat} {dir : List DirEntry} {e : DirEntry} (other : e.tag ≠ t) :
    findTag t (dir ++ [e]) = findTag t dir := by
  simp [findTag, List.find?_append, other]

/-- The claim of a tag that no entry carries. -/
theorem action_claims {f : State → State} {s : State} {e : DirEntry} (pending : e.active = false)
    (absent : ∀ d ∈ s.alloc.dir, d.tag ≠ e.tag) (dir : (f s).alloc.dir = s.alloc.dir ++ [e]) : action f s = f s := by
  refine action_silent fun t => ?_
  by_cases same : e.tag = t
  · subst same
    have after : findTag e.tag (s.alloc.dir ++ [e]) = some e := by
      rw [findTag, List.find?_append, ← findTag, findTag_eq_none.mpr absent]
      simp
    refine .inr ⟨e, pending, ?_⟩
    rw [dir, findTag_eq_none.mpr absent, after]
    rfl
  · exact .inl (by rw [dir, findTag_append_of_ne same]; exact changeOf_self _)

/-! ### The cell counted (R58, R59) -/

/-- The station at the end of slot 7 of its own cell, before its items take effect. -/
def cellCounted (b : Built) (s : State) : State :=
  { s with
    sync := { s.sync with tick := 255, freshPending := s.sync.freshPending && !b.fresh }
    tx := { s.tx with built := none, cellsSent := bump s.tx.cellsSent } }

theorem cellSent_eq (b : Built) (s : State) :
    cellSent b s = b.placed.foldl (fun t p => itemSent b.superframe b.placed p t) (cellCounted b s) := by
  have counted : (let s1 := (atTick 255 s).modTx (fun t => { t with built := none, cellsSent := bump t.cellsSent })
      if b.fresh then s1.modSync (fun y => { y with freshPending := false }) else s1) = cellCounted b s := by
    cases fresh : b.fresh with
    | true => simp [cellCounted, fresh, atTick, State.modTx, State.modSync]
    | false => simp [cellCounted, fresh, atTick, State.modTx]
  rw [← counted]
  rfl

theorem exec_ownCellSent {b : Built} {s : State} (high : s.resetLow = false) (built : s.tx.built = some b) :
    exec .ownCellSent s = .next (b.placed.foldl (fun t p => itemSent b.superframe b.placed p t) (cellCounted b s)) := by
  refine (underReset_high _ high).trans (congrArg _ ?_)
  rw [sentEvent, built]
  exact cellSent_eq b s

theorem exec_ownCellSent_single {b : Built} {p : Placed} {s : State} (high : s.resetLow = false)
    (built : s.tx.built = some b) (single : b.placed = [p]) :
    exec .ownCellSent s = .next (itemSent b.superframe [p] p (cellCounted b s)) := by
  rw [exec_ownCellSent high built, single]
  rfl

/-! ### Own CLAIMs (R76, R104, R105, R117) -/

/-- A CLAIM sent while its source is SEEKING, over a run of the map that stands FREE. -/
def SentOver (n : Nat) (c : Source) (r : Run) (s : State) : Prop :=
  s.sources[n]? = some c ∧ c.state = .seeking ∧ 8 ≤ r.first ∧ 0 < r.count ∧ r.first + r.count ≤ 64 ∧
    ∀ k ∈ runSlots r.first r.count, (s.slot k).use = .free

section
variable {n : Nat} {c : Source} {r : Run} {s : State} {sf : Superframe} {claims : List (Nat × Run)}

theorem SentOver.ready (over' : SentOver n c r s) : c.state = .seeking ∧ runStandsFree s r = true := by
  obtain ⟨-, seeking, low, some, high, free⟩ := over'
  refine ⟨seeking, ?_⟩
  simp [runStandsFree, low, some, high, (runFree_iff s r.first r.count).mpr free]

theorem claimKeeper_eq (over' : SentOver n c r s) : claimKeeper n r s =
    ((findTag c.cfg.tag s.alloc.dir).filter (fun e => decide (e.station < s.id))).map DirEntry.station := by
  unfold claimKeeper
  rw [over'.1]
  exact if_pos over'.ready

theorem claimKeeper_not_seeking (here : s.sources[n]? = some c) (other : c.state ≠ .seeking) : claimKeeper n r s = none := by
  unfold claimKeeper
  rw [here]
  exact if_neg (fun is => other is.1)

theorem claimKeeper_lower {e : DirEntry} (over' : SentOver n c r s) (found : findTag c.cfg.tag s.alloc.dir = some e)
    (lower : e.station < s.id) : claimKeeper n r s = some e.station := by
  rw [claimKeeper_eq over', found]
  simp [lower]

theorem claimKeeper_free (over' : SentOver n c r s) (absent : findTag c.cfg.tag s.alloc.dir = none) :
    claimKeeper n r s = none := by
  rw [claimKeeper_eq over', absent]
  rfl

theorem claimKeeper_higher {e : DirEntry} (over' : SentOver n c r s) (found : findTag c.cfg.tag s.alloc.dir = some e)
    (higher : s.id < e.station) : claimKeeper n r s = none := by
  rw [claimKeeper_eq over', found]
  simp [Nat.le_of_lt higher]

theorem ownClaimSent_free (over' : SentOver n c r s) (absent : findTag c.cfg.tag s.alloc.dir = none) :
    ownClaimSent sf claims n r s = recordClaim sf n c r s := by
  unfold ownClaimSent
  rw [claimKeeper_free over' absent, over'.1]
  refine (if_neg nofun).trans ((if_pos over'.ready).trans ?_)
  rw [absent]

theorem ownClaimSent_higher {e : DirEntry} (over' : SentOver n c r s) (found : findTag c.cfg.tag s.alloc.dir = some e)
    (higher : s.id < e.station) : ownClaimSent sf claims n r s = recordClaim sf n c r (tagVacated e s) := by
  unfold ownClaimSent
  rw [claimKeeper_higher over' found higher, over'.1]
  refine (if_neg nofun).trans ((if_pos over'.ready).trans ?_)
  rw [found]
  exact if_pos higher

theorem ownClaimSent_kept {x : Nat} (kept : claimKeeper n r s = some x) : ownClaimSent sf claims n r s = tellKept claims s := by
  unfold ownClaimSent
  rw [kept]
  exact if_pos rfl

/-- A source that is SEEKING no more takes no effect (R58). -/
theorem ownClaimSent_not_seeking (here : s.sources[n]? = some c) (other : c.state ≠ .seeking) :
    ownClaimSent sf claims n r s = s := by
  unfold ownClaimSent
  rw [claimKeeper_not_seeking here other, here]
  exact (if_neg nofun).trans (if_neg (fun is => other is.1))

theorem recordClaim_sources (here : s.sources[n]? = some c) : (recordClaim sf n c r s).sources =
    s.sources.set n { c with state := .claiming, run := some r, queuedItem := .nothing } := modify_of_getElem? _ here

theorem recordClaim_dir : (recordClaim sf n c r s).alloc.dir = withoutTag c.cfg.tag s.alloc.dir ++
    [⟨c.cfg.tag, s.id, r.first, r.count, c.cfg.priority, false, true⟩] := by
  show withoutTag c.cfg.tag s.alloc.dir ++ [⟨c.cfg.tag, s.id, r.first, r.count, c.cfg.priority, false, s.id == s.id⟩] = _
  rw [beq_self_eq_true]

theorem recordClaim_slot (length : s.alloc.slots.length = 56) {k : Nat} (range : k ∈ runSlots 8 56) :
    (recordClaim sf n c r s).slot k = if k ∈ runSlots r.first r.count then
      { s.slot k with use := .pending s.id c.cfg.tag c.cfg.priority (sf + 2) } else s.slot k := by
  have bounds := mem_runSlots.mp range
  refine (installRun_slot _ _ s k bounds.1 (by omega)).trans ?_
  simp only [mem_runSlots_iff_inRun]

/-! ### CLAIMs whose tag a lower id holds (R105, R134; log entry 43) -/

/-- One source told, if its CLAIM of the cell clashes. -/
def keptTold (claims : List (Nat × Run)) (n : Nat) (t : State) : State :=
  match (claims.find? (fun p => p.1 == n)).bind (fun p => claimKeeper n p.2 t) with
  | some x => tellClashed n x t
  | none => t

theorem tellKept_eq : tellKept claims s = forEach s.sources.length (keptTold claims) s := rfl

theorem keptTold_tells {p : Nat × Run} {x : Nat} (claimed : claims.find? (fun p => p.1 == n) = some p)
    (kept : claimKeeper n p.2 s = some x) : keptTold claims n s = tellClashed n x s := by
  rw [keptTold, claimed, Option.bind_some, kept]

theorem keptTold_other (unclaimed : claims.find? (fun p => p.1 == n) = none) : keptTold claims n s = s := by
  rw [keptTold, unclaimed, Option.bind_none]

/-- One CLAIM in the cell: its source alone is told. -/
theorem tellKept_single {x : Nat} (inside : n < s.sources.length) (kept : claimKeeper n r s = some x) :
    tellKept [(n, r)] s = tellClashed n x s := by
  have first : keptTold [(n, r)] n s = tellClashed n x s := keptTold_tells (p := (n, r)) (by simp) kept
  rw [tellKept_eq, ← first]
  exact forEach_only (fun _ => True) trivial trivial
    (fun m t other _ => keptTold_other (by simp [Ne.symm other])) inside

/-- Two CLAIMs that clash: the sources are told in ascending order, whatever their order in the cell. -/
theorem tellKept_pair {m x y : Nat} {p q : Nat × Run} (less : n < m) (inside : m < s.sources.length)
    (claimed : claims.find? (fun p => p.1 == n) = some p) (claimed' : claims.find? (fun p => p.1 == m) = some q)
    (others : ∀ i, i ≠ n → i ≠ m → claims.find? (fun p => p.1 == i) = none) (kept : claimKeeper n p.2 s = some x)
    (kept' : claimKeeper m q.2 (tellClashed n x s) = some y) :
    tellKept claims s = tellClashed m y (tellClashed n x s) := by
  have loop := forEach_ind (fun k t => t = if k ≤ n then s else if k ≤ m then tellClashed n x s
    else tellClashed m y (tellClashed n x s)) (f := keptTold claims) (s := s) (by simp) ?round s.sources.length
  case round =>
    rintro i t rfl
    rcases Nat.lt_trichotomy i n with before | rfl | after
    · rw [if_pos (by omega), if_pos (by omega), keptTold_other (others i (by omega) (by omega))]
    · rw [if_pos (le_refl i), if_neg (by omega), if_pos (by omega), keptTold_tells claimed kept]
    · simp only [show ¬i ≤ n by omega, show ¬i + 1 ≤ n by omega, if_false]
      rcases Nat.lt_trichotomy i m with before | rfl | past
      · rw [if_pos (by omega), if_pos (by omega), keptTold_other (others i (by omega) (by omega))]
      · rw [if_pos (le_refl i), if_neg (by omega), keptTold_tells claimed' kept']
      · rw [if_neg (by omega), if_neg (by omega), keptTold_other (others i (by omega) (by omega))]
  rw [tellKept_eq, loop, if_neg (by omega), if_neg (by omega)]

end

section
variable {n m x : Nat} {c d : Source} {r q : Run} {e f : DirEntry} {claims : List (Nat × Run)} {s : State}

theorem tellClashed_cellsSent (here : s.sources[n]? = some c)
    (holds : c.state = .seeking ∨ c.state = .claiming ∨ c.state = .owned ∨ c.state = .releasing) :
    (tellClashed n x s).tx.cellsSent = s.tx.cellsSent := by
  rw [tellClashed_eq here holds]
  rfl

theorem tellClashed_id : (tellClashed n x s).id = s.id := by
  rw [State.id, State.id, (tellClashed_frame n x s).2.2.1]

theorem SentOver.after_clash (over' : SentOver m d q s) (here : s.sources[n]? = some c)
    (holds : c.state = .seeking ∨ c.state = .claiming ∨ c.state = .owned ∨ c.state = .releasing) (other : n ≠ m) :
    SentOver m d q (tellClashed n x s) := by
  obtain ⟨there, seeking, low, some, high, free⟩ := over'
  refine ⟨?_, seeking, low, some, high, fun k inside => ?_⟩
  · rw [tellClashed_sources here holds, List.getElem?_set_ne other]
    exact there
  · rw [State.slot, tellClashed_alloc here holds]
    exact free k inside

/-- Two SEEKING sources whose CLAIMs clash, told in ascending order. -/
theorem tellKept_clashes (less : n < m) (overN : SentOver n c r s) (overM : SentOver m d q s)
    (foundN : findTag c.cfg.tag s.alloc.dir = some e) (lowerN : e.station < s.id)
    (foundM : findTag d.cfg.tag s.alloc.dir = some f) (lowerM : f.station < s.id)
    (claimed : claims.find? (fun p => p.1 == n) = some (n, r)) (claimed' : claims.find? (fun p => p.1 == m) = some (m, q))
    (others : ∀ i, i ≠ n → i ≠ m → claims.find? (fun p => p.1 == i) = none) :
    (tellKept claims s).alloc.dir = s.alloc.dir ∧ (tellKept claims s).sources[n]? = some (ClashedFrom c) ∧
    (tellKept claims s).sources[m]? = some (ClashedFrom d) ∧ (s.mgmt.notices = [] →
      (tellKept claims s).mgmt.notices =
        [.source n c.cfg.tag (.clashed c.run e.station), .source m d.cfg.tag (.clashed d.run f.station)]) := by
  have other : n ≠ m := Nat.ne_of_lt less
  have here := overN.1
  have holds : c.state = .seeking ∨ c.state = .claiming ∨ c.state = .owned ∨ c.state = .releasing := .inl overN.2.1
  have holds' : d.state = .seeking ∨ d.state = .claiming ∨ d.state = .owned ∨ d.state = .releasing := .inl overM.2.1
  have overM' : SentOver m d q (tellClashed n e.station s) := overM.after_clash here holds other
  have dir : (tellClashed n e.station s).alloc.dir = s.alloc.dir := by
    rw [tellClashed_alloc here holds]
    rfl
  have kept := claimKeeper_lower overN foundN lowerN
  have kept' := claimKeeper_lower overM' (by rw [dir]; exact foundM) (by rw [tellClashed_id]; exact lowerM)
  rw [tellKept_pair less (List.getElem?_eq_some_iff.mp overM.1).1 claimed claimed' others kept kept']
  refine ⟨?_, ?_, ?_, fun empty => ?_⟩
  · rw [tellClashed_alloc overM'.1 holds']
    exact dir
  · rw [tellClashed_sources overM'.1 holds', List.getElem?_set_ne (Ne.symm other), tellClashed_sources here holds]
    exact set_getElem?_self here
  · rw [tellClashed_sources overM'.1 holds']
    exact set_getElem?_self overM'.1
  · have first : (tellClashed n e.station s).mgmt.notices = [.source n c.cfg.tag (.clashed c.run e.station)] := by
      rw [tellClashed_notices here holds (by rw [empty]; decide), empty]
      rfl
    rw [tellClashed_notices overM'.1 holds' (by simp [first]), first]
    rfl

/-- The two items of a cell whose CLAIMs both clash: the first tells both, the second finds its source CLASHED. -/
theorem itemsSent_clash {sf : Superframe} {placed : List Placed} {n' m' : Nat} {r' q' : Run} {bits bits' : ItemBits}
    (dir : (tellKept (sentClaims placed) s).alloc.dir = s.alloc.dir) {y : Nat} (kept : claimKeeper n' r' s = some y)
    (clashed : (tellKept (sentClaims placed) s).sources[m']? = some (ClashedFrom d)) :
    itemSent sf placed ⟨.claim m', some q', bits'⟩ (itemSent sf placed ⟨.claim n', some r', bits⟩ s) =
      tellKept (sentClaims placed) s := by
  have first : itemSent sf placed ⟨.claim n', some r', bits⟩ s = tellKept (sentClaims placed) s := by
    have told : ownClaimSent sf (sentClaims placed) n' r' s = tellKept (sentClaims placed) s := ownClaimSent_kept kept
    exact (action_same (f := ownClaimSent sf (sentClaims placed) n' r') (by rw [told, dir])).trans told
  have second : ownClaimSent sf (sentClaims placed) m' q' (tellKept (sentClaims placed) s) =
      tellKept (sentClaims placed) s := ownClaimSent_not_seeking clashed nofun
  rw [first]
  exact (action_same (f := ownClaimSent sf (sentClaims placed) m' q') (by rw [second])).trans second

end

/-! ### RELEASEs, relays and the LEAVE -/

theorem enterBackoff_source {n : Nat} {c : Source} {s : State} (here : s.sources[n]? = some c) :
    (enterBackoff n s).sources[n]? = some (Source.leaveFor .backoff (1 + s.id % 4) c) := by
  rw [enterBackoff, (markStale_frame n _).2.2.2.2.2.2.2.2.1]
  exact modify_getElem?_self _ here

theorem ownReleaseSent_eq {n tag : Nat} {e : DirEntry} {s : State} (found : findTag tag s.alloc.dir = some e)
    (mine : e.station = s.id) (active : e.active = true) :
    ownReleaseSent n tag s = enterBackoff n (removeRun .free e s) := by
  unfold ownReleaseSent
  rw [found]
  exact if_pos ⟨mine, active⟩

theorem relaySent_eq {sf : Superframe} {h q : Nat} {r : Relay} {s : State} (here : s.relay h = some r)
    (number : r.reqNo = q) (queued : r.phase = .queued) :
    relaySent sf h q s = setRelay h (some { r with phase := .awaiting sf }) s := by
  unfold relaySent
  rw [here]
  exact if_pos ⟨number, queued⟩

/-- Settles O46: each item of the cell at its owner, from the state with the cell counted. -/
theorem ownCellSentTakesEffect : Obligations.OwnCellSentTakesEffect := by
  intro b s high built sentOver
  refine ⟨fun none => ?empty, fun n c r bits placed length sent absent => ?free,
    ⟨fun n c r bits e placed sent found => ⟨fun lower => ?clash, fun higher ok => ?higher⟩,
      fun n m c d r q bits bits' e f placed sentN sentM other foundN lowerN foundM lowerM empty => ?pair⟩,
    fun n tag stale c e r bits placed ok here found mine active => ?release,
    fun h q r it run bits placed relays low here number queued => ?relay, fun run bits placed leaving => ?leave⟩
  case empty =>
    rw [exec_ownCellSent high built, none]
    rfl
  case free =>
    have over' : SentOver n c r (cellCounted b s) := sent
    have absent' : findTag c.cfg.tag (cellCounted b s).alloc.dir = Option.none := findTag_eq_none.mpr absent
    have kept : withoutTag c.cfg.tag s.alloc.dir = s.alloc.dir := List.filter_eq_self.mpr fun e mem => bne_iff_ne.mpr (absent e mem)
    have recorded : ownClaimSent b.superframe (sentClaims [⟨.claim n, some r, bits⟩]) n r (cellCounted b s) =
        recordClaim b.superframe n c r (cellCounted b s) := ownClaimSent_free over' absent'
    have dir : (recordClaim b.superframe n c r (cellCounted b s)).alloc.dir = s.alloc.dir ++
        [⟨c.cfg.tag, s.id, r.first, r.count, c.cfg.priority, false, true⟩] :=
      recordClaim_dir.trans (congrArg (· ++ _) kept)
    have silent := action_claims (f := ownClaimSent b.superframe (sentClaims [⟨.claim n, some r, bits⟩]) n r)
      (s := cellCounted b s) (e := ⟨c.cfg.tag, s.id, r.first, r.count, c.cfg.priority, false, true⟩) rfl absent
      (by rw [recorded]; exact dir)
    refine ⟨_, (exec_ownCellSent_single high built placed).trans (congrArg _ (silent.trans recorded)),
      recordClaim_sources over'.1, fun k range => recordClaim_slot (s := cellCounted b s) length range, dir, rfl, rfl, rfl, rfl⟩
  case clash =>
    have over' : SentOver n c r (cellCounted b s) := sent
    have holds : c.state = .seeking ∨ c.state = .claiming ∨ c.state = .owned ∨ c.state = .releasing := .inl over'.2.1
    have kept := claimKeeper_lower over' found lower
    have told : ownClaimSent b.superframe (sentClaims [⟨.claim n, some r, bits⟩]) n r (cellCounted b s) =
        tellClashed n e.station (cellCounted b s) :=
      (ownClaimSent_kept kept).trans (tellKept_single (List.getElem?_eq_some_iff.mp over'.1).1 kept)
    have alloc := tellClashed_alloc (x := e.station) over'.1 holds
    have silent := action_same (f := ownClaimSent b.superframe (sentClaims [⟨.claim n, some r, bits⟩]) n r)
      (s := cellCounted b s) (by rw [told, alloc]; rfl)
    refine ⟨_, (exec_ownCellSent_single high built placed).trans (congrArg _ (silent.trans told)),
      tellClashed_sources over'.1 holds, alloc, tellClashed_faultHigh over'.1 holds, fun empty => ?_,
      (tellClashed_frame n e.station _).2.2.2.2.2.2.2.1, tellClashed_cellsSent over'.1 holds⟩
    have empty' : (cellCounted b s).mgmt.notices = [] := empty
    rw [tellClashed_notices over'.1 holds (by rw [empty']; decide), empty']
    rfl
  case higher =>
    have over' : SentOver n c r (cellCounted b s) := sent
    have carries := (findTag_mem found).2
    have recorded : ownClaimSent b.superframe (sentClaims [⟨.claim n, some r, bits⟩]) n r (cellCounted b s) =
        recordClaim b.superframe n c r (tagVacated e (cellCounted b s)) := ownClaimSent_higher over' found higher
    have alloc : (itemSent b.superframe [⟨.claim n, some r, bits⟩] ⟨.claim n, some r, bits⟩ (cellCounted b s)).alloc =
        (recordClaim b.superframe n c r (tagVacated e (cellCounted b s))).alloc :=
      (action_frame _ _).2.2.2.2.2.2.2.2.1.trans (congrArg State.alloc recorded)
    have sources : (itemSent b.superframe [⟨.claim n, some r, bits⟩] ⟨.claim n, some r, bits⟩ (cellCounted b s)).sources =
        (recordClaim b.superframe n c r (tagVacated e (cellCounted b s))).sources :=
      (action_frame _ _).2.2.2.2.2.2.2.2.2.1.trans (congrArg State.sources recorded)
    refine ⟨_, exec_ownCellSent_single high built placed, ?_, fun k range => ?_, ?_, ?_⟩
    · rw [sources]
      exact recordClaim_sources (s := tagVacated e (cellCounted b s)) over'.1
    · have bounds := mem_runSlots.mp range
      have length : (tagVacated e (cellCounted b s)).alloc.slots.length = 56 :=
        (setRun_length e.first e.count .free s.alloc.slots).trans ok.2.1
      have vacated : (tagVacated e (cellCounted b s)).slot k =
          if k ∈ runSlots e.first e.count then { s.slot k with use := .free } else s.slot k := by
        refine (removeRun_slot .free e _ k bounds.1 (by show k - 8 < s.alloc.slots.length; rw [ok.2.1]; omega)).trans ?_
        simp only [mem_runSlots_iff_inRun]
        rfl
      rw [State.slot, alloc]
      refine (recordClaim_slot length range).trans ?_
      rw [vacated]
      by_cases inR : k ∈ runSlots r.first r.count
      · rw [if_pos inR, if_pos inR]
        split <;> rfl
      · rw [if_neg inR, if_neg inR]
        split <;> rfl
    · rw [alloc]
      refine recordClaim_dir.trans (congrArg (· ++ _) ?_)
      show withoutTag c.cfg.tag (withoutTag e.tag s.alloc.dir) = _
      rw [carries, withoutTag, withoutTag, List.filter_filter]
      simp
    · rw [alloc]
      rfl
  case pair =>
    have overN : SentOver n c r (cellCounted b s) := sentN
    have overM : SentOver m d q (cellCounted b s) := sentM
    have kept := claimKeeper_lower overN foundN lowerN
    have claimed : (sentClaims b.placed).find? (fun p => p.1 == n) = some (n, r) := by
      rw [placed]
      simp [sentClaims]
    have claimed' : (sentClaims b.placed).find? (fun p => p.1 == m) = some (m, q) := by
      rw [placed]
      simp [sentClaims, other]
    have others (i : Nat) (hn : i ≠ n) (hm : i ≠ m) : (sentClaims b.placed).find? (fun p => p.1 == i) = Option.none := by
      rw [placed]
      simp [sentClaims, Ne.symm hn, Ne.symm hm]
    have ran : exec .ownCellSent s = .next (itemSent b.superframe b.placed ⟨.claim m, some q, bits'⟩
        (itemSent b.superframe b.placed ⟨.claim n, some r, bits⟩ (cellCounted b s))) := by
      rw [exec_ownCellSent high built]
      refine congrArg _ ((congrArg (fun l => List.foldl _ (cellCounted b s) l) placed).trans rfl)
    intro told
    rcases Nat.lt_or_gt_of_ne other with less | more
    · obtain ⟨dir, -, clashed, notices⟩ := tellKept_clashes less overN overM foundN lowerN foundM lowerM claimed claimed' others
      rw [ran, itemsSent_clash dir kept clashed]
      exact ⟨_, rfl, (notices empty).trans (if_pos less).symm⟩
    · obtain ⟨dir, clashed, -, notices⟩ := tellKept_clashes more overM overN foundM lowerM foundN lowerN claimed' claimed
        (fun i hm hn => others i hn hm)
      rw [ran, itemsSent_clash dir kept clashed]
      exact ⟨_, rfl, (notices empty).trans (if_neg (Nat.not_lt_of_gt more)).symm⟩
  case release =>
    have sent : ownReleaseSent n tag (cellCounted b s) = enterBackoff n (removeRun .free e (cellCounted b s)) :=
      ownReleaseSent_eq found mine active
    have sources : (itemSent b.superframe [⟨.release n tag r stale, some r, bits⟩] ⟨.release n tag r stale, some r, bits⟩
        (cellCounted b s)).sources = (enterBackoff n (removeRun .free e (cellCounted b s))).sources :=
      (action_frame _ _).2.2.2.2.2.2.2.2.2.1.trans (congrArg State.sources sent)
    have alloc : (itemSent b.superframe [⟨.release n tag r stale, some r, bits⟩] ⟨.release n tag r stale, some r, bits⟩
        (cellCounted b s)).alloc = (removeRun .free e (cellCounted b s)).alloc :=
      ((action_frame _ _).2.2.2.2.2.2.2.2.1.trans (congrArg State.alloc sent)).trans
        (enterBackoff_frame n _).2.2.2.2.2.2.2.1
    obtain ⟨mem, carries⟩ := findTag_mem found
    refine ⟨_, Source.leaveFor .backoff (1 + s.id % 4) c, exec_ownCellSent_single high built placed, ?_, rfl, rfl, rfl, rfl,
      rfl, ?_, fun k inside => ?_⟩
    · rw [sources]
      exact enterBackoff_source (s := removeRun .free e (cellCounted b s)) here
    · rw [alloc, findTag_eq_none]
      intro d there
      have there' : d ∈ withoutTag e.tag s.alloc.dir := there
      rw [carries] at there'
      simpa [withoutTag] using (List.mem_filter.mp there').2
    · have range := MapOk.slot_range ok mem (mem_runSlots_iff_inRun.mp inside)
      rw [State.slot, alloc]
      have removed := removeRun_slot .free e (cellCounted b s) k range.1
        (by show k - 8 < s.alloc.slots.length; rw [ok.2.1]; omega)
      rw [if_pos (mem_runSlots_iff_inRun.mp inside)] at removed
      exact congrArg Slot.use removed
  case relay =>
    have sent : itemSent b.superframe [⟨it, run, bits⟩] ⟨it, run, bits⟩ (cellCounted b s) =
        relaySent b.superframe h q (cellCounted b s) := by
      rcases relays with ⟨x, sub, i, rfl⟩ | ⟨x, act, i, rfl⟩ <;> rfl
    have here' : (cellCounted b s).relay h = some r := here
    refine ⟨_, (exec_ownCellSent_single high built placed).trans
      (congrArg _ (sent.trans (relaySent_eq here' number queued))), rfl, rfl, rfl, rfl⟩
  case leave =>
    have state : (cellCounted b s).sync.state = .leaving := leaving
    have sent : itemSent b.superframe [⟨.leave, run, bits⟩] ⟨.leave, run, bits⟩ (cellCounted b s) =
        teardown (notifySync .left) (cellCounted b s) := if_pos state
    refine ⟨_, (exec_ownCellSent_single high built placed).trans (congrArg _ sent), ?_, fun empty =>
      teardown_head (n := .sync .left .listen 0 0) rfl empty⟩
    have torn : TornDown (cellCounted b s) (teardown (notifySync .left) (cellCounted b s)) :=
      teardown_tornDown (notifySync_posts _) _
    exact torn

end Sys2Proof.Proofs
end

section
/-! The slot map and the directory through the upkeep of a boundary: which runs a round touches (R92 to R96). -/

namespace Sys2Proof.Proofs

open Sys2Proof.Machine

/-! ### What a round on one entry leaves -/

/-- An operation that leaves the slots with `K` and the entries of the tags with `G` as they were. -/
structure Leaves (K G : Nat → Prop) (s t : State) : Prop where
  length : t.alloc.slots.length = s.alloc.slots.length
  slot : s.alloc.slots.length = 56 → ∀ k, 8 ≤ k → k < 64 → K k → t.slot k = s.slot k
  dir : ∀ d : DirEntry, G d.tag → (d ∈ t.alloc.dir ↔ d ∈ s.alloc.dir)

namespace Leaves

variable {K G : Nat → Prop}

theorem refl (s : State) : Leaves K G s s := ⟨rfl, fun _ _ _ _ _ => rfl, fun _ _ => .rfl⟩

theorem trans {s t u : State} (h : Leaves K G s t) (k : Leaves K G t u) : Leaves K G s u :=
  ⟨k.length.trans h.length,
    fun full j low high isK => (k.slot (h.length.trans full) j low high isK).trans (h.slot full j low high isK),
    fun d isG => (k.dir d isG).trans (h.dir d isG)⟩

theorem of_alloc {s t : State} (same : t.alloc = s.alloc) : Leaves K G s t := by
  refine ⟨by rw [same], fun _ k _ _ _ => ?_, fun d _ => by rw [same]⟩
  unfold State.slot
  rw [same]

theorem foldl {f : State → DirEntry → State} (l : List DirEntry) (s : State)
    (rounds : ∀ t d, d ∈ l → Leaves K G t (f t d)) : Leaves K G s (l.foldl f s) := by
  induction l generalizing s with
  | nil => exact refl s
  | cons d rest ih =>
    exact (rounds s d List.mem_cons_self).trans (ih _ (fun t e later => rounds t e (List.mem_cons_of_mem d later)))

/-- In a loop over entries of single tags, the round of one entry starts from what the others before it leave, and those
after it leave what it made. -/
theorem foldl_once {f : State → DirEntry → State} {l : List DirEntry} {e : DirEntry} (single : (l.map DirEntry.tag).Nodup)
    (mem : e ∈ l) (others : ∀ t d, d ∈ l → d.tag ≠ e.tag → Leaves K G t (f t d)) (s : State) :
    ∃ t, Leaves K G s t ∧ Leaves K G (f t e) (l.foldl f s) := by
  obtain ⟨before, after, rfl⟩ := List.append_of_mem mem
  rw [List.map_append, List.map_cons, List.nodup_append, List.nodup_cons] at single
  obtain ⟨-, ⟨notAfter, -⟩, apart⟩ := single
  refine ⟨before.foldl f s, .foldl before s fun t d earlier => ?_, ?_⟩
  · exact others t d (by simp [earlier]) (apart _ (List.mem_map_of_mem earlier) _ List.mem_cons_self)
  · rw [List.foldl_append, List.foldl_cons]
    refine .foldl after _ fun t d later => others t d (by simp [later]) fun same => notAfter ?_
    exact same ▸ List.mem_map_of_mem later

end Leaves

/-- An entry whose run has no slot with `K` and whose tag is none with `G`. -/
def Apart (K G : Nat → Prop) (e : DirEntry) : Prop := (∀ k, K k → inRun e.first e.count k = false) ∧ ¬G e.tag

theorem ne_of_not_inRun {first count k : Nat} (outside : inRun first count k = false) : ¬inRun first count k = true := by
  simp [outside]

section
variable {K G : Nat → Prop} {e : DirEntry}

theorem mem_withoutTag {tag : Nat} {d : DirEntry} {dir : List DirEntry} :
    d ∈ withoutTag tag dir ↔ d ∈ dir ∧ d.tag ≠ tag := by
  simp [withoutTag]

theorem mem_withEntry {e d : DirEntry} {dir : List DirEntry} : d ∈ withEntry e dir ↔ (d ∈ dir ∧ d.tag ≠ e.tag) ∨ d = e := by
  simp [withEntry, withoutTag]

theorem installRun_leaves (use : SlotUse) (apart : Apart K G e) (s : State) : Leaves K G s (installRun use e s) := by
  refine ⟨by simp, fun full k low high isK => ?_, fun d isG => ?_⟩
  · rw [installRun_slot use e s k low (by omega), if_neg (ne_of_not_inRun (apart.1 k isK))]
  · have other : d.tag ≠ e.tag := fun same => apart.2 (same ▸ isG)
    refine mem_withEntry.trans ⟨?_, fun there => .inl ⟨there, other⟩⟩
    rintro (⟨there, -⟩ | rfl)
    · exact there
    · exact absurd rfl other

/-- A peer's run matures in its own slots and its own entry (R93). -/
theorem maturePeer_leaves (apart : Apart K G e) (s : State) : Leaves K G s (maturePeer e s) :=
  installRun_leaves (e := { e with active := true }) _ apart s

/-- An own run matures in its own slots and its own entry (R94). -/
theorem matureOwn_leaves (n : Nat) (apart : Apart K G e) (s : State) : Leaves K G s (matureOwn n e s) :=
  (installRun_leaves (e := { e with active := true }) _ apart s).trans (.of_alloc (matureOwn_alloc n e s))

/-- A lease counts down or lapses in its own slots and its own entry (R95). -/
theorem leaseRun_leaves (apart : Apart K G e) (s : State) : Leaves K G s (leaseRun e s) := by
  unfold leaseRun
  split
  · refine ⟨mapSlots_length _ 8 _, fun full k low high isK => ?_, fun d isG => mem_withoutTag.trans ?_⟩
    · rw [lapseRun_slot e s low (by omega), if_neg (ne_of_not_inRun (apart.1 k isK))]
    · exact and_iff_left fun same => apart.2 (same ▸ isG)
  · refine ⟨setRun_length _ _ _ _, fun full k low high isK => ?_, fun _ _ => .rfl⟩
    refine (setRun_slot e.first e.count k _ s.alloc.slots low (by omega)).trans ?_
    exact if_neg (ne_of_not_inRun (apart.1 k isK))

/-- Entries of another tag keep apart from one entry's run and tag. -/
theorem apart_of_ne {s : State} {d : DirEntry} (ok : MapOk s) (memE : e ∈ s.alloc.dir) (mem : d ∈ s.alloc.dir)
    (other : d.tag ≠ e.tag) : Apart (fun k => inRun e.first e.count k = true) (· = e.tag) d := by
  refine ⟨fun k inE => ?_, other⟩
  by_contra inD
  exact other (by rw [MapOk.sameEntry ok mem memE (by simpa using inD) inE])

/-- Every entry keeps apart from the slots without a holder. -/
theorem apart_of_vacant {s : State} {d : DirEntry} (ok : MapOk s) (mem : d ∈ s.alloc.dir) :
    Apart (fun k => (s.slot k).use.holder = none) (fun _ => False) d := by
  refine ⟨fun k vacant => ?_, not_false⟩
  by_contra inD
  cases (accountedBy_holder (MapOk.carries ok mem (by simpa using inD))).symm.trans vacant

end

/-! ### The maturity step in its two loops (R93, R94) -/

/-- The peers' runs that mature at the boundary (R93). -/
def ripePeers (s : State) : List DirEntry :=
  s.alloc.dir.filter (fun e => e.station != s.id && maturesAt s.sync.superframe s e)

/-- The round of source `n` for the own runs that mature at the boundary into `m` (R94). -/
def ownRound (m : Superframe) (n : Nat) (t : State) : State :=
  match (t.sources[n]?).bind (fun c => findTag c.cfg.tag t.alloc.dir) with
  | some e => if e.station = t.id ∧ maturesAt m t e = true then matureOwn n e t else t
  | none => t

theorem maturityStep_eq (s : State) : maturityStep s = forEach s.sources.length (ownRound s.sync.superframe)
    ((ripePeers s).foldl (fun t e => maturePeer e t) s) := rfl

/-- What of an entry the maturity step keeps: only whether it is ACTIVE changes. -/
structure SameRuns (s t : State) : Prop where
  id : t.id = s.id
  dir : ∀ d ∈ t.alloc.dir, ∃ b ∈ s.alloc.dir, b.tag = d.tag ∧ b.station = d.station ∧ b.first = d.first ∧ b.count = d.count

namespace SameRuns

theorem refl (s : State) : SameRuns s s := ⟨rfl, fun d mem => ⟨d, mem, rfl, rfl, rfl, rfl⟩⟩

theorem matured {s t u : State} (same : SameRuns s t) {e : DirEntry} (mem : e ∈ t.alloc.dir) (id : u.id = t.id)
    (dir : u.alloc.dir = withEntry { e with active := true } t.alloc.dir) : SameRuns s u := by
  refine ⟨id.trans same.id, fun d there => ?_⟩
  rw [dir, mem_withEntry] at there
  rcases there with ⟨old, -⟩ | rfl
  · exact same.dir d old
  · exact same.dir e mem

/-- With every own entry of the start apart, so is every own entry found later. -/
theorem apart {K G : Nat → Prop} {s t : State} (same : SameRuns s t)
    (all : ∀ b ∈ s.alloc.dir, b.station = s.id → Apart K G b) {d : DirEntry} (mem : d ∈ t.alloc.dir) (mine : d.station = t.id) :
    Apart K G d := by
  obtain ⟨b, there, tag, station, first, count⟩ := same.dir d mem
  have isApart := all b there (by rw [station, mine, same.id])
  unfold Apart at isApart ⊢
  rw [tag, first, count] at isApart
  exact isApart

end SameRuns

theorem maturePeers_sameRuns (s : State) : SameRuns s ((ripePeers s).foldl (fun t e => maturePeer e t) s) := by
  have all (l : List DirEntry) (t : State) (same : SameRuns s t) (mem : ∀ e ∈ l, e ∈ s.alloc.dir) :
      SameRuns s (l.foldl (fun t e => maturePeer e t) t) := by
    refine List.foldlRecOn l _ same fun t same e later => ⟨same.id, fun d there => ?_⟩
    rcases mem_withEntry.mp (show d ∈ withEntry { e with active := true } t.alloc.dir from there) with ⟨old, -⟩ | rfl
    · exact same.dir d old
    · exact ⟨e, mem e later, rfl, rfl, rfl, rfl⟩
  exact all _ s (.refl s) fun e mem => (List.mem_filter.mp mem).1

theorem ownRound_sameRuns {s t : State} (m : Superframe) (n : Nat) (same : SameRuns s t) :
    SameRuns s (ownRound m n t) := by
  unfold ownRound
  split
  case h_1 e found =>
    split
    · obtain ⟨c, -, tagged⟩ := Option.bind_eq_some_iff.mp found
      exact same.matured (findTag_mem tagged).1 (matureOwn_id n e t) (by rw [matureOwn_alloc]; rfl)
    · exact same
  case h_2 => exact same

/-- Where the own entries keep apart, so does the loop over the own runs. -/
theorem ownRounds_leaves {K G : Nat → Prop} {s t : State} (m : Superframe) (same : SameRuns s t)
    (all : ∀ b ∈ s.alloc.dir, b.station = s.id → Apart K G b) (n : Nat) : Leaves K G t (forEach n (ownRound m) t) := by
  refine (forEach_inv (fun u => SameRuns s u ∧ Leaves K G t u) _ _ _ ⟨same, .refl t⟩ fun i u ⟨same, left⟩ =>
    ⟨ownRound_sameRuns m i same, left.trans ?_⟩).2
  unfold ownRound
  split
  case h_1 e found =>
    split
    case isTrue due =>
      obtain ⟨c, -, tagged⟩ := Option.bind_eq_some_iff.mp found
      exact matureOwn_leaves i (same.apart all (findTag_mem tagged).1 due.1) u
    case isFalse => exact .refl u
  case h_2 => exact .refl u

/-! ### The leases and what follows (R95, R96) -/

theorem leaseRuns_leaves {K G : Nat → Prop} {s : State} (all : ∀ e ∈ heldRuns s, Apart K G e) (t : State) :
    Leaves K G t ((heldRuns s).foldl (fun t e => leaseRun e t) t) :=
  .foldl _ t fun u d mem => leaseRun_leaves (all d mem) u

theorem mem_heldRuns {s : State} {e : DirEntry} : e ∈ heldRuns s ↔
    e ∈ s.alloc.dir ∧ e.active = true ∧ e.station ≠ s.id := by
  simp [heldRuns]

theorem mem_ripePeers {s : State} {e : DirEntry} : e ∈ ripePeers s ↔
    e ∈ s.alloc.dir ∧ e.station ≠ s.id ∧ maturesAt s.sync.superframe s e = true := by
  simp [ripePeers]

/-- A slot after the stray rule and with its carrier count cleared (R96, R13). -/
def settledSlot (x : Slot) : Slot := { straySlot x with carrier := 0 }

/-- A slot after the upkeep, from what the leases leave of it. -/
theorem upkeptSlots_slot {s : State} (ok : MapOk s) {k : Nat} (low : 8 ≤ k) (high : k < 64) :
    (upkeptSlots s).slot k = settledSlot (((heldRuns s).foldl (fun t e => leaseRun e t) (maturityStep s)).slot k) := by
  have leased := leases_mapKept s ok
  unfold upkeptSlots
  revert leased
  generalize (heldRuns s).foldl (fun t e => leaseRun e t) (maturityStep s) = t
  intro leased
  have inMap : k - 8 < t.alloc.slots.length := by rw [leased.2.1]; omega
  simp [State.slot, clearCarrier, strayStep, State.modAlloc, countAlloc, settledSlot, List.getD_eq_getElem?_getD,
    List.getElem?_eq_getElem inMap]

theorem upkeptSlots_dir (s : State) : (upkeptSlots s).alloc.dir =
    ((heldRuns s).foldl (fun t e => leaseRun e t) (maturityStep s)).alloc.dir := rfl

theorem upkeepTables_alloc (s : State) : (upkeepTables s).alloc = (upkeptSlots s).alloc := by
  rw [upkeepTables_eq]
  refine forEach_inv (fun t => t.alloc = (upkeptSlots s).alloc) _ _ _ rfl fun n t same => ?_
  unfold refreshRound
  split
  · simpa using same
  · exact same

/-! ### The station at the upkeep -/

/-- The station as the upkeep of a boundary finds it, the frame start and the sync controller's part of the boundary done
(R2). -/
def atUpkeep (sh : List (List Bool)) (s : State) : State := syncAtBoundary (frameBegun sh s)

section
variable {s : State} (sh : List (List Bool))

theorem founds_of_takesCells (takes : s.sync.state.takesCells = true) : founds s = false :=
  founds_eq_false_of_state fun is => by rw [is] at takes; cases takes

theorem crosses_of_takesCells (takes : s.sync.state.takesCells = true) (last : s.sync.frameIndex = 31) :
    crossesBoundary s = true :=
  crossesBoundary_eq_true (timerRuns_of_takesCells takes) last (founds_of_takesCells takes)

theorem atUpkeep_alloc : (atUpkeep sh s).alloc = s.alloc := by
  obtain ⟨-, alloc, -⟩ := frameBegun_frame sh s
  simp [atUpkeep, alloc]

theorem atUpkeep_id : (atUpkeep sh s).id = s.id := by
  obtain ⟨-, -, -, -, -, loader, -⟩ := frameBegun_frame sh s
  simp [atUpkeep, State.id, loader]

theorem atUpkeep_superframe (takes : s.sync.state.takesCells = true) (last : s.sync.frameIndex = 31) :
    (atUpkeep sh s).sync.superframe = nextSuperframe s := by
  have not := founds_of_takesCells takes
  unfold atUpkeep
  rw [syncAtBoundary_sync]
  show (frameBegun sh s).sync.superframe = _
  rw [(frameBegun_frame sh s).1, (frameSync_position not).2.2.2.2, if_pos last]
  rfl

theorem atUpkeep_slot (k : Nat) : (atUpkeep sh s).slot k = s.slot k := by
  unfold State.slot
  rw [atUpkeep_alloc]

theorem atUpkeep_mapOk (ok : MapOk s) : MapOk (atUpkeep sh s) := MapKept.of_alloc (atUpkeep_alloc sh) ok

theorem frameSync_takesCells (takes : s.sync.state.takesCells = true) : (frameSync s).sync.state.takesCells = true := by
  rw [frameSync_step (founds_of_takesCells takes)]
  have state : (frameStepped s).sync.state = s.sync.state := by rw [frameStepped_sync]; rfl
  unfold syncAtFrameStart
  rw [state]
  split
  case h_1 is => rw [is] at takes; cases takes
  case h_2 is => rw [is] at takes; cases takes
  case h_3 is =>
    split
    · rw [lockFromLearn_sync]; rfl
    · rw [state]; exact takes
  case h_4 => rw [state]; exact takes

theorem atUpkeep_takesCells (takes : s.sync.state.takesCells = true) : (atUpkeep sh s).sync.state.takesCells = true := by
  have begun := frameSync_takesCells takes
  unfold atUpkeep
  rw [syncAtBoundary_sync, (frameBegun_frame sh s).1]
  dsimp only
  split
  · rfl
  · exact begun

/-- A boundary changes the sinks and the map in its upkeep alone (R2). -/
theorem frameStarted_upkept (takes : s.sync.state.takesCells = true) (last : s.sync.frameIndex = 31) :
    (frameStarted sh s).alloc = (upkeptSlots (atUpkeep sh s)).alloc ∧
    (frameStarted sh s).sinks = (action upkeepTables (atUpkeep sh s)).sinks := by
  have upkept : upkeep (syncAtBoundary (frameBegun sh s)) = action upkeepTables (atUpkeep sh s) :=
    if_pos (atUpkeep_takesCells sh takes)
  rw [frameStarted_boundary (crosses_of_takesCells takes last)]
  unfold boundary
  dsimp only
  rw [upkept, ← upkeepTables_alloc]
  split <;> simp

end

end Sys2Proof.Proofs
end

section
/-! The upkeep of a boundary: the stray rule, a peer's run that matures, a lease that counts down or lapses (R93 to R96). -/

namespace Sys2Proof.Proofs

open Sys2Proof.Machine

/-! ### The stray rule -/

theorem settledSlot_carrier (x : Slot) : (settledSlot x).carrier = 0 := rfl

theorem settledSlot_free {x : Slot} (free : x.use = .free) :
    (settledSlot x).use = if 4 ≤ x.carrier then .stray else .free := by
  unfold settledSlot straySlot
  rw [free]
  dsimp only
  split
  · rfl
  · exact free

theorem settledSlot_stray {x : Slot} (stray : x.use = .stray) :
    (settledSlot x).use = if x.carrier = 0 then .free else .stray := by
  unfold settledSlot straySlot
  rw [stray]
  dsimp only
  split
  · rfl
  · exact stray

theorem settledSlot_held {x : Slot} (held : x.use.holder ≠ none) : settledSlot x = ⟨x.use, 0⟩ := by
  unfold settledSlot straySlot
  split
  case h_1 free => rw [free] at held; exact absurd rfl held
  case h_2 stray => rw [stray] at held; exact absurd rfl held
  case h_3 => rfl

/-- A slot without a holder comes to the stray rule as the boundary finds it. -/
theorem upkeptSlots_vacant {s : State} (ok : MapOk s) {k : Nat} (low : 8 ≤ k) (high : k < 64)
    (vacant : (s.slot k).use.holder = none) : (upkeptSlots s).slot k = settledSlot (s.slot k) := by
  have ripened : Leaves (fun k => (s.slot k).use.holder = none) (fun _ => False) s (maturityStep s) := by
    refine Leaves.trans (.foldl _ s fun t e mem => maturePeer_leaves (apart_of_vacant ok (mem_ripePeers.mp mem).1) t) ?_
    exact ownRounds_leaves _ (maturePeers_sameRuns s) (fun b there _ => apart_of_vacant ok there) _
  have leased := ripened.trans (leaseRuns_leaves (fun e mem => apart_of_vacant ok (mem_heldRuns.mp mem).1) _)
  rw [upkeptSlots_slot ok low high, leased.slot ok.2.1 k low high vacant]

/-- Settles O25: a slot without a holder lies in no run, so the stray rule alone changes it; every count is cleared. -/
theorem boundaryAppliesTheStrayRule : Obligations.BoundaryAppliesTheStrayRule := by
  intro sh s high ok takes last
  refine ⟨_, exec_frameStart high (timerRuns_of_takesCells takes), fun k range => ?_⟩
  obtain ⟨low, top⟩ := mem_runSlots.mp range
  have okV := atUpkeep_mapOk sh ok
  have slot : (frameStarted sh s).slot k = (upkeptSlots (atUpkeep sh s)).slot k := by
    unfold State.slot
    rw [(frameStarted_upkept sh takes last).1]
  have vacant (none : (s.slot k).use.holder = none) : (frameStarted sh s).slot k = settledSlot (s.slot k) := by
    rw [slot, upkeptSlots_vacant okV low (by omega) (by rw [atUpkeep_slot]; exact none), atUpkeep_slot]
  refine ⟨?_, fun free => ?_, fun stray => ?_⟩
  · rw [slot, upkeptSlots_slot okV low (by omega)]
    rfl
  · rw [vacant (by rw [free]; rfl), settledSlot_free free]
  · rw [vacant (by rw [stray]; rfl), settledSlot_stray stray]

/-! ### The run of a peer -/

section
variable {s : State} {e : DirEntry}

theorem tag_ne_of_ne (ok : MapOk s) (memE : e ∈ s.alloc.dir) {d : DirEntry} (mem : d ∈ s.alloc.dir) (other : d ≠ e) :
    d.tag ≠ e.tag := fun same => other (entry_unique ok.1 mem memE same)

/-- An entry keeps apart from every other's run and tag. -/
theorem apart_of_other (ok : MapOk s) (memE : e ∈ s.alloc.dir) {d : DirEntry} (mem : d ∈ s.alloc.dir) (other : d ≠ e) :
    Apart (fun k => inRun e.first e.count k = true) (· = e.tag) d :=
  apart_of_ne ok memE mem (tag_ne_of_ne ok memE mem other)

/-- The own runs mature apart from a peer's. -/
theorem ownRounds_leave_peer (ok : MapOk s) (memE : e ∈ s.alloc.dir) (peer : e.station ≠ s.id) (m : Superframe) (n : Nat) :
    Leaves (fun k => inRun e.first e.count k = true) (· = e.tag)
      ((ripePeers s).foldl (fun t e => maturePeer e t) s)
      (forEach n (ownRound m) ((ripePeers s).foldl (fun t e => maturePeer e t) s)) :=
  ownRounds_leaves m (maturePeers_sameRuns s)
    (fun _ there mine => apart_of_other ok memE there fun same => peer (same ▸ mine)) n

/-- What stands of an entry's run before the stray rule, where it is held, stands after the upkeep. -/
theorem upkeptSlots_settled (ok : MapOk s) {use : SlotUse} (held : use.holder ≠ none) {k : Nat} (low : 8 ≤ k) (high : k < 64)
    (is : (((heldRuns s).foldl (fun t e => leaseRun e t) (maturityStep s)).slot k).use = use) :
    (upkeptSlots s).slot k = ⟨use, 0⟩ := by
  rw [upkeptSlots_slot ok low high, settledSlot_held (by rw [is]; exact held), is]

/-- The upkeep makes a peer's PENDING run HELD with lease 24, its entry ACTIVE (R93). -/
theorem upkeptSlots_matured (ok : MapOk s) (mem : e ∈ s.alloc.dir) (peer : e.station ≠ s.id)
    (ripe : maturesAt s.sync.superframe s e = true) :
    { e with active := true } ∈ (upkeptSlots s).alloc.dir ∧
    ∀ k, inRun e.first e.count k = true → (upkeptSlots s).slot k = ⟨.held e.station e.tag e.priority 24, 0⟩ := by
  obtain ⟨t, before, after⟩ := Leaves.foldl_once (K := fun k => inRun e.first e.count k = true) (G := (· = e.tag))
    (f := fun t e => maturePeer e t) (filter_tags_nodup ok.1) (mem_ripePeers.mpr ⟨mem, peer, ripe⟩)
    (fun t d there other => maturePeer_leaves (apart_of_ne ok mem (mem_ripePeers.mp there).1 other) t) s
  have inactive := active_of_maturesAt ripe
  have leased := (after.trans (ownRounds_leave_peer ok mem peer _ _)).trans (leaseRuns_leaves (s := s) (fun d there => by
    obtain ⟨memD, active, -⟩ := mem_heldRuns.mp there
    exact apart_of_other ok mem memD fun same => by rw [same, inactive] at active; cases active) (maturityStep s))
  have full : t.alloc.slots.length = 56 := before.length.trans ok.2.1
  refine ⟨(leased.dir { e with active := true } rfl).mpr (mem_withEntry.mpr (.inr rfl)), fun k inside => ?_⟩
  obtain ⟨low, high⟩ := MapOk.slot_range ok mem inside
  refine upkeptSlots_settled ok (use := .held e.station e.tag e.priority 24) nofun low high ?_
  rw [leased.slot (by simpa [maturePeer] using full) k low high inside]
  exact congrArg Slot.use ((installRun_slot _ _ t k low (by omega)).trans (if_pos inside))

/-- A HELD run of a peer reaches the leases as the boundary finds it (R95). -/
theorem upkept_leased (ok : MapOk s) (mem : e ∈ s.alloc.dir) (peer : e.station ≠ s.id) (active : e.active = true) :
    ∃ t, t.alloc.slots.length = 56 ∧ leaseOf t e = leaseOf s e ∧
      Leaves (fun k => inRun e.first e.count k = true) (· = e.tag) s t ∧
      Leaves (fun k => inRun e.first e.count k = true) (· = e.tag) (leaseRun e t)
        ((heldRuns s).foldl (fun t e => leaseRun e t) (maturityStep s)) := by
  have ripened : Leaves (fun k => inRun e.first e.count k = true) (· = e.tag) s (maturityStep s) := by
    refine Leaves.trans (.foldl _ s fun t d there => maturePeer_leaves ?_ t) (ownRounds_leave_peer ok mem peer _ _)
    obtain ⟨memD, -, ripe⟩ := mem_ripePeers.mp there
    exact apart_of_other ok mem memD fun same => by
      cases (active_of_maturesAt (same ▸ ripe)).symm.trans active
  obtain ⟨t, before, after⟩ := Leaves.foldl_once (f := fun t e => leaseRun e t) (filter_tags_nodup ok.1)
    (mem_heldRuns.mpr ⟨mem, active, peer⟩)
    (fun t d there other => leaseRun_leaves (apart_of_ne ok mem (mem_heldRuns.mp there).1 other) t) (maturityStep s)
  have reached := ripened.trans before
  refine ⟨t, reached.length.trans ok.2.1, ?_, reached, after⟩
  have inside : inRun e.first e.count e.first = true := by
    have bounds := MapOk.bounds ok mem
    exact inRun_iff.mpr ⟨Nat.le_refl _, by omega⟩
  obtain ⟨low, high⟩ := MapOk.slot_range ok mem inside
  unfold leaseOf
  rw [reached.slot ok.2.1 _ low high inside]

end


/-! ### Leases -/

theorem settledSlot_lapsed (x : Slot) :
    settledSlot (lapseSlot x) = ⟨if 4 ≤ x.carrier then .stray else .free, 0⟩ := by
  unfold lapseSlot settledSlot straySlot
  by_cases many : 4 ≤ x.carrier
  · simp [many, show x.carrier ≠ 0 by omega]
  · simp [many]

theorem leaseOf_eq {s : State} {e : DirEntry} {station tag p l : Nat}
    (held : (s.slot e.first).use = .held station tag p l) : leaseOf s e = l := by
  unfold leaseOf
  rw [held]

theorem leaseRun_lapses {s : State} {e : DirEntry} (out : leaseOf s e ≤ 1) : leaseRun e s = lapseRun e s := if_pos out

theorem leaseRun_counts {s : State} {e : DirEntry} (stays : 1 < leaseOf s e) : leaseRun e s = s.modAlloc (fun a =>
    { a with slots := setRun e.first e.count (.held e.station e.tag e.priority (leaseOf s e - 1)) a.slots }) :=
  if_neg (Nat.not_le.mpr stays)

section
variable {s : State} {e : DirEntry}

/-- A lease at 0 or 1 lapses: the entry goes, its slots by their own carrier counts (R95). -/
theorem upkeptSlots_lapsed (ok : MapOk s) (mem : e ∈ s.alloc.dir) (peer : e.station ≠ s.id) (active : e.active = true)
    (out : leaseOf s e ≤ 1) : findTag e.tag (upkeptSlots s).alloc.dir = none ∧
    ∀ k, inRun e.first e.count k = true →
      (upkeptSlots s).slot k = ⟨if 4 ≤ (s.slot k).carrier then .stray else .free, 0⟩ := by
  obtain ⟨t, full, lease, before, after⟩ := upkept_leased ok mem peer active
  rw [leaseRun_lapses (lease ▸ out)] at after
  refine ⟨findTag_eq_none.mpr fun d there same => ?_, fun k inside => ?_⟩
  · exact (mem_withoutTag.mp ((after.dir d same).mp there)).2 same
  · obtain ⟨low, high⟩ := MapOk.slot_range ok mem inside
    rw [upkeptSlots_slot ok low high, after.slot ((mapSlots_length _ 8 _).trans full) k low high inside,
      lapseRun_slot e t low (by omega), if_pos inside, before.slot ok.2.1 k low high inside, settledSlot_lapsed]

/-- A longer lease counts down (R95). -/
theorem upkeptSlots_counted (ok : MapOk s) (mem : e ∈ s.alloc.dir) (peer : e.station ≠ s.id) (active : e.active = true)
    (stays : 1 < leaseOf s e) : e ∈ (upkeptSlots s).alloc.dir ∧
    ∀ k, inRun e.first e.count k = true →
      (upkeptSlots s).slot k = ⟨.held e.station e.tag e.priority (leaseOf s e - 1), 0⟩ := by
  obtain ⟨t, full, lease, before, after⟩ := upkept_leased ok mem peer active
  rw [leaseRun_counts (lease ▸ stays)] at after
  refine ⟨(after.dir e rfl).mpr ((before.dir e rfl).mpr mem), fun k inside => ?_⟩
  obtain ⟨low, high⟩ := MapOk.slot_range ok mem inside
  refine upkeptSlots_settled ok (use := .held e.station e.tag e.priority (leaseOf s e - 1)) nofun low high ?_
  rw [after.slot ((setRun_length _ _ _ _).trans full) k low high inside]
  refine (congrArg Slot.use ((setRun_slot e.first e.count k _ t.alloc.slots low (by omega)).trans (if_pos inside))).trans ?_
  rw [lease]

end

/-! ### The obligations -/

theorem frameStarted_mapOk {sh : List (List Bool)} {s : State} (ok : MapOk s) (runs : s.sync.state.timerRuns = true) :
    MapOk (frameStarted sh s) := by
  have kept := frameStartEvent_mapKept sh s ok
  unfold frameStartEvent at kept
  rwa [if_pos runs] at kept

/-- The entry of a tag and the slots of its run after a boundary, from what the upkeep leaves. -/
theorem frameStarted_entry {sh : List (List Bool)} {s : State} (takes : s.sync.state.takesCells = true)
    (last : s.sync.frameIndex = 31) (k : Nat) :
    (frameStarted sh s).alloc.dir = (upkeptSlots (atUpkeep sh s)).alloc.dir ∧
    (frameStarted sh s).slot k = (upkeptSlots (atUpkeep sh s)).slot k := by
  unfold State.slot
  rw [(frameStarted_upkept sh takes last).1]
  exact ⟨rfl, rfl⟩

/-- Settles O28: the runs that mature and the other leases leave the run as it was, and its own round ends or counts it. -/
theorem leasesCountDownAndLapse : Obligations.LeasesCountDownAndLapse := by
  intro tag sh e p l s high ok takes last found active peer held some
  obtain ⟨mem, rfl⟩ := findTag_mem found
  have runs := timerRuns_of_takesCells takes
  have okV := atUpkeep_mapOk sh ok
  have memV : e ∈ (atUpkeep sh s).alloc.dir := by rw [atUpkeep_alloc]; exact mem
  have peerV : e.station ≠ (atUpkeep sh s).id := by rw [atUpkeep_id]; exact peer
  have lease : leaseOf (atUpkeep sh s) e = l := leaseOf_eq (by rw [atUpkeep_slot]; exact held)
  refine ⟨fun out => ?_, fun stays => ?_⟩
  · have due : leaseLapses e.tag s = true := by
      simp [leaseLapses, upkeepDue, takes, crosses_of_takesCells takes last, found, active, peer, leaseOf_eq held, out]
    obtain ⟨gone, slots⟩ := upkeptSlots_lapsed okV memV peerV active (by rw [lease]; exact out)
    refine ⟨_, exec_frameRow (c := .leaseLapse e.tag sh) rfl due high runs, ?_, fun k range => ?_⟩
    · rw [(frameStarted_entry takes last 0).1]
      exact gone
    · rw [(frameStarted_entry takes last k).2, slots k (mem_runSlots_iff_inRun.mp range), atUpkeep_slot]
  · obtain ⟨stands, slots⟩ := upkeptSlots_counted okV memV peerV active (by rw [lease]; exact stays)
    refine ⟨_, exec_frameStart high runs, ?_, fun k range => ?_⟩
    · refine (findTag_eq_some (frameStarted_mapOk ok runs).1).mpr ⟨?_, rfl⟩
      rw [(frameStarted_entry takes last 0).1]
      exact stands
    · rw [(frameStarted_entry takes last k).2, slots k (mem_runSlots_iff_inRun.mp range), lease]

/-! ### Sinks that play nothing -/

/-- An operation that leaves every sink that is not RUNNING. -/
def KeepsStill (s t : State) : Prop :=
  ∀ (n : Nat) (c : Sink), s.sinks[n]? = some c → c.state ≠ .running → t.sinks[n]? = some c

namespace KeepsStill

theorem of_same {s t : State} (same : t.sinks = s.sinks) : KeepsStill s t := fun n c here _ => by
  rw [same]
  exact here

theorem trans {s t u : State} (h : KeepsStill s t) (k : KeepsStill t u) : KeepsStill s u :=
  fun n c here still => k n c (h n c here still) still

theorem forEach {f : Nat → State → State} (n : Nat) (s : State) (round : ∀ i t, KeepsStill t (f i t)) :
    KeepsStill s (Machine.forEach n f s) :=
  forEach_inv (KeepsStill s) n f s (of_same rfl) fun i t h => h.trans (round i t)

end KeepsStill

/-- Only a RUNNING sink plays out of its queue (R143, R145). -/
theorem playSink_keepsStill (p : Nat) (b : Bool) (n : Nat) (s : State) : KeepsStill s (playSink p b n s) := by
  intro m c there still
  unfold playSink
  split
  case h_2 => exact there
  case h_1 d here =>
    split
    case isFalse => exact there
    case isTrue =>
      show (s.sinks.modify n (fun _ => if d.state = .running then d.play b else d))[m]? = some c
      by_cases same : n = m
      · subst same
        cases here.symm.trans there
        rw [modify_getElem?_self _ here, if_neg still]
      · rw [modify_getElem?_ne _ same, there]

theorem portAtFrameStart_keepsStill (short : Bool) (sh : List (List Bool)) (p : Nat) (s : State) :
    KeepsStill s (portAtFrameStart short sh p s) := by
  have filled (t : State) : KeepsStill t (fillLanes p false t) :=
    
    KeepsStill.trans (t := t.modPort p (fun q => { q with lanesOut := zeroFrame 8 })) (.of_same rfl)
      (KeepsStill.forEach _ _ fun n u => playSink_keepsStill p false n u)
  have framed (w : Bool) (lanes : List Sample) (t : State) : KeepsStill t (portFrame p false w lanes t) := by
    unfold portFrame
    split
    · split
      · exact .of_same rfl
      · exact .of_same rfl
    · exact filled t
    · exact .of_same rfl
  unfold portAtFrameStart
  split
  · unfold followFrame
    split
    case h_1 q _ =>
      refine KeepsStill.trans (t := if q.primed && short then countShort p s else s) ?_ ((framed _ _ _).trans (.of_same rfl))
      split <;> exact .of_same rfl
    · exact .of_same rfl
  · exact .of_same (by simp)
  · exact .of_same rfl

theorem atUpkeep_keepsStill (sh : List (List Bool)) (s : State) : KeepsStill s (atUpkeep sh s) := by
  have ported : KeepsStill (driveMarker (frameSync s)) (frameBegun sh s) :=
    KeepsStill.forEach 4 _ fun p t => portAtFrameStart_keepsStill _ sh p t
  refine KeepsStill.trans ?_ (ported.trans (.of_same (by simp [atUpkeep])))
  exact .of_same (by simp)

/-! ### A peer's claim -/

theorem isMature_iff {x m : Superframe} : isMature x m = true ↔ x = m ∨ 3 ≤ (x - m).toNat := by
  have zero : (x - m).toNat = 0 ↔ x = m :=
    ⟨fun none => sub_eq_zero.mp (BitVec.eq_of_toNat_eq (by simpa using none)), fun same => by simp [same]⟩
  unfold isMature
  simp only [Bool.or_eq_true, beq_iff_eq, decide_eq_true_eq, zero]

theorem maturesAt_iff {m : Superframe} {s : State} {e : DirEntry} {station tag p : Nat} {x : Superframe}
    (pending : (s.slot e.first).use = .pending station tag p x) :
    maturesAt m s e = true ↔ e.active = false ∧ (x = m ∨ 3 ≤ (x - m).toNat) := by
  unfold maturesAt
  rw [pending]
  simp only [Bool.and_eq_true, Bool.not_eq_true', isMature_iff]

/-- Whether an entry matures is said of its first slot. -/
theorem maturesAt_of_slot {m : Superframe} {s t : State} {e : DirEntry} (same : t.slot e.first = s.slot e.first) :
    maturesAt m t e = maturesAt m s e := by
  unfold maturesAt
  rw [same]

theorem maturesAt_atUpkeep {sh : List (List Bool)} {s : State} {e : DirEntry} (takes : s.sync.state.takesCells = true)
    (last : s.sync.frameIndex = 31) :
    maturesAt (atUpkeep sh s).sync.superframe (atUpkeep sh s) e = maturesAt (nextSuperframe s) s e := by
  rw [atUpkeep_superframe sh takes last]
  exact maturesAt_of_slot (atUpkeep_slot sh _)

/-- Settles O26: the run's own round of the maturity step, which every other round and the leases leave; the sinks take
the entry's activation. -/
theorem peerClaimsMatureToHeld : Obligations.PeerClaimsMatureToHeld := by
  intro tag sh e p x s high ok takes last found inactive peer pending reached
  obtain ⟨mem, rfl⟩ := findTag_mem found
  have okV := atUpkeep_mapOk sh ok
  have ripe : maturesAt (nextSuperframe s) s e = true := (maturesAt_iff pending).mpr ⟨inactive, reached⟩
  have due : peerMatures e.tag s = true := by
    simp [peerMatures, upkeepDue, takes, crosses_of_takesCells takes last, found, peer, ripe]
  obtain ⟨stands, slots⟩ := upkeptSlots_matured okV (e := e) (by rw [atUpkeep_alloc]; exact mem)
    (by rw [atUpkeep_id]; exact peer) (by rw [maturesAt_atUpkeep takes last]; exact ripe)
  have after : findTag e.tag (upkeptSlots (atUpkeep sh s)).alloc.dir = some { e with active := true } := by
    have okT := frameStarted_mapOk (sh := sh) ok (timerRuns_of_takesCells takes)
    have single := okT.1
    unfold DirOk at single
    rw [(frameStarted_entry takes last 0).1] at single
    exact (findTag_eq_some single).mpr ⟨stands, rfl⟩
  refine ⟨_, exec_frameRow (c := .peerClaimMaturity e.tag sh) rfl due high (timerRuns_of_takesCells takes), ?_,
    fun k range => ?_, fun n c here carries unbound => ?_⟩
  · rw [(frameStarted_entry takes last 0).1, after]
  · rw [(frameStarted_entry takes last k).2, slots k (mem_runSlots_iff_inRun.mp range)]
  · have standing : (upkeepTables (atUpkeep sh s)).sinks[n]? = some c := by
      have still := atUpkeep_keepsStill sh s n c here (by rw [unbound]; nofun)
      simpa using still
    have change : changeOf (findTag c.cfg.tag (atUpkeep sh s).alloc.dir)
        (findTag c.cfg.tag (upkeepTables (atUpkeep sh s)).alloc.dir) = some (.activated { e with active := true }) := by
      rw [carries, upkeepTables_alloc, after, atUpkeep_alloc, found]
      simp [changeOf, inactive]
    have signalled : (frameStarted sh s).sinks[n]? = some (sinkEvaluated { e with active := true } c) := by
      rw [(frameStarted_upkept sh takes last).2, (action_signalled standing change).1]
      exact congrArg some (if_pos unbound)
    refine ⟨fun count => ?_, fun count => ?_⟩
    · rw [signalled, sinkEvaluated_bound (e := { e with active := true }) rfl count]
      rfl
    · rw [signalled, sinkEvaluated_mismatch (e := { e with active := true }) rfl count]

end Sys2Proof.Proofs
end

section
/-! The upkeep of a boundary: an own run that matures, and its source through the whole boundary (R94, R119). -/

namespace Sys2Proof.Proofs

open Sys2Proof.Machine

/-! ### One source's round -/

/-- Maturity makes the source OWNED over the run, and changes no other but for its queued item (R119). -/
theorem matureOwn_sourceAt {n : Nat} {c : Source} {t : State} (here : t.sources[n]? = some c) (e : DirEntry) (m : Nat) :
    sourceAt (matureOwn n e t) m = if m = n
      then (sourceAt t n).map (Source.mature e.run (t.clocking c.cfg.port == some .bridge)) else sourceAt t m := by
  let installed := installRun (.owned e.station e.tag e.priority) { e with active := true } t
  have entered : enterOwned n e.run installed = notifySource n (.owned e.run)
      (installed.modSource n (Source.mature e.run (t.clocking c.cfg.port == some .bridge))) := by
    unfold enterOwned
    rw [show installed.sources[n]? = some c from here]
    rfl
  have told (u : State) : sourceAt (notifySource n (.owned e.run) u) m = sourceAt u m :=
    OnlyRequeues.of_same (by simp) m
  show sourceAt (post (.offer n false) (enterOwned n e.run installed)) m = _
  rw [post_requeues, entered, told, modSource_sourceAt
    (G := Source.mature e.run (t.clocking c.cfg.port == some .bridge)) (by exact fun d => rfl)]
  rfl

theorem ownRound_cases (m : Superframe) (r : Nat) (t : State) : ownRound m r t = t ∨
    ∃ d c, t.sources[r]? = some c ∧ findTag c.cfg.tag t.alloc.dir = some d ∧ d.station = t.id ∧
      maturesAt m t d = true ∧ ownRound m r t = matureOwn r d t := by
  unfold ownRound
  split
  case h_1 d found =>
    split
    case isTrue due =>
      obtain ⟨c, here, tagged⟩ := Option.bind_eq_some_iff.mp found
      exact .inr ⟨d, c, here, tagged, due.1, due.2, rfl⟩
    case isFalse => exact .inl rfl
  case h_2 => exact .inl rfl

theorem ownRound_matures {m : Superframe} {n : Nat} {t : State} {c : Source} {e : DirEntry} (here : t.sources[n]? = some c)
    (found : findTag c.cfg.tag t.alloc.dir = some e) (mine : e.station = t.id) (ripe : maturesAt m t e = true) :
    ownRound m n t = matureOwn n e t := by
  unfold ownRound
  rw [here, Option.bind_some, found]
  exact if_pos ⟨mine, ripe⟩

/-! ### The loop over the own runs, at one source -/

/-- What the loop over the own runs keeps of the station `v` it begins with, for the source `n` of the tag `tag`. -/
structure Ripening (v : State) (n tag : Nat) (t : State) : Prop where
  runs : SameRuns v t
  single : DirOk t
  sources : SourcesOk t
  source : (sourceAt t n).map (fun c => c.cfg.tag) = some tag
  ports : t.ports = v.ports

section
variable {v t : State} {n tag : Nat}

theorem Ripening.here (ripening : Ripening v n tag t) : ∃ c, t.sources[n]? = some c ∧ c.cfg.tag = tag := by
  obtain ⟨d, at', carries⟩ := Option.map_eq_some_iff.mp ripening.source
  obtain ⟨c, here, rfl⟩ := Option.map_eq_some_iff.mp at'
  exact ⟨c, here, carries⟩

theorem Ripening.matured (ripening : Ripening v n tag t) {r : Nat} {c : Source} {d : DirEntry}
    (here : t.sources[r]? = some c) (mem : d ∈ t.alloc.dir) : Ripening v n tag (matureOwn r d t) := by
  have dir : (matureOwn r d t).alloc.dir = withEntry { d with active := true } t.alloc.dir := by
    rw [matureOwn_alloc]
    rfl
  refine ⟨ripening.runs.matured mem (matureOwn_id r d t) dir, ?_, (matureOwn_keeps r d t).sources ripening.sources, ?_, ?_⟩
  · show ((matureOwn r d t).alloc.dir.map DirEntry.tag).Nodup
    rw [dir]
    exact tags_withEntry_nodup _ ripening.single
  · rw [matureOwn_sourceAt here]
    have kept := ripening.source
    split
    case isTrue same =>
      subst same
      rw [Option.map_map]
      exact kept
    case isFalse => exact kept
  · simpa using ripening.ports

theorem Ripening.round (ripening : Ripening v n tag t) (m : Superframe) (r : Nat) : Ripening v n tag (ownRound m r t) := by
  rcases ownRound_cases m r t with same | ⟨d, c, here, tagged, -, -, same⟩
  · rwa [same]
  · rw [same]
    exact ripening.matured here (findTag_mem tagged).1

/-- Another source's round leaves the run, the entry and the source. -/
theorem Ripening.aside {e : DirEntry} (ok : MapOk v) (memE : e ∈ v.alloc.dir) (ripening : Ripening v n e.tag t)
    (m : Superframe) {r : Nat} (other : r ≠ n) :
    Leaves (fun k => inRun e.first e.count k = true) (· = e.tag) t (ownRound m r t) ∧
    sourceAt (ownRound m r t) n = sourceAt t n := by
  rcases ownRound_cases m r t with same | ⟨d, c, here, tagged, -, -, same⟩
  · rw [same]
    exact ⟨.refl t, rfl⟩
  · obtain ⟨mem, carries⟩ := findTag_mem tagged
    obtain ⟨own, at', ownTag⟩ := ripening.here
    have foreign : d.tag ≠ e.tag := fun is =>
      other (source_unique ripening.sources.2 at' here ((carries.symm.trans is).trans ownTag.symm))
    obtain ⟨b, there, tag, -, first, count⟩ := ripening.runs.dir d mem
    have apart : Apart (fun k => inRun e.first e.count k = true) (· = e.tag) d := by
      have others := apart_of_ne ok memE there (tag.trans_ne foreign)
      unfold Apart at others ⊢
      rwa [tag, first, count] at others
    rw [same]
    refine ⟨matureOwn_leaves r apart t, ?_⟩
    rw [matureOwn_sourceAt here, if_neg (Ne.symm other)]

end

section
variable {v : State} {n : Nat} {c : Source} {e : DirEntry}

theorem peersMatured_ripening (ok : MapOk v) (sources : SourcesOk v) (here : v.sources[n]? = some c)
    (carries : e.tag = c.cfg.tag) : Ripening v n e.tag ((ripePeers v).foldl (fun t e => maturePeer e t) v) := by
  have frame := foldl_inv (fun t => t.sources = v.sources ∧ t.ports = v.ports) (fun t e => maturePeer e t) (ripePeers v) v
    ⟨rfl, rfl⟩ (fun _ _ same => same)
  refine ⟨maturePeers_sameRuns v, (foldl_maturePeer_frame _ v ok.1).2, ?_, ?_, frame.2⟩
  · unfold SourcesOk
    rw [frame.1]
    exact sources
  · rw [OnlyRequeues.of_same frame.1 n, sourceAt_some here, carries]
    rfl

/-- The loop over the own runs comes to a source with its run as the boundary found it, and leaves what its round makes. -/
theorem maturityStep_at (ok : MapOk v) (sources : SourcesOk v) (here : v.sources[n]? = some c) (mem : e ∈ v.alloc.dir)
    (carries : e.tag = c.cfg.tag) (mine : e.station = v.id) :
    ∃ t, Ripening v n e.tag t ∧ sourceAt t n = sourceAt v n ∧
      Leaves (fun k => inRun e.first e.count k = true) (· = e.tag) v t ∧
      Leaves (fun k => inRun e.first e.count k = true) (· = e.tag) (ownRound v.sync.superframe n t) (maturityStep v) ∧
      sourceAt (maturityStep v) n = sourceAt (ownRound v.sync.superframe n t) n := by
  have peers : Leaves (fun k => inRun e.first e.count k = true) (· = e.tag) v
      ((ripePeers v).foldl (fun t e => maturePeer e t) v) := by
    refine .foldl _ v fun t d there => maturePeer_leaves ?_ t
    obtain ⟨memD, peer, -⟩ := mem_ripePeers.mp there
    exact apart_of_other ok mem memD fun same => peer (same ▸ mine)
  have unsourced : sourceAt ((ripePeers v).foldl (fun t e => maturePeer e t) v) n = sourceAt v n :=
    OnlyRequeues.of_same (foldl_inv (fun t => t.sources = v.sources) (fun t e => maturePeer e t) (ripePeers v) v rfl
      (fun _ _ same => same)) n
  obtain ⟨inside, -⟩ := List.getElem?_eq_some_iff.mp here
  obtain ⟨before, after⟩ := forEach_through (n := v.sources.length) (p := n) (f := ownRound v.sync.superframe)
    (R := fun t u => Ripening v n e.tag t → Ripening v n e.tag u ∧
      Leaves (fun k => inRun e.first e.count k = true) (· = e.tag) t u ∧ sourceAt u n = sourceAt t n)
    (fun t ripening => ⟨ripening, .refl t, rfl⟩)
    (fun {s t u} first second ripening => by
      obtain ⟨mid, left, same⟩ := first ripening
      obtain ⟨last, left', same'⟩ := second mid
      exact ⟨last, left.trans left', same'.trans same⟩)
    (fun r other t ripening => ⟨ripening.round _ r, ripening.aside ok mem _ other⟩) inside
    ((ripePeers v).foldl (fun t e => maturePeer e t) v)
  obtain ⟨reached, left, same⟩ := before (peersMatured_ripening ok sources here carries)
  obtain ⟨-, last⟩ := after (reached.round _ n)
  exact ⟨_, reached, same.trans unsourced, peers.trans left, last⟩

/-- The maturity step at an own run that matures: its source's round, which every other round leaves (R94, R119). -/
theorem maturityStep_owns (ok : MapOk v) (sources : SourcesOk v) (here : v.sources[n]? = some c) (mem : e ∈ v.alloc.dir)
    (carries : e.tag = c.cfg.tag) (mine : e.station = v.id) (ripe : maturesAt v.sync.superframe v e = true) :
    ∃ t, t.alloc.slots.length = 56 ∧
      Leaves (fun k => inRun e.first e.count k = true) (· = e.tag)
        (installRun (.owned e.station e.tag e.priority) { e with active := true } t) (maturityStep v) ∧
      sourceAt (maturityStep v) n =
        some (unqueued (c.mature e.run (v.clocking c.cfg.port == some .bridge))) := by
  obtain ⟨t, reached, still, untouched, after, source⟩ := maturityStep_at ok sources here mem carries mine
  obtain ⟨d, at', dTag⟩ := reached.here
  rw [sourceAt_some here] at still
  have sameCfg : d.cfg = c.cfg := by
    have same : unqueued d = unqueued c := Option.some.inj ((sourceAt_some at').symm.trans still)
    exact show (unqueued d).cfg = (unqueued c).cfg from congrArg Source.cfg same
  have matures : ownRound v.sync.superframe n t = matureOwn n e t := by
    have first : inRun e.first e.count e.first = true := by
      have bounds := MapOk.bounds ok mem
      exact inRun_iff.mpr ⟨Nat.le_refl _, by omega⟩
    obtain ⟨low, high⟩ := MapOk.slot_range ok mem first
    refine ownRound_matures at' ?_ (mine.trans reached.runs.id.symm) ?_
    · exact (findTag_eq_some reached.single).mpr ⟨(untouched.dir e rfl).mpr mem, dTag.symm⟩
    · rw [maturesAt_of_slot (untouched.slot ok.2.1 _ low high first)]
      exact ripe
  have clocked : t.clocking c.cfg.port = v.clocking c.cfg.port := by
    unfold State.clocking
    rw [reached.ports]
  rw [matures] at after source
  refine ⟨t, untouched.length.trans ok.2.1, (Leaves.of_alloc (matureOwn_alloc n e t)).trans after, ?_⟩
  rw [source, matureOwn_sourceAt at', if_pos rfl, still, sameCfg, clocked]
  rfl

/-- The upkeep makes an own PENDING run OWNED, its entry ACTIVE (R94). -/
theorem upkeptSlots_owned (ok : MapOk v) (sources : SourcesOk v) (here : v.sources[n]? = some c) (mem : e ∈ v.alloc.dir)
    (carries : e.tag = c.cfg.tag) (mine : e.station = v.id) (ripe : maturesAt v.sync.superframe v e = true) :
    { e with active := true } ∈ (upkeptSlots v).alloc.dir ∧
    (∀ k, inRun e.first e.count k = true → (upkeptSlots v).slot k = ⟨.owned e.station e.tag e.priority, 0⟩) ∧
    sourceAt (upkeptSlots v) n = some (unqueued (c.mature e.run (v.clocking c.cfg.port == some .bridge))) := by
  obtain ⟨t, full, after, source⟩ := maturityStep_owns ok sources here mem carries mine ripe
  have leased := after.trans (leaseRuns_leaves (s := v) (fun d there => by
    obtain ⟨memD, -, peer⟩ := mem_heldRuns.mp there
    exact apart_of_other ok mem memD fun same => peer (same ▸ mine)) (maturityStep v))
  refine ⟨(leased.dir { e with active := true } rfl).mpr (mem_withEntry.mpr (.inr rfl)), fun k inside => ?_, ?_⟩
  · obtain ⟨low, high⟩ := MapOk.slot_range ok mem inside
    refine upkeptSlots_settled ok (use := .owned e.station e.tag e.priority) nofun low high ?_
    rw [leased.slot (by simpa using full) k low high inside]
    exact congrArg Slot.use ((installRun_slot _ _ t k low (by omega)).trans (if_pos inside))
  · rw [← source]
    exact OnlyRequeues.of_same (leaseRuns_frame (heldRuns v) (maturityStep v)).1 n

end


/-! ### The sources at a boundary -/

/-- A source after its turn at a boundary, but for queued items; `fits` says for which size the map holds a FREE run
(R116, R118, R121, R123, R124). -/
def atBoundary (fits : Nat → Bool) (c : Source) : Source :=
  match c.state with
  | .owned => { c with tally := 0 }
  | .backoff => if c.backoff ≤ 1 then { c with state := .seeking, backoff := 0 } else { c with backoff := c.backoff - 1 }
  | .blocked => if fits c.cfg.channels then { c with state := .seeking, backoff := 0 } else c
  | _ => c

/-- For which size the map holds a FREE run (R118). -/
def fitsIn (s : State) (count : Nat) : Bool := (lowestRun s count []).isSome

theorem fitsIn_of_alloc {s t : State} (same : t.alloc = s.alloc) : fitsIn t = fitsIn s := by
  funext count
  unfold fitsIn lowestRun runFree State.slot
  rw [same]

theorem postRelease_requeues (n : Nat) (s : State) : OnlyRequeues s (postRelease n s) := by
  unfold postRelease
  repeat' split
  · exact post_requeues _ s
  · exact .refl s
  · exact .refl s

/-- An operation that leaves the sources but for queued items, told as a change of source `n` that leaves it. -/
theorem OnlyRequeues.kept_at {s t : State} (h : OnlyRequeues s t) {n : Nat} {f : Source → Source}
    (stays : (sourceAt s n).map f = sourceAt s n) (m : Nat) :
    sourceAt t m = if m = n then (sourceAt s n).map f else sourceAt s m := by
  rw [h m]
  split
  case isTrue same => rw [same, stays]
  case isFalse => rfl

theorem sourceBoundary_sourceAt (n : Nat) (s : State) (m : Nat) : sourceAt (sourceBoundary n s) m =
    if m = n then (sourceAt s n).map (atBoundary (fitsIn s)) else sourceAt s m := by
  cases here : s.sources[n]? with
  | none =>
    have absent : sourceAt s n = none := by rw [sourceAt, here]; rfl
    have same : sourceBoundary n s = s := by
      unfold sourceBoundary
      rw [here]
    rw [same]
    exact (OnlyRequeues.refl s).kept_at (by rw [absent]; rfl) m
  | some c =>
    have is := sourceAt_some here
    have stays (kept : atBoundary (fitsIn s) (unqueued c) = unqueued c) {t : State} (same : OnlyRequeues s t) :
        sourceAt t m = if m = n then (sourceAt s n).map (atBoundary (fitsIn s)) else sourceAt s m :=
      same.kept_at (by rw [is]; exact congrArg some kept) m
    have seeks (sought : atBoundary (fitsIn s) (unqueued c) = { unqueued c with state := .seeking, backoff := 0 }) :
        sourceAt (seek n s) m = if m = n then (sourceAt s n).map (atBoundary (fitsIn s)) else sourceAt s m := by
      rw [seek_sourceAt, is]
      exact congrArg (ite _ · _) (congrArg some sought.symm)
    unfold sourceBoundary
    rw [here]
    dsimp only
    cases state : c.state with
    | owned =>
      dsimp only
      rw [modSource_sourceAt (G := fun c => { c with tally := 0 }) (by exact fun _ => rfl), is]
      refine congrArg (ite _ · _) (congrArg some ?_)
      simp [atBoundary, unqueued, state]
    | backoff =>
      dsimp only
      by_cases low : c.backoff ≤ 1
      · rw [if_pos low]
        exact seeks (by simp [atBoundary, unqueued, state, low])
      · rw [if_neg low, modSource_sourceAt (G := fun c => { c with backoff := c.backoff - 1 }) (by exact fun _ => rfl), is]
        refine congrArg (ite _ · _) (congrArg some ?_)
        simp [atBoundary, unqueued, state, low]
    | blocked =>
      dsimp only
      by_cases fits : (lowestRun s c.cfg.channels []).isSome = true
      · rw [if_pos fits]
        exact seeks (by simp [atBoundary, unqueued, state, fitsIn, fits])
      · rw [if_neg fits]
        exact stays (by simp [atBoundary, unqueued, state, fitsIn, fits]) (.refl s)
    | seeking =>
      have kept : atBoundary (fitsIn s) (unqueued c) = unqueued c := by simp [atBoundary, unqueued, state]
      dsimp only
      split
      · exact stays kept (post_requeues _ s)
      · exact stays kept (.refl s)
    | releasing =>
      have kept : atBoundary (fitsIn s) (unqueued c) = unqueued c := by simp [atBoundary, unqueued, state]
      dsimp only
      split
      · exact stays kept (postRelease_requeues n s)
      · exact stays kept (.refl s)
    | idle | claiming | clashed | halted =>
      exact stays (by simp [atBoundary, unqueued, state]) (.refl s)

theorem sourcesBoundary_sourceAt (s : State) (m : Nat) :
    sourceAt (sourcesBoundary s) m = (sourceAt s m).map (atBoundary (fitsIn s)) := by
  unfold sourcesBoundary
  rw [forEach_at sourceAt (fun t => t.alloc = s.alloc) (G := fun _ => atBoundary (fitsIn s))
    (fun n t same => by simpa using same)
    (fun n t m same => by rw [sourceBoundary_sourceAt, fitsIn_of_alloc same]) _ s rfl]
  split
  · rfl
  case isFalse beyond => rw [sourceAt_beyond (Nat.not_lt.mp beyond)]; rfl

/-! ### A source that is not OWNED through the refresh counts -/

theorem refreshRound_sourceAt_of_ne {s t : State} {n m : Nat} (other : m ≠ n) :
    sourceAt (refreshRound s n t) m = sourceAt t m := by
  unfold refreshRound
  split
  case isFalse => rfl
  case isTrue =>
    cases here : t.sources[n]? with
    | none =>
      unfold refreshSource
      rw [here]
    | some c => rw [refreshSource_sourceAt here, if_neg other]

/-- The refresh counts pass over a source that was not OWNED before the boundary (R97). -/
theorem upkeepTables_unrefreshed {s : State} {n : Nat} (notOwned : s.sourceIs n .owned = false) :
    sourceAt (upkeepTables s) n = sourceAt (upkeptSlots s) n := by
  rw [upkeepTables_eq]
  refine forEach_inv (fun t => sourceAt t n = sourceAt (upkeptSlots s) n) _ _ _ rfl fun m t same => ?_
  by_cases own : n = m
  · subst own
    unfold refreshRound
    rw [notOwned]
    exact same
  · rw [refreshRound_sourceAt_of_ne own, same]

/-- A source through a whole boundary, from what the upkeep's tables leave of it. -/
theorem frameStarted_sourceAt {sh : List (List Bool)} {s : State} (takes : s.sync.state.takesCells = true)
    (last : s.sync.frameIndex = 31) (n : Nat) : sourceAt (frameStarted sh s) n =
      if (frameBegun sh s).sync.state = .founding then sourceAt (upkeepTables (atUpkeep sh s)) n
      else (sourceAt (upkeepTables (atUpkeep sh s)) n).map (atBoundary (fitsIn (frameStarted sh s))) := by
  have upkept : upkeep (syncAtBoundary (frameBegun sh s)) = action upkeepTables (atUpkeep sh s) :=
    if_pos (atUpkeep_takesCells sh takes)
  have same : OnlyRequeues (upkeepTables (atUpkeep sh s)) (action upkeepTables (atUpkeep sh s)) := .of_same (by simp)
  have alloc : (frameStarted sh s).alloc = (action upkeepTables (atUpkeep sh s)).alloc := by
    rw [(frameStarted_upkept sh takes last).1, (action_frame _ _).2.2.2.2.2.2.2.2.1, upkeepTables_alloc]
  rw [fitsIn_of_alloc alloc, frameStarted_boundary (crosses_of_takesCells takes last)]
  unfold boundary
  dsimp only
  have ended (t : State) : OnlyRequeues t (relayDeadlines t) := .of_same (by simp)
  rw [upkept, ended]
  split
  · rw [same n]
  · rw [sourcesBoundary_sourceAt, same n]
/-! ### A source through the frame start -/

theorem soughtFrom_busy {c : Source} (busy : c.state ≠ .idle) : soughtFrom c = c := if_neg busy

theorem enterLockedNow_sourceAt (s : State) (n : Nat) :
    sourceAt (enterLockedNow s) n = (sourceAt s n).map soughtFrom := sourcesSeek_sourceAt _ n

/-- Only an IDLE source takes part in the entry to LOCKED (R115). -/
theorem frameSync_busy {s : State} {n : Nat} {c : Source} (not : founds s = false) (here : s.sources[n]? = some c)
    (busy : c.state ≠ .idle) : sourceAt (frameSync s) n = some (unqueued { c with collidedNow := false }) := by
  have stands := sourceAt_some (frameStepped_source here)
  rw [frameSync_step not, ← stands]
  unfold syncAtFrameStart
  split
  · exact OnlyRequeues.of_same rfl n
  · split <;> exact OnlyRequeues.of_same rfl n
  · split
    · unfold lockFromLearn
      rw [enterLockedNow_sourceAt]
      exact (congrArg (Option.map soughtFrom) stands).trans
        ((congrArg some (soughtFrom_busy (c := unqueued { c with collidedNow := false }) busy)).trans stands.symm)
    · rfl
  · rfl

/-- A source at the upkeep of a boundary: its frame begun, its queue as its port leaves it (R2, R159). -/
theorem atUpkeep_busy {sh : List (List Bool)} {s : State} {n : Nat} {c : Source} (takes : s.sync.state.takesCells = true)
    (here : s.sources[n]? = some c) (busy : c.state ≠ .idle) :
    ∃ d q, (atUpkeep sh s).sources[n]? = some d ∧ unqueued d = unqueued { c with collidedNow := false, queue := q } ∧
      (s.clocking c.cfg.port = some .bridge → q = c.queue) := by
  obtain ⟨queued, before⟩ := of_sourceAt (frameSync_busy (founds_of_takesCells takes) here busy)
  obtain ⟨q, begun, why⟩ := (frameBegun_onlyFollows sh s).sources n _ before
  have clocked (p : Nat) : (frameSync s).clocking p = s.clocking p := by
    unfold State.clocking
    simp
  have at' : sourceAt (atUpkeep sh s) n = some (unqueued { c with collidedNow := false, queue := q }) := by
    have stands := sourceAt_some begun
    unfold atUpkeep syncAtBoundary
    split
    · exact (OnlyRequeues.of_same rfl n).trans stands
    · rw [enterLockedNow_sourceAt, stands]
      exact congrArg some (soughtFrom_busy (c := unqueued { c with collidedNow := false, queue := q }) busy)
    · exact stands
  obtain ⟨d, stands, same⟩ := Option.map_eq_some_iff.mp at'
  refine ⟨d, q, stands, same, fun bridge => ?_⟩
  rcases why with same | ⟨-, follow⟩
  · exact same
  · rw [clocked] at follow
    cases bridge.symm.trans follow

theorem atUpkeep_clocking (sh : List (List Bool)) (s : State) (p : Nat) : (atUpkeep sh s).clocking p = s.clocking p := by
  have synced (t : State) : (syncAtBoundary t).clocking p = t.clocking p := by
    unfold State.clocking
    simp
  have begun : (frameSync s).clocking p = s.clocking p := by
    unfold State.clocking
    simp
  exact (synced _).trans (((frameBegun_onlyFollows sh s).clocking p).trans begun)

theorem atUpkeep_sourcesOk {sh : List (List Bool)} {s : State} (ok : SourcesOk s) : SourcesOk (atUpkeep sh s) :=
  ((frameSync_keeps s).trans ((modLine_keeps _ _).trans ((portsAtFrameStart_keeps _ sh _).trans
    (syncAtBoundary_keeps _)))).sources ok

/-- Settles O27: the source's own round of the maturity step, which every other round, the leases and the rest of the
boundary leave. -/
theorem ownClaimsMatureToOwned : Obligations.OwnClaimsMatureToOwned := by
  intro n sh c e p x s high ok sources takes last here claiming found inactive mine pending reached
  obtain ⟨mem, carries⟩ := findTag_mem found
  have okV := atUpkeep_mapOk sh ok
  have ripe : maturesAt (nextSuperframe s) s e = true := (maturesAt_iff pending).mpr ⟨inactive, reached⟩
  have due : ownMatures n s = true := by
    simp [ownMatures, upkeepDue, takes, crosses_of_takesCells takes last, here, found, mine, ripe]
  obtain ⟨d, q, stands, fields, bridged⟩ := atUpkeep_busy (sh := sh) takes here (by rw [claiming]; nofun)
  have cfg : d.cfg = c.cfg := show (unqueued d).cfg = c.cfg from (congrArg Source.cfg fields).trans rfl
  have state : d.state = .claiming := (show (unqueued d).state = c.state from (congrArg Source.state fields).trans rfl).trans claiming
  obtain ⟨entry, slots, source⟩ := upkeptSlots_owned okV (atUpkeep_sourcesOk sources) stands (e := e)
    (by rw [atUpkeep_alloc]; exact mem) (by rw [cfg]; exact carries) (by rw [atUpkeep_id]; exact mine)
    (by rw [maturesAt_atUpkeep takes last]; exact ripe)
  have after : sourceAt (frameStarted sh s) n =
      some (unqueued (d.mature e.run ((atUpkeep sh s).clocking d.cfg.port == some .bridge))) := by
    rw [frameStarted_sourceAt takes last, upkeepTables_unrefreshed (by rw [sourceIs_of stands, state]; rfl), source]
    split <;> rfl
  obtain ⟨queued, is⟩ := of_sourceAt after
  refine ⟨_, _, exec_frameRow (c := .ownClaimMaturity n sh) rfl due high (timerRuns_of_takesCells takes), ?_,
    fun k range => ?_, is, rfl, rfl, rfl, rfl, rfl, rfl, cfg, ?_, fun bridge => ?_⟩
  · rw [← carries]
    refine (findTag_eq_some (frameStarted_mapOk ok (timerRuns_of_takesCells takes)).1).mpr ⟨?_, rfl⟩
    rw [(frameStarted_entry takes last 0).1]
    exact entry
  · rw [(frameStarted_entry takes last k).2, slots k (mem_runSlots_iff_inRun.mp range), carries]
  · exact show (unqueued d).muted = c.muted from (congrArg Source.muted fields).trans rfl
  · have queue : d.queue = c.queue :=
      (show (unqueued d).queue = q from (congrArg Source.queue fields).trans rfl).trans (bridged bridge)
    show (if (atUpkeep sh s).clocking d.cfg.port == some .bridge then _ else _) = _
    rw [atUpkeep_clocking, cfg, bridge, queue]
    rfl

end Sys2Proof.Proofs
end

section
/-! The sources at a boundary in LOCKED and LEAVING: the refresh OFFERs, then each source's turn, exactly (R97, R116, R118,
R123, R124, R127). -/

namespace Sys2Proof.Proofs

open Sys2Proof.Machine

/-! ### The refresh OFFERs -/

/-- Whether an OFFER of source `n` is queued (R50). -/
def HasOffer (n : Nat) (s : State) : Prop := s.tx.queue.any (isOfferOf n) = true

theorem hasOffer_iff {n : Nat} {s : State} :
    HasOffer n s ↔ .offer n false ∈ s.tx.queue ∨ .offer n true ∈ s.tx.queue := by
  unfold HasOffer
  rw [List.any_eq_true]
  constructor
  · rintro ⟨it, mem, offer⟩
    cases it <;> simp [isOfferOf] at offer
    case offer m o => subst offer; cases o <;> simp [mem]
  · rintro (mem | mem)
    all_goals exact ⟨_, mem, by simp [isOfferOf]⟩

theorem replaceOffer_count {it : QItem} (notOffer : ∀ n o, it ≠ .offer n o) (n : Nat) (o : Bool) (q : List QItem) :
    (replaceOffer n o q).count it = q.count it := by
  induction q with
  | nil => rfl
  | cons x rest ih =>
    have head : replaceOffer n o (x :: rest) = replaceOffer n o [x] ++ replaceOffer n o rest := rfl
    have one : (replaceOffer n o [x]).count it = [x].count it := by
      cases x with
      | offer m old =>
        have absent (p : Bool) : ¬QItem.offer m p = it := fun is => notOffer m p is.symm
        by_cases own : m = n
        · simp [replaceOffer, own, own ▸ absent]
        · simp [replaceOffer, own]
      | _ => rfl
    rw [head, List.count_append, one, ih, ← List.count_append]
    rfl

theorem replaceOffer_any (n m : Nat) (o : Bool) (q : List QItem) :
    (replaceOffer n o q).any (isOfferOf m) = q.any (isOfferOf m) := by
  unfold replaceOffer
  rw [List.any_map]
  refine congrArg q.any (funext fun x => ?_)
  cases x with
  | offer k old => by_cases own : k = n <;> simp [isOfferOf, own]
  | _ => rfl

/-- What a loop leaves that changes OWNED sources and posts OFFERs alone. -/
structure OnlyOffers (s t : State) : Prop where
  sync : t.sync = s.sync
  others : ∀ (j : Nat) (d : Source), s.sources[j]? = some d → d.state ≠ .owned → t.sources[j]? = some d
  count : ∀ it : QItem, (∀ n o, it ≠ .offer n o) → t.tx.queue.count it = s.tx.queue.count it
  offers : ∀ n, HasOffer n s → HasOffer n t

namespace OnlyOffers

theorem refl (s : State) : OnlyOffers s s := ⟨rfl, fun _ _ here _ => here, fun _ _ => rfl, fun _ => id⟩

theorem trans {s t u : State} (h : OnlyOffers s t) (k : OnlyOffers t u) : OnlyOffers s u :=
  ⟨k.sync.trans h.sync, fun j d here other => k.others j d (h.others j d here other) other,
    fun it notOffer => (k.count it notOffer).trans (h.count it notOffer), fun n has => k.offers n (h.offers n has)⟩

theorem modSource {s : State} {n : Nat} {c : Source} (here : s.sources[n]? = some c) (owned : c.state = .owned)
    (f : Source → Source) : OnlyOffers s (s.modSource n f) := by
  refine ⟨rfl, fun j d there other => ?_, fun _ _ => rfl, fun _ => id⟩
  have ne : n ≠ j := fun same => by
    subst same
    cases here.symm.trans there
    exact other owned
  exact (modify_getElem?_ne _ ne).trans there

end OnlyOffers

/-- An OFFER posted in LOCKED with room (R50, R51). -/
theorem post_offer_locked {n : Nat} {s : State} (locked : s.sync.state = .locked) (room : s.tx.queue.length < 16) :
    OnlyOffers s (post (.offer n false) s) ∧ HasOffer n (post (.offer n false) s) ∧
    (post (.offer n false) s).tx.queue.length ≤ s.tx.queue.length + 1 := by
  have accepts : queueAccepts s.sync.state (.offer n false) = true := by rw [locked]; rfl
  cases has : s.tx.queue.any (isOfferOf n) with
  | true =>
    have is : post (.offer n false) s = modQueue (replaceOffer n false) s := (if_pos accepts).trans (if_pos has)
    rw [is]
    refine ⟨⟨rfl, fun _ _ here _ => here, fun it notOffer => replaceOffer_count notOffer n false _, fun m had => ?_⟩, ?_, ?_⟩
    · exact (replaceOffer_any n m false _).trans had
    · exact (replaceOffer_any n n false _).trans has
    · exact (List.length_map _).trans_le (Nat.le_succ _)
  | false =>
    have is : post (.offer n false) s = modQueue (· ++ [.offer n false]) s :=
      (if_pos accepts).trans ((if_neg (by simp [has])).trans (if_pos room))
    rw [is]
    refine ⟨⟨rfl, fun _ _ here _ => here, fun it notOffer => ?_, fun m had => ?_⟩, ?_, ?_⟩
    · show (s.tx.queue ++ [QItem.offer n false]).count it = _
      have absent : [QItem.offer n false].count it = 0 := List.count_eq_zero.mpr (by simpa using notOffer n false)
      rw [List.count_append, absent]
      rfl
    · show (s.tx.queue ++ [QItem.offer n false]).any (isOfferOf m) = true
      rw [List.any_append, had]
      rfl
    · show (s.tx.queue ++ [QItem.offer n false]).any (isOfferOf n) = true
      simp [isOfferOf]
    · exact Nat.le_of_eq (List.length_append ..)

/-- LEAVING refuses an OFFER, and nothing is lost (R49, R52). -/
theorem post_offer_leaving {n : Nat} {s : State} (leaving : s.sync.state = .leaving) : post (.offer n false) s = s := by
  unfold post
  rw [leaving]
  rfl

theorem refreshRound_cases (v : State) (i : Nat) (t : State) : refreshRound v i t = t ∨
    ∃ c, v.sourceIs i .owned = true ∧ t.sources[i]? = some c ∧ c.state = .owned ∧
      refreshRound v i t = if c.refresh + 1 < 8 then t.modSource i (fun c => { c with refresh := c.refresh + 1 })
        else post (.offer i false) (t.modSource i (fun c => { c with refresh := 0 })) := by
  unfold refreshRound
  split
  case isFalse => exact .inl rfl
  case isTrue both =>
    obtain ⟨was, is⟩ := Bool.and_eq_true_iff.mp both
    cases here : t.sources[i]? with
    | none => simp [State.sourceIs, here] at is
    | some c =>
      rw [sourceIs_of here] at is
      refine .inr ⟨c, was, rfl, by simpa using is, ?_⟩
      unfold refreshSource
      rw [here]

/-- A round of the refresh counts in LOCKED posts at most the OFFER of its OWNED source. -/
theorem refreshRound_locked {v t : State} {i : Nat} (locked : t.sync.state = .locked)
    (room : v.sourceIs i .owned = true → t.tx.queue.length < 16) :
    OnlyOffers t (refreshRound v i t) ∧
    (refreshRound v i t).tx.queue.length ≤ t.tx.queue.length + (if v.sourceIs i .owned then 1 else 0) := by
  rcases refreshRound_cases v i t with same | ⟨c, was, here, owned, is⟩
  · rw [same]
    exact ⟨.refl t, Nat.le_add_right _ _⟩
  · rw [is, if_pos was]
    split
    · exact ⟨.modSource here owned _, Nat.le_add_right _ _⟩
    · obtain ⟨offers, -, length⟩ := post_offer_locked (n := i) (s := t.modSource i (fun c => { c with refresh := 0 })) locked
        (room was)
      exact ⟨(OnlyOffers.modSource here owned _).trans offers, length⟩

/-- At the eighth count the OFFER stands (R97). -/
theorem refreshRound_offers {v t : State} {i : Nat} {c : Source} (locked : t.sync.state = .locked)
    (room : t.tx.queue.length < 16) (was : v.sourceIs i .owned = true) (here : t.sources[i]? = some c)
    (owned : c.state = .owned) (full : ¬c.refresh + 1 < 8) : HasOffer i (refreshRound v i t) := by
  unfold refreshRound refreshSource
  rw [was, sourceIs_of here, owned, here]
  dsimp only
  rw [if_neg full]
  exact (post_offer_locked (s := t.modSource i (fun c => { c with refresh := 0 })) locked room).2.1

theorem refreshRound_leaving {v t : State} {i : Nat} (leaving : t.sync.state = .leaving) :
    OnlyOffers t (refreshRound v i t) := by
  rcases refreshRound_cases v i t with same | ⟨c, -, here, owned, is⟩
  · rw [same]
    exact .refl t
  · rw [is]
    split
    · exact .modSource here owned _
    · rw [post_offer_leaving (s := t.modSource i _) leaving]
      exact .modSource here owned _

/-! ### How many sources post -/

/-- The states of the sources. -/
def statesOf (s : State) : List SourceState := s.sources.map Source.state

/-- How many of the first `i` sources are OWNED. -/
def ownedBelow (s : State) (i : Nat) : Nat := ((statesOf s).take i).countP (· == .owned)

/-- How many of the first `i` sources are not. -/
def othersBelow (s : State) (i : Nat) : Nat := ((statesOf s).take i).countP (fun st => !(st == .owned))

theorem sourceIs_eq_statesOf (s : State) (i : Nat) (st : SourceState) :
    s.sourceIs i st = ((statesOf s)[i]?).any (· == st) := by
  unfold State.sourceIs statesOf
  rw [List.getElem?_map]
  cases s.sources[i]? <;> rfl

theorem ownedBelow_succ (s : State) (i : Nat) :
    ownedBelow s (i + 1) = ownedBelow s i + (if s.sourceIs i .owned then 1 else 0) := by
  unfold ownedBelow
  rw [List.take_add_one, List.countP_append, sourceIs_eq_statesOf]
  cases (statesOf s)[i]? <;> simp

theorem othersBelow_succ {s : State} {i : Nat} {c : Source} (here : s.sources[i]? = some c) :
    othersBelow s (i + 1) = othersBelow s i + (if c.state = .owned then 0 else 1) := by
  unfold othersBelow
  rw [List.take_add_one, List.countP_append]
  simp [statesOf, here]

/-- Each source is counted once. -/
theorem below_le (s : State) (i j : Nat) : ownedBelow s i + othersBelow s j ≤ s.sources.length := by
  have all := List.length_eq_countP_add_countP (p := fun st : SourceState => st == .owned) (l := statesOf s)
  have length : (statesOf s).length = s.sources.length := List.length_map _
  have owned : ownedBelow s i ≤ (statesOf s).countP (· == .owned) := (List.take_sublist i _).countP_le
  have others : othersBelow s j ≤ (statesOf s).countP (fun st => !(st == .owned)) := (List.take_sublist j _).countP_le
  have same : (statesOf s).countP (fun st => !(st == .owned)) =
      (statesOf s).countP (fun st => decide ¬(st == .owned) = true) := List.countP_congr (by simp)
  omega

/-! ### The upkeep's part -/

section
variable {v : State}

/-- The upkeep leaves every source that is not OWNED and every item but OFFERs. -/
theorem upkeepTables_leaving (own : OwnActive v) (leaving : v.sync.state = .leaving) :
    OnlyOffers v (upkeepTables v) := by
  obtain ⟨sources, tx, sync⟩ := upkeptSlots_frame own
  have start : OnlyOffers v (upkeptSlots v) :=
    ⟨sync, fun j d here _ => by rw [sources]; exact here, fun _ _ => by rw [tx], fun n => by unfold HasOffer; rw [tx]; exact id⟩
  rw [upkeepTables_eq]
  refine forEach_inv (OnlyOffers v) _ _ _ start fun i t stands => stands.trans (refreshRound_leaving ?_)
  rw [stands.sync]
  exact leaving

/-- In LOCKED with room for every source it also posts no more than one OFFER for each OWNED source, and each that is due. -/
theorem upkeepTables_locked (own : OwnActive v) (locked : v.sync.state = .locked)
    (room : v.tx.queue.length + v.sources.length ≤ 16) : OnlyOffers v (upkeepTables v) ∧
    (upkeepTables v).tx.queue.length ≤ v.tx.queue.length + ownedBelow v v.sources.length ∧
    ∀ (n : Nat) (c : Source), v.sources[n]? = some c → c.state = .owned → ¬c.refresh + 1 < 8 →
      HasOffer n (upkeepTables v) := by
  obtain ⟨sources, tx, sync⟩ := upkeptSlots_frame own
  have looped := forEach_ind (f := refreshRound v) (s := upkeptSlots v)
    (fun i t => OnlyOffers v t ∧ t.tx.queue.length ≤ v.tx.queue.length + ownedBelow v i ∧
      (∀ j, i ≤ j → sourceAt t j = sourceAt v j) ∧
      ∀ (n : Nat) (c : Source), n < i → v.sources[n]? = some c → c.state = .owned → ¬c.refresh + 1 < 8 → HasOffer n t)
    ⟨⟨sync, fun j d here _ => by rw [sources]; exact here, fun _ _ => by rw [tx],
        fun n => by unfold HasOffer; rw [tx]; exact id⟩,
      by rw [tx]; exact Nat.le_add_right _ _, fun j _ => OnlyRequeues.of_same sources j, fun _ _ none => absurd none (by omega)⟩
    (fun i t ⟨offers, length, ahead, had⟩ => by
      have lockedT : t.sync.state = .locked := by rw [offers.sync]; exact locked
      have total := below_le v (i + 1) 0
      have step := ownedBelow_succ v i
      have roomT (owned : v.sourceIs i .owned = true) : t.tx.queue.length < 16 := by
        rw [if_pos owned] at step
        omega
      obtain ⟨next, longer⟩ := refreshRound_locked lockedT roomT
      refine ⟨offers.trans next, by omega, fun j later => ?_, fun n c below here owned full => ?_⟩
      · rw [refreshRound_sourceAt_of_ne (by omega), ahead j (by omega)]
      · by_cases last : n = i
        · subst last
          have is : v.sourceIs n .owned = true := by rw [sourceIs_of here, owned]; rfl
          obtain ⟨queued, at'⟩ := of_sourceAt ((ahead n (Nat.le_refl n)).trans (sourceAt_some here))
          exact refreshRound_offers lockedT (roomT is) is at' owned full
        · exact next.offers n (had n c (by omega) here owned full))
    v.sources.length
  obtain ⟨offers, length, -, had⟩ := looped
  exact ⟨offers, length, fun n c here => had n c (List.getElem?_eq_some_iff.mp here).1 here⟩

end

end Sys2Proof.Proofs
end

section
/-! Each source's turn at a boundary in LOCKED and LEAVING, exactly: O29. -/

namespace Sys2Proof.Proofs

open Sys2Proof.Machine

/-! ### One turn -/

/-- What source `n` posts at its turn at a boundary (R116, R118, R123, R124). -/
def postsAt (fits : Nat → Bool) (n : Nat) (c : Source) : Option QItem :=
  match c.state with
  | .backoff => if c.backoff ≤ 1 then some (.claim n) else none
  | .blocked => if fits c.cfg.channels then some (.claim n) else none
  | .seeking => if c.queuedItem = .nothing then some (.claim n) else none
  | .releasing => if c.queuedItem = .nothing then c.run.map (fun r => .release n c.cfg.tag r false) else none
  | _ => none

/-- What a source notes of its own item that stands in the queue (R114). -/
def notedAs : QItem → QueuedItem
  | .claim _ => .claim
  | .release .. => .release
  | _ => .nothing

/-- A source after its turn; `takes` says that the queue takes its item (R114, R127). -/
def turned (takes : Bool) (fits : Nat → Bool) (n : Nat) (c : Source) : Source :=
  match postsAt fits n c with
  | some it => { atBoundary fits c with queuedItem := if takes then notedAs it else .nothing }
  | none => atBoundary fits c

theorem turned_of_some {takes : Bool} {fits : Nat → Bool} {n : Nat} {c : Source} {it : QItem}
    (posts : postsAt fits n c = some it) :
    turned takes fits n c = { atBoundary fits c with queuedItem := if takes then notedAs it else .nothing } := by
  unfold turned
  rw [posts]

theorem turned_of_none {takes : Bool} {fits : Nat → Bool} {n : Nat} {c : Source} (posts : postsAt fits n c = none) :
    turned takes fits n c = atBoundary fits c := by
  unfold turned
  rw [posts]

/-- Whether the station takes a source's items at a boundary (R49). -/
def takesItems (s : State) : Bool := s.sync.state == .locked

/-- LOCKED with room, or LEAVING. -/
def Postable (s : State) : Prop := (s.sync.state = .locked ∧ s.tx.queue.length < 16) ∨ s.sync.state = .leaving

/-- A source's own item posted, in LOCKED with room or in LEAVING, which refuses it (R49, R51, R52). -/
theorem post_own {it : QItem} {n : Nat} {s : State} (own : it = .claim n ∨ ∃ tag r, it = .release n tag r false)
    (postable : Postable s) :
    (post it s).sources = s.sources.modify n
      (fun c => { c with queuedItem := if takesItems s then notedAs it else .nothing }) ∧
    (post it s).tx.queue = s.tx.queue ++ (if takesItems s then [it] else []) := by
  unfold takesItems
  rcases postable with ⟨locked, room⟩ | leaving
  · have accepts : queueAccepts s.sync.state it = true := by rw [locked]; rfl
    rw [locked]
    rcases own with rfl | ⟨tag, r, rfl⟩
    all_goals
      rw [post_room accepts (by simp) room]
      exact ⟨rfl, rfl⟩
  · unfold post
    rw [leaving]
    rcases own with rfl | ⟨tag, r, rfl⟩
    all_goals exact ⟨rfl, (List.append_nil _).symm⟩

theorem postsAt_own {fits : Nat → Bool} {n : Nat} {c : Source} {it : QItem} (posts : postsAt fits n c = some it) :
    it = .claim n ∨ ∃ tag r, it = .release n tag r false := by
  unfold postsAt at posts
  split at posts
  case h_4 =>
    split at posts
    · obtain ⟨r, -, rfl⟩ := Option.map_eq_some_iff.mp posts
      exact .inr ⟨_, r, rfl⟩
    · cases posts
  case h_5 => cases posts
  all_goals
    split at posts
    · exact .inl (Option.some.inj posts).symm
    · cases posts

/-- A source's turn at a boundary, with room for what it posts or in LEAVING. -/
theorem sourceBoundary_turned {n : Nat} {c : Source} {s : State} (here : s.sources[n]? = some c)
    (postable : (postsAt (fitsIn s) n c).isSome = true → Postable s) :
    (sourceBoundary n s).sources = s.sources.set n (turned (takesItems s) (fitsIn s) n c) ∧
    (sourceBoundary n s).tx.queue =
      s.tx.queue ++ (if takesItems s then (postsAt (fitsIn s) n c).toList else []) := by
  have still (kept : atBoundary (fitsIn s) c = c) (none : postsAt (fitsIn s) n c = none) :
      s.sources = s.sources.set n (turned (takesItems s) (fitsIn s) n c) ∧
      s.tx.queue = s.tx.queue ++ (if takesItems s then (postsAt (fitsIn s) n c).toList else []) := by
    rw [turned_of_none none, kept, none]
    exact ⟨(set_same here).symm, by simp⟩
  have changed {f : Source → Source} (is : f c = atBoundary (fitsIn s) c) (none : postsAt (fitsIn s) n c = none) :
      (s.modSource n f).sources = s.sources.set n (turned (takesItems s) (fitsIn s) n c) ∧
      (s.modSource n f).tx.queue = s.tx.queue ++ (if takesItems s then (postsAt (fitsIn s) n c).toList else []) := by
    rw [turned_of_none none, none, ← is]
    exact ⟨modify_of_getElem? f here, by simp⟩
  have posted {it : QItem} {f : Source → Source} (posts : postsAt (fitsIn s) n c = some it)
      (is : ∀ q, { f c with queuedItem := q } = { atBoundary (fitsIn s) c with queuedItem := q }) :
      (post it (s.modSource n f)).sources = s.sources.set n (turned (takesItems s) (fitsIn s) n c) ∧
      (post it (s.modSource n f)).tx.queue =
        s.tx.queue ++ (if takesItems s then (postsAt (fitsIn s) n c).toList else []) := by
    obtain ⟨sources, queue⟩ := post_own (s := s.modSource n f) (postsAt_own posts) (postable (by rw [posts]; rfl))
    rw [sources, queue, turned_of_some posts, posts, ← is]
    refine ⟨?_, rfl⟩
    show (s.sources.modify n f).modify n _ = _
    rw [List.modify_modify_eq, modify_of_getElem? _ here]
    rfl
  have unchanged : s.modSource n id = s := by
    show { s with sources := s.sources.modify n id } = s
    rw [modify_of_getElem? id here, id, set_same here]
  unfold sourceBoundary
  rw [here]
  dsimp only
  cases state : c.state with
  | owned => exact changed (by simp [atBoundary, state]) (by simp [postsAt, state])
  | backoff =>
    dsimp only
    by_cases low : c.backoff ≤ 1
    · rw [if_pos low]
      exact posted (by simp [postsAt, state, low]) (by simp [atBoundary, state, low])
    · rw [if_neg low]
      exact changed (by simp [atBoundary, state, low]) (by simp [postsAt, state, low])
  | blocked =>
    dsimp only
    by_cases fits : (lowestRun s c.cfg.channels []).isSome = true
    · rw [if_pos fits]
      exact posted (by simp [postsAt, state, fitsIn, fits]) (by simp [atBoundary, state, fitsIn, fits])
    · rw [if_neg fits]
      exact still (by simp [atBoundary, state, fitsIn, fits]) (by simp [postsAt, state, fitsIn, fits])
  | seeking =>
    dsimp only
    split
    case isTrue nothing =>
      have is := posted (it := .claim n) (f := id) (by simp [postsAt, state, nothing]) (by simp [atBoundary, state])
      rwa [unchanged] at is
    case isFalse queued => exact still (by simp [atBoundary, state]) (by simp [postsAt, state, queued])
  | releasing =>
    dsimp only
    split
    case isTrue nothing =>
      unfold postRelease
      rw [here]
      dsimp only
      cases run : c.run with
      | none => exact still (by simp [atBoundary, state]) (by simp [postsAt, state, nothing, run])
      | some r =>
        have is := posted (it := .release n c.cfg.tag r false) (f := id) (by simp [postsAt, state, nothing, run])
          (by simp [atBoundary, state])
        rwa [unchanged] at is
    case isFalse queued => exact still (by simp [atBoundary, state]) (by simp [postsAt, state, queued])
  | idle | claiming | clashed | halted => exact still (by simp [atBoundary, state]) (by simp [postsAt, state])

/-! ### Every turn -/

/-- What the first `i` sources post at a boundary, in their order. -/
def postedBelow (s : State) (i : Nat) : List QItem :=
  (List.range i).flatMap (fun j => ((s.sources[j]?).bind (postsAt (fitsIn s) j)).toList)

theorem postedBelow_succ (s : State) (i : Nat) :
    postedBelow s (i + 1) = postedBelow s i ++ ((s.sources[i]?).bind (postsAt (fitsIn s) i)).toList := by
  simp [postedBelow, List.range_succ]

theorem postsAt_of_owned {fits : Nat → Bool} {n : Nat} {c : Source} (owned : c.state = .owned) :
    postsAt fits n c = none := by
  unfold postsAt
  rw [owned]

/-- OWNED sources post nothing at their turn, any other at most one item. -/
theorem postedBelow_length (s : State) (i : Nat) : (postedBelow s i).length ≤ othersBelow s i := by
  induction i with
  | zero => exact Nat.zero_le _
  | succ i ih =>
    rw [postedBelow_succ, List.length_append]
    cases here : s.sources[i]? with
    | none =>
      have grows : othersBelow s i ≤ othersBelow s (i + 1) :=
        ((List.take_sublist_take_left (Nat.le_succ i))).countP_le
      exact Nat.le_trans ih grows
    | some c =>
      rw [othersBelow_succ here, Option.bind_some]
      by_cases owned : c.state = .owned
      · rw [if_pos owned, postsAt_of_owned owned]
        exact ih
      · rw [if_neg owned]
        have one : (postsAt (fitsIn s) i c).toList.length ≤ 1 := by cases postsAt (fitsIn s) i c <;> simp
        omega

/-- A source's own item is posted at its own turn alone. -/
theorem postedBelow_count {s : State} {n : Nat} {c : Source} {it : QItem} (here : s.sources[n]? = some c)
    (own : it = .claim n ∨ ∃ tag r, it = .release n tag r false) (i : Nat) :
    (postedBelow s i).count it = if n < i ∧ postsAt (fitsIn s) n c = some it then 1 else 0 := by
  induction i with
  | zero => simp [postedBelow]
  | succ i ih =>
    rw [postedBelow_succ, List.count_append, ih]
    by_cases last : n = i
    · subst last
      rw [here, Option.bind_some]
      cases posts : postsAt (fitsIn s) n c with
      | none => simp
      | some x => by_cases same : x = it <;> simp [same]
    · have foreign : ((s.sources[i]?).bind (postsAt (fitsIn s) i)).toList.count it = 0 := by
        refine List.count_eq_zero.mpr fun mem => last ?_
        obtain ⟨d, -, posts⟩ := Option.bind_eq_some_iff.mp (Option.mem_toList.mp mem)
        rcases own with rfl | ⟨tag, r, rfl⟩ <;> rcases postsAt_own posts with is | ⟨_, _, is⟩ <;> cases is <;> rfl
      rw [foreign]
      have step : n < i + 1 ↔ n < i := by omega
      simp [step]

/-- Every source's turn at a boundary, in LOCKED with room for each that is not OWNED, or in LEAVING. -/
theorem sourcesBoundary_turned {s : State}
    (calm : (s.sync.state = .locked ∧ s.tx.queue.length + othersBelow s s.sources.length ≤ 16) ∨ s.sync.state = .leaving) :
    (∀ j, (sourcesBoundary s).sources[j]? = (s.sources[j]?).map (turned (takesItems s) (fitsIn s) j)) ∧
    (sourcesBoundary s).tx.queue = s.tx.queue ++ (if takesItems s then postedBelow s s.sources.length else []) := by
  have looped := forEach_ind (f := sourceBoundary) (s := s)
    (fun i t => i ≤ s.sources.length → t.sync = s.sync ∧ t.alloc = s.alloc ∧
      (∀ j, t.sources[j]? = (s.sources[j]?).map (if j < i then turned (takesItems s) (fitsIn s) j else id)) ∧
      t.tx.queue = s.tx.queue ++ (if takesItems s then postedBelow s i else []))
    (fun _ => ⟨rfl, rfl, fun j => by simp, by simp [postedBelow]⟩)
    (fun i t before inside => by
      obtain ⟨sync, alloc, sources, queue⟩ := before (by omega)
      obtain ⟨c, here⟩ : ∃ c, s.sources[i]? = some c := ⟨_, List.getElem?_eq_getElem inside⟩
      have at' : t.sources[i]? = some c := by rw [sources, here, if_neg (Nat.lt_irrefl i)]; rfl
      have fits : fitsIn t = fitsIn s := fitsIn_of_alloc alloc
      have takes : takesItems t = takesItems s := by unfold takesItems; rw [sync]
      have postable (posts : (postsAt (fitsIn t) i c).isSome = true) : Postable t := by
        unfold Postable
        rw [sync]
        refine calm.imp (fun ⟨locked, room⟩ => ⟨locked, ?_⟩) id
        have notOwned : c.state ≠ .owned := fun owned => by rw [postsAt_of_owned owned] at posts; cases posts
        have takesS : takesItems s = true := by simp [takesItems, locked]
        have few := postedBelow_length s i
        have step := othersBelow_succ here
        have total : othersBelow s (i + 1) ≤ othersBelow s s.sources.length :=
          (List.take_sublist_take_left inside).countP_le
        rw [if_neg notOwned] at step
        rw [queue, takesS, List.length_append]
        simp only [if_true]
        omega
      obtain ⟨sources', queue'⟩ := sourceBoundary_turned at' postable
      refine ⟨by simpa using sync, by simpa using alloc, fun j => ?_, ?_⟩
      · rw [sources', List.getElem?_set, takes, fits]
        by_cases same : i = j
        · subst same
          have inT : i < t.sources.length := (List.getElem?_eq_some_iff.mp at').1
          rw [if_pos rfl, if_pos inT, here, if_pos (Nat.lt_succ_self i)]
          rfl
        · have step : j < i + 1 ↔ j < i := by omega
          rw [if_neg same, sources j]
          simp only [step]
      · rw [queue', queue, takes, fits, postedBelow_succ, here]
        cases takesItems s <;> simp)
    s.sources.length (Nat.le_refl _)
  obtain ⟨-, -, sources, queue⟩ := looped
  refine ⟨fun j => ?_, queue⟩
  refine (sources j).trans ?_
  split
  · rfl
  case isFalse beyond => rw [List.getElem?_eq_none (Nat.not_lt.mp beyond)]; rfl


/-! ### The frame start of LOCKED and LEAVING -/

theorem portAtFrameStart_length (short : Bool) (sh : List (List Bool)) (p : Nat) (s : State) :
    (portAtFrameStart short sh p s).sources.length = s.sources.length := by
  unfold portAtFrameStart
  split
  · unfold followFrame portFrame
    repeat' split
    all_goals simp [deliverLanes]
  · simp
  · rfl

theorem portsAtFrameStart_length (short : Bool) (sh : List (List Bool)) (s : State) :
    (portsAtFrameStart short sh s).sources.length = s.sources.length :=
  forEach_inv (fun t => t.sources.length = s.sources.length) 4 (portAtFrameStart short sh) s rfl
    fun p t same => (portAtFrameStart_length short sh p t).trans same

theorem frameBegun_length (sh : List (List Bool)) (s : State) :
    (frameBegun sh s).sources.length = (frameSync s).sources.length :=
  portsAtFrameStart_length _ sh (driveMarker (frameSync s))

section
variable {sh : List (List Bool)} {s : State}

theorem takesCells_of_calm (calm : s.sync.state = .locked ∨ s.sync.state = .leaving) : s.sync.state.takesCells = true := by
  rcases calm with is | is <;> (rw [is]; rfl)

/-- In LOCKED and LEAVING a frame start steps the frame alone (R2). -/
theorem frameSync_calm (calm : s.sync.state = .locked ∨ s.sync.state = .leaving) : frameSync s = frameStepped s := by
  have state : (frameStepped s).sync.state = s.sync.state := by rw [frameStepped_sync]; rfl
  rw [frameSync_step (founds_of_takesCells (takesCells_of_calm calm))]
  unfold syncAtFrameStart
  rw [state]
  rcases calm with is | is <;> rw [is]

theorem frameBegun_calm (calm : s.sync.state = .locked ∨ s.sync.state = .leaving) :
    (frameBegun sh s).sync.state = s.sync.state := by
  rw [(frameBegun_frame sh s).1, frameSync_calm calm, frameStepped_sync]
  rfl

theorem atUpkeep_calm (calm : s.sync.state = .locked ∨ s.sync.state = .leaving) : atUpkeep sh s = frameBegun sh s := by
  have state := frameBegun_calm (sh := sh) calm
  unfold atUpkeep syncAtBoundary
  rw [state]
  rcases calm with is | is <;> rw [is]

theorem atUpkeep_calm_frame (calm : s.sync.state = .locked ∨ s.sync.state = .leaving) :
    (atUpkeep sh s).sync.state = s.sync.state ∧ (atUpkeep sh s).tx = s.tx ∧
    (atUpkeep sh s).sources.length = s.sources.length := by
  rw [atUpkeep_calm calm, frameBegun_length, (frameBegun_frame sh s).2.2.1, frameSync_calm calm]
  exact ⟨frameBegun_calm calm, rfl, List.length_map _⟩

/-- A source at the upkeep in LOCKED and LEAVING: a port fills the queue of a CLAIMING or OWNED one alone (R128). -/
theorem atUpkeep_calm_source (calm : s.sync.state = .locked ∨ s.sync.state = .leaving) {n : Nat} {c : Source}
    (here : s.sources[n]? = some c) : ∃ q, (atUpkeep sh s).sources[n]? = some { c with collidedNow := false, queue := q } ∧
      (q = c.queue ∨ c.state = .claiming ∨ c.state = .owned) := by
  have before : (frameSync s).sources[n]? = some { c with collidedNow := false } := by
    rw [frameSync_calm calm]
    exact frameStepped_source here
  obtain ⟨q, begun, why⟩ := (frameBegun_onlyFollows sh s).sources n _ before
  rw [atUpkeep_calm calm]
  exact ⟨q, begun, why.imp_right fun takes => takes.1⟩

theorem atUpkeep_ownActive (own : OwnActive s) : OwnActive (atUpkeep sh s) := by
  obtain ⟨-, -, -, -, -, loader, -⟩ := frameBegun_frame sh s
  exact ownActive_of_same own (atUpkeep_alloc sh) (by simp [atUpkeep, loader])

theorem statesOf_upkeepTables {v : State} (own : OwnActive v) : statesOf (upkeepTables v) = statesOf v := by
  have told (t : State) (j : Nat) : (statesOf t)[j]? = (sourceAt t j).map Source.state := by
    unfold statesOf sourceAt
    rw [List.getElem?_map, Option.map_map]
    rfl
  refine List.ext_getElem? fun j => ?_
  rw [told, told, upkeepTables_sourceAt own, Option.map_map]
  refine congrArg (fun g => (sourceAt v j).map g) (funext fun c => ?_)
  show (refreshed c).state = c.state
  unfold refreshed
  split <;> rfl

theorem upkeepTables_calm (calm : s.sync.state = .locked ∨ s.sync.state = .leaving) (own : OwnActive s)
    (room : s.sync.state = .locked → s.tx.queue.length + s.sources.length ≤ 16) :
    OnlyOffers (atUpkeep sh s) (upkeepTables (atUpkeep sh s)) ∧
    (s.sync.state = .locked → (upkeepTables (atUpkeep sh s)).tx.queue.length +
      othersBelow (upkeepTables (atUpkeep sh s)) (upkeepTables (atUpkeep sh s)).sources.length ≤ 16) := by
  obtain ⟨state, tx, length⟩ := atUpkeep_calm_frame (sh := sh) calm
  have ownV := atUpkeep_ownActive (sh := sh) own
  rcases calm with locked | leaving
  · have roomS := room locked
    obtain ⟨offers, few, -⟩ := upkeepTables_locked ownV (state.trans locked) (by rw [tx, length]; exact roomS)
    refine ⟨offers, fun _ => ?_⟩
    have each := below_le (atUpkeep sh s) (atUpkeep sh s).sources.length (upkeepTables (atUpkeep sh s)).sources.length
    unfold othersBelow at each ⊢
    rw [statesOf_upkeepTables ownV]
    rw [tx] at few
    omega
  · exact ⟨upkeepTables_leaving ownV (state.trans leaving), fun locked => by cases leaving.symm.trans locked⟩

/-- A boundary of LOCKED or LEAVING: the upkeep, then every source's turn, on the map that stands after it. -/
theorem frameStarted_turned (calm : s.sync.state = .locked ∨ s.sync.state = .leaving) (last : s.sync.frameIndex = 31)
    (own : OwnActive s) (room : s.sync.state = .locked → s.tx.queue.length + s.sources.length ≤ 16) :
    (∀ j, (frameStarted sh s).sources[j]? = ((upkeepTables (atUpkeep sh s)).sources[j]?).map
      (turned (takesItems s) (fitsIn (frameStarted sh s)) j)) ∧
    (frameStarted sh s).tx.queue = (upkeepTables (atUpkeep sh s)).tx.queue ++ (if takesItems s
      then postedBelow (upkeepTables (atUpkeep sh s)) (upkeepTables (atUpkeep sh s)).sources.length else []) ∧
    fitsIn (upkeepTables (atUpkeep sh s)) = fitsIn (frameStarted sh s) := by
  have takes := takesCells_of_calm calm
  obtain ⟨offers, budget⟩ := upkeepTables_calm (sh := sh) calm own room
  have state : (upkeepTables (atUpkeep sh s)).sync.state = s.sync.state := by
    rw [offers.sync, (atUpkeep_calm_frame calm).1]
  have fits : fitsIn (upkeepTables (atUpkeep sh s)) = fitsIn (frameStarted sh s) :=
    fitsIn_of_alloc ((upkeepTables_alloc _).trans (frameStarted_upkept sh takes last).1.symm)
  have upkept : upkeep (syncAtBoundary (frameBegun sh s)) = action upkeepTables (atUpkeep sh s) :=
    if_pos (atUpkeep_takesCells sh takes)
  have ran : frameStarted sh s = relayDeadlines (sourcesBoundary (action upkeepTables (atUpkeep sh s))) := by
    rw [frameStarted_boundary (crosses_of_takesCells takes last)]
    unfold boundary
    dsimp only
    rw [upkept, if_neg (by rw [frameBegun_calm calm]; rcases calm with is | is <;> (rw [is]; nofun))]
  rw [← fits, ran]
  revert offers budget state
  generalize hw : upkeepTables (atUpkeep sh s) = w
  intro offers budget state
  have frame := action_frame upkeepTables (atUpkeep sh s)
  rw [hw] at frame
  obtain ⟨-, -, -, sync, -, -, tx, -, alloc, sources, -⟩ := frame
  have same : takesItems (action upkeepTables (atUpkeep sh s)) = takesItems s := by
    unfold takesItems
    rw [sync, state]
  have turns := sourcesBoundary_turned (s := action upkeepTables (atUpkeep sh s)) (by
    unfold othersBelow statesOf
    rw [sync, state, tx, sources]
    exact calm.imp (fun locked => ⟨locked, budget locked⟩) id)
  have posted : postedBelow (action upkeepTables (atUpkeep sh s)) w.sources.length = postedBelow w w.sources.length := by
    unfold postedBelow
    rw [fitsIn_of_alloc alloc, sources]
  rw [fitsIn_of_alloc alloc, sources, tx, same, posted] at turns
  obtain ⟨turnedAll, queue⟩ := turns
  have ends : (relayDeadlines (sourcesBoundary (action upkeepTables (atUpkeep sh s)))).sources =
      (sourcesBoundary (action upkeepTables (atUpkeep sh s))).sources ∧
      (relayDeadlines (sourcesBoundary (action upkeepTables (atUpkeep sh s)))).tx =
      (sourcesBoundary (action upkeepTables (atUpkeep sh s))).tx := by simp
  rw [ends.1, ends.2]
  exact ⟨turnedAll, queue, rfl⟩

end

/-! ### The obligation -/

theorem fitsIn_iff {s : State} {count : Nat} : fitsIn s count = true ↔
    ∃ f, 8 ≤ f ∧ f + count ≤ 64 ∧ ∀ k, f ≤ k → k < f + count → (s.slot k).use = .free := by
  have free (f : Nat) : runFree s f count = true ↔ ∀ k, f ≤ k → k < f + count → (s.slot k).use = .free := by
    rw [runFree_iff]
    simp only [mem_runSlots, and_imp]
  unfold fitsIn lowestRun
  simp only [List.all_nil, Bool.and_true, List.find?_isSome, mem_runSlots, free]
  constructor
  · rintro ⟨f, ⟨low, high⟩, all⟩
    exact ⟨f, low, by omega, all⟩
  · rintro ⟨f, low, high, all⟩
    exact ⟨f, ⟨low, by omega⟩, all⟩

/-- What source `n`, which stood as `d`, and its items in the queue are after a boundary at which it had its turn. -/
structure TurnTaken (fits : Nat → Bool) (n : Nat) (d : Source) (s t : State) : Prop where
  source : t.sources[n]? = some (turned (takesItems s) fits n d)
  count : ∀ it : QItem, (it = .claim n ∨ ∃ tag r, it = .release n tag r false) → t.tx.queue.count it =
    s.tx.queue.count it + if takesItems s = true ∧ postsAt fits n d = some it then 1 else 0

theorem TurnTaken.posts {fits : Nat → Bool} {n : Nat} {d : Source} {s t : State} (turn : TurnTaken fits n d s t) {it : QItem}
    (posts : postsAt fits n d = some it) : turned (takesItems s) fits n d =
      { atBoundary fits d with queuedItem := if s.sync.state = .locked then notedAs it else .nothing } ∧
    t.tx.queue.count it = s.tx.queue.count it + if s.sync.state = .locked then 1 else 0 := by
  have takes : takesItems s = true ↔ s.sync.state = .locked := beq_iff_eq
  refine ⟨(turned_of_some posts).trans ?_, (turn.count it (postsAt_own posts)).trans ?_⟩
  · simp only [takes]
  · simp only [takes, posts, and_true]

theorem TurnTaken.silent {fits : Nat → Bool} {n : Nat} {d : Source} {s t : State} (turn : TurnTaken fits n d s t)
    (silent : postsAt fits n d = none) {it : QItem} (own : it = .claim n ∨ ∃ tag r, it = .release n tag r false) :
    turned (takesItems s) fits n d = atBoundary fits d ∧ t.tx.queue.count it = s.tx.queue.count it + 0 := by
  refine ⟨turned_of_none silent, (turn.count it own).trans ?_⟩
  rw [silent]
  simp

section
variable {sh : List (List Bool)} {s : State} {n : Nat} {c : Source}

/-- A source that is neither CLAIMING nor OWNED at a boundary of LOCKED or LEAVING: its turn, and its items in the queue. -/
theorem frameStarted_turn (calm : s.sync.state = .locked ∨ s.sync.state = .leaving) (last : s.sync.frameIndex = 31)
    (own : OwnActive s) (room : s.sync.state = .locked → s.tx.queue.length + s.sources.length ≤ 16)
    (here : s.sources[n]? = some c) (notClaiming : c.state ≠ .claiming) (notOwned : c.state ≠ .owned) :
    TurnTaken (fitsIn (frameStarted sh s)) n { c with collidedNow := false } s (frameStarted sh s) := by
  obtain ⟨q, begun, why⟩ := atUpkeep_calm_source (sh := sh) calm here
  obtain rfl : q = c.queue := why.resolve_right (by simp [notClaiming, notOwned])
  obtain ⟨offers, -⟩ := upkeepTables_calm (sh := sh) calm own room
  obtain ⟨turns, queue, fits⟩ := frameStarted_turned (sh := sh) calm last own room
  have stands := offers.others n _ begun notOwned
  refine ⟨by rw [turns, stands]; rfl, fun it mine => ?_⟩
  have notOffer (m : Nat) (o : Bool) : it ≠ .offer m o := by rcases mine with rfl | ⟨_, _, rfl⟩ <;> nofun
  have below := (List.getElem?_eq_some_iff.mp stands).1
  rw [queue, List.count_append, offers.count it notOffer, (atUpkeep_calm_frame calm).2.1]
  refine congrArg (s.tx.queue.count it + ·) ?_
  cases takesItems s with
  | true =>
    have counted := postedBelow_count stands mine (upkeepTables (atUpkeep sh s)).sources.length
    rw [fits] at counted
    simpa [below] using counted
  | false => simp

/-- Any source still stands after a boundary. -/
theorem frameStarted_source (calm : s.sync.state = .locked ∨ s.sync.state = .leaving) (last : s.sync.frameIndex = 31)
    (own : OwnActive s) (here : s.sources[n]? = some c) : ∃ q, sourceAt (frameStarted sh s) n =
      some (atBoundary (fitsIn (frameStarted sh s)) (refreshed (unqueued { c with collidedNow := false, queue := q }))) := by
  have takes := takesCells_of_calm calm
  obtain ⟨q, begun, -⟩ := atUpkeep_calm_source (sh := sh) calm here
  refine ⟨q, ?_⟩
  rw [frameStarted_sourceAt takes last, if_neg (by rw [frameBegun_calm calm]; rcases calm with is | is <;> (rw [is]; nofun)),
    upkeepTables_sourceAt (atUpkeep_ownActive own), sourceAt_some begun]
  rfl

theorem takesItems_of_locked (locked : s.sync.state = .locked) : takesItems s = true := by simp [takesItems, locked]

theorem takesItems_of_leaving (leaving : s.sync.state = .leaving) : takesItems s = false := by simp [takesItems, leaving]

theorem backoffEnds_of (calm : s.sync.state = .locked ∨ s.sync.state = .leaving) (last : s.sync.frameIndex = 31)
    (here : s.sources[n]? = some c) (backoff : c.state = .backoff) (one : c.backoff = 1) : backoffEnds n s = true := by
  have crosses := crosses_of_takesCells (takesCells_of_calm calm) last
  have notFounding : s.sync.state ≠ .founding := by rcases calm with is | is <;> (rw [is]; nofun)
  simp [backoffEnds, crosses, notFounding, here, backoff, one]

/-- A source whose back-off ends at a boundary seeks, and its CLAIM is posted (R124). -/
theorem turned_backoffOver {fits : Nat → Bool} (backoff : c.state = .backoff) (one : c.backoff = 1) (takes : Bool) :
    postsAt fits n { c with collidedNow := false } = some (.claim n) ∧
    turned takes fits n { c with collidedNow := false } = { c with
      collidedNow := false, state := .seeking, backoff := 0, queuedItem := if takes then .claim else .nothing } := by
  have posts : postsAt fits n { c with collidedNow := false } = some (.claim n) := by simp [postsAt, backoff, one]
  refine ⟨posts, ?_⟩
  rw [turned_of_some posts]
  simp [atBoundary, backoff, one, notedAs]

end

/-- Settles O29: with room for one item of each source no post of the boundary evicts or is lost, so the refresh OFFERs and
each source's own turn are all that happens; LEAVING refuses them. -/
theorem refreshAndBackoffRunOut : Obligations.RefreshAndBackoffRunOut := by
  intro n sh c s high last here own
  have ownActive : OwnActive s := own
  refine ⟨fun owned seven locked room => ?_, fun backoff one locked room => ?_, fun backoff one leaving => ?_,
    fun calm room => ?_⟩
  · have calm : s.sync.state = .locked ∨ s.sync.state = .leaving := .inl locked
    have takes := takesCells_of_calm calm
    have due : refreshDue n s = true := by
      simp [refreshDue, upkeepDue, takes, crosses_of_takesCells takes last, here, owned, seven]
    obtain ⟨q, after⟩ := frameStarted_source (sh := sh) calm last ownActive here
    have is : atBoundary (fitsIn (frameStarted sh s)) (refreshed (unqueued { c with collidedNow := false, queue := q })) =
        unqueued { c with collidedNow := false, queue := q, refresh := 0, tally := 0 } := by
      simp [refreshed, atBoundary, unqueued, owned, seven]
    rw [is] at after
    obtain ⟨queued, stands⟩ := of_sourceAt after
    obtain ⟨state, tx, length⟩ := atUpkeep_calm_frame (sh := sh) calm
    obtain ⟨q', begun, -⟩ := atUpkeep_calm_source (sh := sh) calm here
    obtain ⟨-, -, offered⟩ := upkeepTables_locked (atUpkeep_ownActive (sh := sh) ownActive) (state.trans locked)
      (by rw [tx, length]; exact room)
    have has := hasOffer_iff.mp (offered n _ begun owned (by simp [seven]))
    obtain ⟨-, queue, -⟩ := frameStarted_turned (sh := sh) calm last ownActive (fun _ => room)
    refine ⟨_, _, exec_frameRow (c := .refreshDue n sh) rfl due high (timerRuns_of_takesCells takes), stands, owned, rfl, rfl,
      rfl, rfl, ?_⟩
    rw [queue]
    exact has.imp (List.mem_append_left _) (List.mem_append_left _)
  · have calm : s.sync.state = .locked ∨ s.sync.state = .leaving := .inl locked
    have runs := timerRuns_of_takesCells (takesCells_of_calm calm)
    have turn := frameStarted_turn (sh := sh) calm last ownActive (fun _ => room) here
      (by rw [backoff]; nofun) (by rw [backoff]; nofun)
    have stands := turn.source
    obtain ⟨posts, is⟩ := turned_backoffOver (n := n) (fits := fitsIn (frameStarted sh s)) backoff one true
    rw [takesItems_of_locked locked, is] at stands
    refine ⟨_, _, exec_frameRow (c := .backoffExpiry n sh) rfl (backoffEnds_of calm last here backoff one) high runs, stands,
      rfl, rfl, rfl, rfl, ?_⟩
    have one := (turn.posts posts).2
    rw [if_pos locked] at one
    exact List.count_pos_iff.mp (by omega)
  · have calm : s.sync.state = .locked ∨ s.sync.state = .leaving := .inr leaving
    have runs := timerRuns_of_takesCells (takesCells_of_calm calm)
    have stands := (frameStarted_turn (sh := sh) calm last ownActive (fun locked => by cases leaving.symm.trans locked) here
      (by rw [backoff]; nofun) (by rw [backoff]; nofun)).source
    obtain ⟨-, is⟩ := turned_backoffOver (n := n) (fits := fitsIn (frameStarted sh s)) backoff one false
    rw [takesItems_of_leaving leaving, is] at stands
    exact ⟨_, _, exec_frameRow (c := .backoffExpiry n sh) rfl (backoffEnds_of calm last here backoff one) high runs, stands,
      rfl, rfl, rfl, rfl⟩
  · have runs := timerRuns_of_takesCells (takesCells_of_calm calm)
    by_cases busy : c.state = .claiming ∨ c.state = .owned
    · obtain ⟨q, after⟩ := frameStarted_source (sh := sh) calm last ownActive here
      obtain ⟨d, stands, -⟩ := Option.map_eq_some_iff.mp after
      refine ⟨_, d, exec_frameStart high runs, stands, ?_⟩
      rcases busy with is | is <;> simp [is]
    · rw [not_or] at busy
      have turn := frameStarted_turn (sh := sh) calm last ownActive (fun _ => room) here busy.1 busy.2
      refine ⟨_, _, exec_frameStart high runs, turn.source, ?_⟩
      intro more posted item fits same
      have fits_iff : fitsIn (frameStarted sh s) c.cfg.channels = true ↔ fits := fitsIn_iff
      refine ⟨fun blocked fit => ?_, fun blocked none => ?_, fun seeking nothing => ?_, fun seeking queued => ?_,
        fun run releasing its nothing => ?_, fun run releasing its queued => ?_, fun backoff many => ?_⟩
      · obtain ⟨is, counted⟩ := turn.posts (it := .claim n) (by simp [postsAt, blocked, fits_iff.mpr fit])
        exact ⟨is.trans (by simp [atBoundary, same, item, blocked, fits_iff.mpr fit, notedAs]), counted⟩
      · have not : fitsIn (frameStarted sh s) c.cfg.channels = false := Bool.eq_false_iff.mpr (mt fits_iff.mp none)
        obtain ⟨is, counted⟩ := turn.silent (by simp [postsAt, blocked, not]) (it := .claim n) (.inl rfl)
        exact ⟨is.trans (by simp [atBoundary, same, blocked, not]), counted⟩
      · obtain ⟨is, counted⟩ := turn.posts (it := .claim n) (by simp [postsAt, seeking, nothing])
        exact ⟨is.trans (by simp [atBoundary, same, item, seeking, notedAs]), counted⟩
      · obtain ⟨is, counted⟩ := turn.silent (by simp [postsAt, seeking, queued]) (it := .claim n) (.inl rfl)
        exact ⟨is.trans (by simp [atBoundary, same, seeking]), counted⟩
      · obtain ⟨is, counted⟩ := turn.posts (it := .release n c.cfg.tag run false)
          (by simp [postsAt, releasing, its, nothing])
        exact ⟨is.trans (by simp [atBoundary, same, item, releasing, notedAs]), counted⟩
      · obtain ⟨is, counted⟩ := turn.silent (by simp [postsAt, releasing, queued])
          (it := .release n c.cfg.tag run false) (.inr ⟨_, _, rfl⟩)
        exact ⟨is.trans (by simp [atBoundary, same, releasing]), counted⟩
      · have not : ¬c.backoff ≤ 1 := by omega
        obtain ⟨is, counted⟩ := turn.silent (by simp [postsAt, backoff, not]) (it := .claim n) (.inl rfl)
        exact ⟨is.trans (by simp [atBoundary, same, backoff, not]), counted⟩
end Sys2Proof.Proofs
end
